-- ==== Sys2Proof/Word.lean ====
section
/-! DEFINITION. The two word sizes the line, the slots and the configuration block are made of. -/

namespace Sys2Proof

/-- One byte of a telegram, of a record slot or of the start counter (R157, R168, R174). -/
abbrev Byte := BitVec 8

/-- One word of two bytes: a channel value (R25) or a word of the configuration block (R181). -/
abbrev Half := BitVec 16

end Sys2Proof
end

