-- ==== Sys2Proof/Syntax.lean ====
section
/-! DEFINITION. The commands of the part: one constructor per row of spec/opcode_table.json, and the
types their operands have. -/

namespace Sys2Proof

/-- Why the part entered start (R175). -/
inductive StartCause | power | supply | pin
  deriving DecidableEq, Repr

/-- The eight discrete inputs IN0..IN7 (R35). `in2` is CLC or DRC, `in3` is HCD or SRF, by role. -/
inductive Pin | ilk | str | in2 | in3 | vaf | vbf | fcl | svc
  deriving DecidableEq, Repr

/-- The manifold routes (00_scope): A to the halocarbon receiver, B to the hydrocarbon receiver. -/
inductive Route | A | B
  deriving DecidableEq, Repr

/-- The eleven trip sources (R147). -/
inductive TripSource
  | clampTimeout | valveA | valveB | flowZero | flowOver | channelOver
  | circuitHigh | headerSevere | ambientStop | oxygenHigh | chamberStop
  deriving DecidableEq, Repr

/-- The key of an account (R1). -/
structure Key where
  origin : Nat
  count  : Nat
  number : Nat
  deriving DecidableEq, Repr

/-- One station sample (R24): the value of each channel after its factory scaling (log 6), and the raw
level of input INi in bit i of `levels`. -/
structure Sample where
  ch0 : Half
  ch1 : Half
  ch2 : Half
  ch3 : Half
  ch4 : Half
  ch5 : Half
  ch6 : Half
  ch7 : Half
  levels : Byte
  deriving DecidableEq, Repr

/-- A valid telegram as LI received it: source, destination and payload (R157, R178). Its kind is the
command's own. -/
structure Frame where
  src : Byte
  dst : Byte
  payload : List Byte
  deriving DecidableEq, Repr

/-- A run of characters LI received as a telegram (R157): its bytes, whether a stop bit was read
dominant, and whether the line went idle before its last character had ended. -/
structure Reception where
  bytes : List Byte
  stopDominant : Bool
  cutShort : Bool
  deriving DecidableEq, Repr

/-- The commands. Each constructor is one row of the table; its docstring names the row's rule. -/
inductive Instr
  /-- START (R175): the part enters start for this cause. -/
  | start (cause : StartCause)
  /-- STARTING (R175): the part leaves the start hold. -/
  | starting
  /-- INPUT_FILTER_FILL (R34). -/
  | inputFilterFill (pin : Pin)
  /-- JOINING_END (R175). -/
  | joiningEnd
  /-- STATION_SAMPLE (R24). -/
  | stationSample (x : Sample)
  /-- VALVE_DISCREPANCY (R36) of the valve of a route. -/
  | valveDiscrepancy (r : Route)
  /-- TRIP_FILTER_MET (R148). -/
  | tripFilterMet (t : TripSource)
  /-- RECOVERY_TIMER_EXPIRY (R150). -/
  | recoveryTimerExpiry (t : TripSource)
  /-- FAULT_CLEAR (R154). -/
  | faultClear (f : Frame)
  /-- FAULT_CLEAR_BUTTON (R154). -/
  | faultClearButton
  /-- ILK_FALL (R67). -/
  | ilkFall
  /-- ILK_RISE (R68). -/
  | ilkRise
  /-- START_EDGE (R15). -/
  | startEdge
  /-- CLC_RISE (R53). -/
  | clcRise
  /-- CLC_FALL (R54). -/
  | clcFall
  /-- CLAMP_TIMEOUT (R53). -/
  | clampTimeout
  /-- ZERO_WINDOW_COMPLETE (R39). -/
  | zeroWindowComplete
  /-- HCD_RISE (R56). -/
  | hcdRise
  /-- CLASSIFY_TIME_EXPIRY (R56). -/
  | classifyTimeExpiry
  /-- PULLDOWN_REACHED (R61). -/
  | pulldownReached
  /-- PULLDOWN_TIMEOUT (R61). -/
  | pulldownTimeout
  /-- P_START (R63). -/
  | pStart
  /-- HOLD_TIME_EXPIRY (R63). -/
  | holdTimeExpiry
  /-- STARVATION_PROMOTION (R70). -/
  | starvationPromotion
  /-- RELEASE_TIME_EXPIRY (R72). -/
  | releaseTimeExpiry
  /-- HEADER_HIGH (R114). -/
  | headerHigh
  /-- HEADER_RECOVERED (R114). -/
  | headerRecovered
  /-- OWN_HAZARD_CHANGE (R129). -/
  | ownHazardChange
  /-- OXYGEN_HIGH (R90). -/
  | oxygenHigh
  /-- OXYGEN_UNDER_RUN_LIMIT (R91). -/
  | oxygenUnderRunLimit
  /-- INERT_REACHED (R78). -/
  | inertReached
  /-- PURGE_NEEDED (R92). -/
  | purgeNeeded
  /-- PURGE_CLEAR_MET (R94). -/
  | purgeClearMet
  /-- QUIET (R97). -/
  | quiet
  /-- CARRY_OVER_EXPIRY (R96) of the chamber account with this key. -/
  | carryOverExpiry (k : Key)
  /-- DRC_FALL (R83). -/
  | drcFall
  /-- DRC_RISE (R83). -/
  | drcRise
  /-- SRF_CHANGE (R84). -/
  | srfChange
  /-- DOOR_TIMER_EXPIRY (R83). -/
  | doorTimerExpiry
  /-- SWEEP_WAIT_EXPIRY (R87). -/
  | sweepWaitExpiry
  /-- SWEEP_TIMER_EXPIRY (R86). -/
  | sweepTimerExpiry
  /-- SWEEP_RETRY_EXPIRY (R87). -/
  | sweepRetryExpiry
  /-- PURGE_WAIT_EXPIRY (R117). -/
  | purgeWaitExpiry
  /-- ANSWER_TIMER_EXPIRY (R138). -/
  | answerTimerExpiry
  /-- HOLD_OFF_EXPIRY (R139). -/
  | holdOffExpiry
  /-- PEER_STALE (R124) of the peer entry with this address. -/
  | peerStale (a : Fin 24)
  /-- STATUS_TIMER_EXPIRY (R127). -/
  | statusTimerExpiry
  /-- SERVICE_STATUS_EXPIRY (R176). -/
  | serviceStatusExpiry
  /-- SERVICE_IDLE_TIMER_EXPIRY (R176). -/
  | serviceIdleTimerExpiry
  /-- LINE_IDLE (R156). -/
  | lineIdle
  /-- TRANSMIT_START (R160) when this many bit times have passed since the line became idle. -/
  | transmitStart (bits : Nat)
  /-- COLLISION (R161). -/
  | collision
  /-- TRANSMIT_COMPLETE (R162). -/
  | transmitComplete
  /-- TELEGRAM_DISCARD (R157). -/
  | telegramDiscard (r : Reception)
  /-- STATUS (R123). -/
  | status (f : Frame)
  /-- CLAIM (R103). -/
  | claim (f : Frame)
  /-- RELEASE (R104). -/
  | release (f : Frame)
  /-- PURGE_CALL (R119). -/
  | purgeCall (f : Frame)
  /-- PURGE_CLEAR (R117). -/
  | purgeClear (f : Frame)
  /-- PURGE_END (R119). -/
  | purgeEnd (f : Frame)
  /-- CERTIFICATE (R122). -/
  | certificate (f : Frame)
  /-- READ_DATA (R122). -/
  | readData (f : Frame)
  /-- CHECK_RESULT (R122). -/
  | checkResult (f : Frame)
  /-- CONFIG_ANSWER (R122). -/
  | configAnswer (f : Frame)
  /-- ANNOUNCE (R14). -/
  | announce (f : Frame)
  /-- CLOSE_ACCOUNT (R17). -/
  | closeAccount (f : Frame)
  /-- ABANDON_ACCOUNT (R18). -/
  | abandonAccount (f : Frame)
  /-- OFFER (R140). -/
  | offer (f : Frame)
  /-- ACCEPT (R136). -/
  | accept (f : Frame)
  /-- REFUSE (R137). -/
  | refuse (f : Frame)
  /-- READ (R171). -/
  | read (f : Frame)
  /-- READ_NEXT (R171). -/
  | readNext (f : Frame)
  /-- COLLECT (R172). -/
  | collect (f : Frame)
  /-- CHECK_RANGE (R173). -/
  | checkRange (f : Frame)
  /-- KEY (R176). -/
  | key (f : Frame)
  /-- CONFIG_WRITE (R177). -/
  | configWrite (f : Frame)
  /-- CONFIG_COMMIT (R177). -/
  | configCommit (f : Frame)
  /-- CONFIG_COMMIT_VERIFY (R177) with the 56 words read back. -/
  | configCommitVerify (readBack : List Half)
  /-- COMMIT_BEGIN (R169). -/
  | commitBegin
  /-- COMMIT_VERIFY (R169) with the 64 bytes read back. -/
  | commitVerify (readBack : List Byte)
  /-- COLLECT_MARK (R172). -/
  | collectMark
  /-- SUPPLY_WARNING (R170) with the supply in units of 0.1 V. -/
  | supplyWarning (decivolts : Nat)
  /-- SUPPLY_WARNING_END (R170) with the supply in units of 0.1 V. -/
  | supplyWarningEnd (decivolts : Nat)
  /-- KIND_CODE_NOT_IN_TABLE (R158): a telegram with this kind code. -/
  | kindCodeNotInTable (code : Byte) (f : Frame)
  /-- LINE_BUSY (R156). -/
  | lineBusy
  deriving DecidableEq, Repr

end Sys2Proof
end

