-- ==== Sys2Proof/Config.lean ====
section
/-! DEFINITION. The free values: what the spec leaves open and the part goes on after. None has a
body, so no statement can rest on a value of one. Each is applied to the counter `State.free`, which a
step that reads one advances. -/

namespace Sys2Proof

/-- Whether the slot of a commit cut off by a start is fully written (R23, R175). DESIGN CHOICE, log 7. -/
opaque Config.slotWrittenAtStart : Nat → Bool

/-- Word `i` of a configuration block whose write was cut off (R177). DESIGN CHOICE, log 8. -/
opaque Config.cutBlockWord : Nat → Nat → Half

/-- The final pressure of an account whose E7 held no station sample (R3). DESIGN CHOICE, log 9. -/
opaque Config.unsampledFinalPressure : Nat → Half

/-- The value shown by a CONFIG ANSWER about a number that names no parameter (R179). DESIGN CHOICE, log 10. -/
opaque Config.unheldValue : Nat → Half

/-- The record sequence above 4,294,967,295 (R3, R168). DESIGN CHOICE, log 11. -/
opaque Config.sequenceAfterLast : Nat → BitVec 32

end Sys2Proof
end

