-- ==== Sys2Proof/Machine/State.lean ====
section
/-! DEFINITION. The state of the part, block by block (00_scope "Block overview"), as plain data, and the
state after reset. Defaults of fields are the values after start. -/

namespace Sys2Proof.Machine

/-! ### Names shared by the blocks -/

/-- The role of a party on the line (R121, R178). -/
inductive Role | unconfigured | extraction | foam | condenser | gateway
  deriving DecidableEq, Repr

/-- Hazard levels in ascending order (R129). -/
inductive Hazard | noHazard | watch | stop
  deriving DecidableEq, Repr

/-- Claim classes (R99). -/
inductive ClaimClass | ordinary | priority | exclusive
  deriving DecidableEq, Repr

/-- Gas classes as declared (R3). -/
inductive GasClass | halo | hc | unknown
  deriving DecidableEq, Repr

/-- A claim: route, class and demand in g/min (R99). -/
structure Claim where
  route : Route
  cls : ClaimClass
  demand : Nat
  deriving DecidableEq, Repr

/-- The kinds of telegram (R167). -/
inductive Kind
  | status | claim | release | purgeCall | purgeClear | purgeEnd | certificate | announce
  | closeAccount | abandonAccount | offer | accept | refuse | read | readNext | readData | collect
  | checkRange | checkResult | faultClear | key | configWrite | configCommit | configAnswer
  deriving DecidableEq, Repr

/-! ### Timers, comparators, filters (02) -/

/-- The three states of a timer (R32). -/
inductive TimerState | stopped | running | held
  deriving DecidableEq, Repr

/-- A timer: its state and its remaining time in whole milliseconds (R32). -/
structure Timer where
  st : TimerState := .stopped
  left : Nat := 0
  deriving DecidableEq, Repr

/-- A limit comparator (R28, R29). A continuous one is armed from the moment the configuration block has
passed its check. -/
structure Comparator where
  armed : Bool := false
  run : Nat := 0
  met : Bool := false
  deriving DecidableEq, Repr

/-- A discrete input filter (R33, R34). Until it is filled, `count` counts the equal raw levels ending in
`raw`; afterwards it counts raw levels that disagree with `level`. -/
structure Filter where
  filled : Bool := false
  level : Bool := false
  raw : Bool := false
  count : Nat := 0
  deriving DecidableEq, Repr

/-- One filter per discrete input (R35). -/
structure Filters where
  ilk : Filter := {}
  str : Filter := {}
  in2 : Filter := {}
  in3 : Filter := {}
  vaf : Filter := {}
  vbf : Filter := {}
  fcl : Filter := {}
  svc : Filter := {}
  deriving DecidableEq, Repr

/-- The thirteen comparators of R30. -/
structure Comparators where
  pulldown : Comparator := {}
  ambientWatch : Comparator := {}
  ambientStop : Comparator := {}
  headerHigh : Comparator := {}
  headerRecovered : Comparator := {}
  inert : Comparator := {}
  oxygenUnder : Comparator := {}
  oxygenHigh : Comparator := {}
  chamberWatch : Comparator := {}
  chamberStop : Comparator := {}
  purgeNeeded : Comparator := {}
  purgeClear : Comparator := {}
  quiet : Comparator := {}
  deriving DecidableEq, Repr

/-- The channel values of the most recent station sample, as delivered (R25). -/
structure Channels where
  c0 : Nat := 65535
  c1 : Nat := 65535
  c2 : Nat := 65535
  c3 : Nat := 65535
  c4 : Nat := 65535
  c5 : Nat := 65535
  c6 : Nat := 65535
  c7 : Nat := 65535
  deriving DecidableEq, Repr

/-- The zero window (R37): `first` is the CH0 value of its first sample. -/
structure Window where
  isOpen : Bool := false
  count : Nat := 0
  sum : Nat := 0
  overRange : Bool := false
  first : Nat := 0
  deriving DecidableEq, Repr

/-- Measurement Unit (02). -/
structure Measure where
  ch : Channels := {}
  filters : Filters := {}
  cmp : Comparators := {}
  /-- discrepancy counters of the route valves (R36) -/
  discA : Nat := 0
  discB : Nat := 0
  /-- the discrepancy of the valve has been found present (R36) -/
  presentA : Bool := false
  presentB : Bool := false
  window : Window := {}
  /-- zero in use, at FOAM the chamber zero in force (R39, R40) -/
  zero : Nat := 0
  zeroRejected : Bool := false
  deriving DecidableEq, Repr

/-! ### Accounts (01) -/

/-- Route taken (R3). -/
inductive RouteTaken | A | B | AthenB
  deriving DecidableEq, Repr

/-- Outcomes (R20). -/
inductive AccountOutcome | complete | short | unrated | empty | abandoned
  deriving DecidableEq, Repr

/-- Handoff outcome (R3). -/
inductive Handoff | passed | closedAtOrigin
  deriving DecidableEq, Repr

/-- The nine extraction flags (R5). -/
structure Flags where
  classMismatch : Bool := false
  declaredNotDetected : Bool := false
  mixedRouting : Bool := false
  outgassingUnfinished : Bool := false
  pulldownTimeout : Bool := false
  flowOverrange : Bool := false
  zeroRejected : Bool := false
  emptyAtPierce : Bool := false
  promoted : Bool := false
  deriving DecidableEq, Repr

/-- The three foam flags (R5). -/
structure FoamFlags where
  flowOverrange : Bool := false
  zeroRejected : Bool := false
  purgedDuringWindow : Bool := false
  deriving DecidableEq, Repr

/-- The fields an extraction account has from finalize (R3). -/
structure ExtractionResult where
  finalPressure : Nat
  massA : Nat
  massB : Nat
  massTotal : Nat
  yield : Option Nat
  cycles : Nat
  seconds : Nat
  outcome : AccountOutcome
  deriving DecidableEq, Repr

/-- The fields an account has from the opening of its chamber window (R3). -/
structure FoamPart where
  station : Nat
  route : Route
  mass : Option Nat := none
  flags : FoamFlags := {}
  deriving DecidableEq, Repr

/-- The account record (R3). -/
structure Account where
  key : Key
  tag : Option (List Byte) := none
  refClass : GasClass := .unknown
  foamClass : GasClass := .unknown
  nameplate : Option Nat := none
  routeTaken : Option RouteTaken := none
  pierce : Option Nat := none
  zeroOffset : Option Nat := none
  flags : Flags := {}
  result : Option ExtractionResult := none
  foam : Option FoamPart := none
  handoff : Option Handoff := none
  sequence : Option Nat := none
  deriving DecidableEq, Repr

/-- States of an account in the extraction queue (R7). -/
inductive QueueState | announced | active | done | held | closing
  deriving DecidableEq, Repr

/-- An account of the extraction queue with its working state (R6, R133). -/
structure QueueEntry where
  account : Account
  st : QueueState
  accA : Nat := 0
  accB : Nat := 0
  abandon : Bool := false
  unanswered : Nat := 0
  deriving DecidableEq, Repr

/-- States of an account in the chamber list (R11). -/
inductive WindowState | receiving | waiting | closed
  deriving DecidableEq, Repr

/-- An account of the chamber list with its working state (R6, R11, R96). -/
structure ChamberEntry where
  account : Account
  st : WindowState
  accF : Nat := 0
  carry : Timer := {}
  deriving DecidableEq, Repr

/-- States of the offer machine (R133). -/
inductive OfferState | idle | queued | awaiting | holdOff
  deriving DecidableEq, Repr

/-- What a hold-off followed (R133). -/
inductive HoldOffKind | refused | unanswered
  deriving DecidableEq, Repr

/-- The offer machine (R133). -/
structure Offer where
  st : OfferState := .idle
  key : Option Key := none
  answer : Timer := {}
  holdOff : Timer := {}
  kind : HoldOffKind := .refused
  deriving DecidableEq, Repr

/-- Account Store (01, 07). -/
structure Accounts where
  queue : List QueueEntry := []
  intake : List Account := []
  chamber : List ChamberEntry := []
  nextNumber : Nat := 1
  offer : Offer := {}
  deriving DecidableEq, Repr

/-! ### Sequences (03, 04) -/

/-- The extraction steps (R48). -/
inductive Step | e0 | e1 | e2 | e3 | e4 | e5 | e6 | e7
  deriving DecidableEq, Repr

/-- Sequence Controller at an EXTRACTION station (R48). `candidate` holds the CH0 value of the 100th
counted sample until P_START takes it (log 3); `clock` is the milliseconds since the entry of E2. -/
structure Sequence where
  step : Step := .e0
  timer : Timer := {}
  repeats : Nat := 0
  used : Nat := 0
  routeB : Bool := false
  clampHold : Bool := false
  detected : Bool := false
  riseCount : Nat := 0
  candidate : Option Nat := none
  pStart : Option Nat := none
  starve : Timer := {}
  clock : Option Nat := none
  seconds : Nat := 0
  finalPressure : Option Nat := none
  deriving DecidableEq, Repr

/-- The chamber states (R73). -/
inductive ChamberState | inerting | ready | entry | sweep | halted | purging
  deriving DecidableEq, Repr

/-- The chamber classes (R73). -/
inductive ChamberClass | halo | hc
  deriving DecidableEq, Repr

/-- The purge path (R73). -/
inductive PurgePath | off | awaiting | manifold | vent
  deriving DecidableEq, Repr

/-- Sequence Controller at a FOAM station (R73). `zeroDone`: the zero window of the present INERTING has
completed (R78). -/
structure Chamber where
  st : ChamberState := .inerting
  pending : Bool := true
  cls : ChamberClass := .hc
  door : Timer := {}
  doorOpen : Bool := false
  sweepWait : Timer := {}
  sweep : Timer := {}
  sweepRetry : Timer := {}
  path : PurgePath := .off
  zeroDone : Bool := false
  deriving DecidableEq, Repr

/-! ### Manifold share, peers, line (05, 06, 09) -/

/-- An entry of a claim list (R102). -/
structure ClaimEntry where
  claimant : Nat
  role : Role
  cls : ClaimClass
  demand : Nat
  seated : Bool := false
  deriving DecidableEq, Repr

/-- The standing of the own purge call (R116, R117). -/
inductive CallState | idle | waiting | manifold | vent
  deriving DecidableEq, Repr

/-- The own purge call (R116). -/
structure Call where
  st : CallState := .idle
  awaited : List Nat := []
  heard : Bool := false
  wait : Timer := {}
  deriving DecidableEq, Repr

/-- Manifold Share Unit (R101). The claim echo of STATUS is the own claim. `claimHeard`: the CLAIM of the own
claim has been heard back from the line (R107). -/
structure Manifold where
  listA : List ClaimEntry := []
  listB : List ClaimEntry := []
  own : Option Claim := none
  claimHeard : Bool := false
  marks : List Nat := []
  backoff : Bool := false
  call : Call := {}
  deriving DecidableEq, Repr

/-- Presence of a peer (R121). -/
inductive Presence | absent | live | stale
  deriving DecidableEq, Repr

/-- A claim echo as heard (R106): one that would make a CLAIM discarded is unusable. -/
inductive Echo
  | noClaim
  | claim (c : Claim)
  | unusable
  deriving DecidableEq, Repr

/-- A state summary as a STATUS carries it (R121, R179): its bytes 1 to 3. -/
structure Summary where
  phase : Byte
  stateByte : Byte
  marks : Byte
  deriving DecidableEq, Repr

/-- A peer entry (R121). The state summary is none until the first STATUS of its sender. -/
structure Peer where
  presence : Presence := .absent
  role : Role := .unconfigured
  summary : Option Summary := none
  hazard : Hazard := .noHazard
  intake : Nat := 0
  receiverA : Bool := false
  receiverB : Bool := false
  storeFull : Bool := false
  echo : Echo := .noClaim
  age : Timer := {}
  deriving DecidableEq, Repr

/-- Peer Table (06): one entry per station address 0..23. -/
structure Peers where
  entries : List Peer := List.replicate 24 {}
  ownHazard : Hazard := .noHazard
  timer : Timer := {}
  deriving DecidableEq, Repr

/-- What the receiver does with the characters it hears (R156, R157): look for a telegram, receive one, or
ignore characters until the next idle. -/
inductive Receiver | hunting | receiving | ignoring
  deriving DecidableEq, Repr

/-- A telegram of the transmit queue (R160 to R163): `moment` is its first enqueue moment. -/
structure Telegram where
  kind : Kind
  dst : Nat
  payload : List Byte
  cls : Nat
  moment : Nat := 0
  collisions : Nat := 0
  backoff : Nat := 0
  deriving DecidableEq, Repr

/-- Line Interface (09). -/
structure Line where
  idle : Bool := false
  receiver : Receiver := .ignoring
  queue : List Telegram := []
  transmitter : Option Telegram := none
  moment : Nat := 0
  /-- own hazard of the STATUS enqueued before (R128) -/
  lastHazard : Hazard := .noHazard
  deriving DecidableEq, Repr

/-! ### Protection (08) -/

/-- Trip states (R149). -/
inductive TripState | normal | tripped | recovering
  deriving DecidableEq, Repr

/-- A trip source (R148 to R150). `present`: its condition at the most recent station sample, or since the
report of an event source (R147). -/
structure Source where
  st : TripState := .normal
  run : Nat := 0
  recovery : Timer := {}
  present : Bool := false
  deriving DecidableEq, Repr

/-- The eleven trip sources (R147). -/
structure Sources where
  clampTimeout : Source := {}
  valveA : Source := {}
  valveB : Source := {}
  flowZero : Source := {}
  flowOver : Source := {}
  channelOver : Source := {}
  circuitHigh : Source := {}
  headerSevere : Source := {}
  ambientStop : Source := {}
  oxygenHigh : Source := {}
  chamberStop : Source := {}
  deriving DecidableEq, Repr

/-- Protection Unit (R144, R151). -/
structure Protection where
  de : Bool := false
  codes : List Nat := []
  sources : Sources := {}
  deriving DecidableEq, Repr

/-! ### Configuration, record store, start (10) -/

/-- Modes of a trip source (R149). -/
inductive TripMode | latch | auto | note
  deriving DecidableEq, Repr

/-- Filter width and mode of a trip source (R147). -/
structure SourceSetting where
  width : Nat
  mode : TripMode
  deriving DecidableEq, Repr

/-- The configuration in use (R174), at the defaults of R174 and R147. Durations in seconds but for the
status interval; the supply warning threshold in 0.1 V. -/
structure Settings where
  address : Nat := 0
  role : Role := .extraction
  gateway : Nat := 23
  downstream : Nat := 20
  condenser : Option Nat := none
  lineRate : Nat := 0
  statusInterval : Nat := 500
  staleCount : Nat := 3
  capA : Nat := 400
  capB : Nat := 400
  ownDemand : Nat := 120
  starvationLimit : Nat := 120
  backoffLimit : Nat := 600
  hysteresis : Nat := 50
  severeLimit : Nat := 900
  purgeWait : Nat := 3
  clampTime : Nat := 5
  classifyTime : Nat := 3
  pulldownTime : Nat := 240
  holdTime : Nat := 30
  releaseTime : Nat := 5
  pulldownTarget : Nat := 150
  riseLimit : Nat := 30
  emptyThreshold : Nat := 1100
  circuitMaximum : Nat := 18000
  repeatCount : Nat := 3
  yieldLimit : Nat := 900
  ambientWatch : Nat := 100
  ambientStop : Nat := 200
  chamberWatch : Nat := 100
  chamberStop : Nat := 250
  purgeLimit : Nat := 400
  runLimit : Nat := 40
  oxygenTrip : Nat := 80
  inertHold : Nat := 10
  doorTime : Nat := 30
  carryOver : Nat := 40
  quietFlow : Nat := 20
  quietTime : Nat := 30
  sweepWait : Nat := 60
  sweepTime : Nat := 15
  sweepRetry : Nat := 30
  setClampTimeout : SourceSetting := ⟨0, .latch⟩
  setValveA : SourceSetting := ⟨0, .latch⟩
  setValveB : SourceSetting := ⟨0, .latch⟩
  setFlowZero : SourceSetting := ⟨0, .note⟩
  setFlowOver : SourceSetting := ⟨3, .note⟩
  setChannelOver : SourceSetting := ⟨12, .latch⟩
  setCircuitHigh : SourceSetting := ⟨3, .latch⟩
  setHeaderSevere : SourceSetting := ⟨6, .auto⟩
  setAmbientStop : SourceSetting := ⟨3, .auto⟩
  setOxygenHigh : SourceSetting := ⟨3, .auto⟩
  setChamberStop : SourceSetting := ⟨3, .auto⟩
  recoveryTime : Nat := 10
  supplyWarning : Nat := 210
  deriving DecidableEq, Repr

/-- A commit in progress (R169): the slot it writes, the 64 bytes written, its key and its sequence. -/
structure Commit where
  key : Key
  slot : Nat
  bytes : List Byte
  sequence : Nat
  deriving DecidableEq, Repr

/-- The lock state of SERVICE (R176). -/
inductive Lock | locked | half | unlocked | frozen
  deriving DecidableEq, Repr

/-- A configuration block write in progress (R177): the sources whose commits it answers, and the 56 words
written. -/
structure BlockWrite where
  srcs : List Nat
  words : List Half
  deriving DecidableEq, Repr

/-- The configuration block with every parameter at its default of R174 in the numbering of R181, and its
check word over words 0..54 (shown to match by `test_default_block_valid`). -/
def defaultBlock : List Half :=
  [0, 1, 23, 20, 255, 0, 500, 3, 400, 400, 120, 120, 600, 50, 900, 3, 5, 3, 240, 30, 5, 150, 30, 1100,
   18000, 3, 900] ++
  [100, 200, 100, 250, 400, 40, 80, 10, 30, 40, 20, 30, 60, 15, 30, 0x0000, 0x0000, 0x0000, 0x0002,
   0x0302, 0x0C00, 0x0300, 0x0601, 0x0301, 0x0301, 0x0301, 10, 1, 0xE532]

/-- Record Store, its volatile state (R168, R169, R170, R176). `supplyBelow`: the supply monitor has found the
supply below the reset threshold, which keeps the part in the start hold. -/
structure Store where
  lastSequence : Nat := 0
  writePosition : Nat := 0
  full : Bool := false
  fault : Bool := false
  commitQueue : List Key := []
  commit : Option Commit := none
  readPointer : Option Nat := none
  target : Option Nat := none
  supplyLow : Bool := false
  supplyBelow : Bool := false
  lock : Lock := .locked
  working : List Half := defaultBlock.take 55
  idle : Timer := {}
  statusTimer : Timer := {}
  blockWrite : Option BlockWrite := none
  deriving DecidableEq, Repr

/-- A factory block: eight words of scaling and their check word (log 6). -/
def defaultFactory : List Half := [0, 0, 0, 0, 0, 0, 0, 0, 0x7D0F]

/-- The nonvolatile memory (R168, R174). `slots` is the record store in canonical form: cells strictly
rising in address, none holding the blank byte; slot n is addresses 64 n to 64 n + 63. -/
structure Nonvolatile where
  slots : List Host.Cell := []
  block : List Half := defaultBlock
  startCounter : Byte := 0
  factory : List Half := defaultFactory
  deriving DecidableEq, Repr

/-- Phases of the part (00_scope; R175). `hold` is the start hold. -/
inductive Phase | hold | starting | joining | run | service | configFault
  deriving DecidableEq, Repr

/-- Start and phase (R175, R176): `address` is the address the part speaks at. `checked`: the configuration block
has passed its check, and JOINING follows (R29, R175, log 33). -/
structure Boot where
  phase : Phase := .hold
  cause : StartCause := .power
  address : Nat := 30
  factoryOk : Bool := true
  checked : Bool := false
  joining : Timer := {}
  deriving DecidableEq, Repr

/-! ### The whole part -/

/-- The state of the part and the queue of waiting commands. `free` counts the free values read. -/
structure State where
  boot : Boot := {}
  cfg : Settings := {}
  li : Line := {}
  pt : Peers := {}
  ms : Manifold := {}
  sq : Sequence := {}
  ch : Chamber := {}
  mu : Measure := {}
  ac : Accounts := {}
  pu : Protection := {}
  rs : Store := {}
  nv : Nonvolatile := {}
  free : Nat := 0
  pending : List Instr := []
  deriving DecidableEq, Repr

/-- The part never stops on a fault: every condition the spec names is a code of the fault code set, a trip
or a phase (R144, R151, R175). No constructor, so no step answers one: safe. -/
inductive Fault
  deriving DecidableEq, Repr

/-- Refusals. -/
inductive Refusal
  /-- Raised by `exec` alone, for a command whose meaning is not written; no arm answers it. Safe: the
  machine stops where the part goes on. -/
  | notModelled (mnemonic : String)
  deriving DecidableEq, Repr

/-- The part after reset: held in start after power-on with every volatile state at its after-start value
(R175), the nonvolatile memory as delivered (logs 4, 5, 6), no command waiting. -/
def State.reset : State := {}

end Sys2Proof.Machine
end

