-- ==== Sys2Proof/Machine/Ops.lean ====
section
/-! DEFINITION. Named operations shared by the meanings: replacing a block of the state, byte order and the
check word, timers, comparators, access by pin and by trip source, and the record store's bytes. -/

namespace Sys2Proof

/-- The code of a trip source. -/
def TripSource.code : TripSource → Nat
  | .clampTimeout => 10 | .valveA => 11 | .valveB => 12 | .flowZero => 14 | .flowOver => 15
  | .channelOver => 16 | .circuitHigh => 20 | .headerSevere => 21 | .ambientStop => 22
  | .oxygenHigh => 23 | .chamberStop => 24
/-- All trip sources, in the order of their codes. -/
def TripSource.all : List TripSource :=
  [.clampTimeout, .valveA, .valveB, .flowZero, .flowOver, .channelOver, .circuitHigh, .headerSevere,
   .ambientStop, .oxygenHigh, .chamberStop]
/-- The source with this code. -/
def TripSource.ofCode (c : Nat) : Option TripSource := TripSource.all.find? fun t => t.code == c
/-- The two sources that are events reported by a block, not conditions of a sample (R147). -/
def TripSource.isEvent : TripSource → Bool
  | .clampTimeout | .flowZero => true
  | .valveA | .valveB | .flowOver | .channelOver | .circuitHigh | .headerSevere | .ambientStop
  | .oxygenHigh | .chamberStop => false

end Sys2Proof

namespace Sys2Proof.Machine

/-! ### Replacing one block -/

/-- The state with this start block. -/
def State.setBoot (s : State) (x : Boot) : State := { s with boot := x }
/-- The state with this configuration in use. -/
def State.setCfg (s : State) (x : Settings) : State := { s with cfg := x }
/-- The state with this line interface. -/
def State.setLi (s : State) (x : Line) : State := { s with li := x }
/-- The state with this peer table. -/
def State.setPt (s : State) (x : Peers) : State := { s with pt := x }
/-- The state with this manifold share unit. -/
def State.setMs (s : State) (x : Manifold) : State := { s with ms := x }
/-- The state with this extraction sequence. -/
def State.setSq (s : State) (x : Sequence) : State := { s with sq := x }
/-- The state with this chamber. -/
def State.setCh (s : State) (x : Chamber) : State := { s with ch := x }
/-- The state with this measurement unit. -/
def State.setMu (s : State) (x : Measure) : State := { s with mu := x }
/-- The state with this account store. -/
def State.setAc (s : State) (x : Accounts) : State := { s with ac := x }
/-- The state with this protection unit. -/
def State.setPu (s : State) (x : Protection) : State := { s with pu := x }
/-- The state with this record store. -/
def State.setRs (s : State) (x : Store) : State := { s with rs := x }
/-- The state with this nonvolatile memory. -/
def State.setNv (s : State) (x : Nonvolatile) : State := { s with nv := x }
/-- The state after one more free value has been read. -/
def State.nextFree (s : State) : State := { s with free := s.free + 1 }
/-- The state with this queue of waiting commands. -/
def State.setPending (s : State) (x : List Instr) : State := { s with pending := x }

/-! ### Byte order and the check word -/

/-- Two bytes, most significant first (R178). -/
def be16 (n : Nat) : List Byte := [BitVec.ofNat 8 (n / 256), BitVec.ofNat 8 n]

/-- Four bytes, most significant first (R178). -/
def be32 (n : Nat) : List Byte := be16 (n / 65536) ++ be16 n

/-- Byte `i` of a payload, as a number. -/
def byteAt (p : List Byte) (i : Nat) : Nat := (p.getD i 0).toNat

/-- The two-byte field at byte `i` (R178). -/
def half (p : List Byte) (i : Nat) : Nat := byteAt p i * 256 + byteAt p (i + 1)

/-- The four-byte field at byte `i` (R178). -/
def full (p : List Byte) (i : Nat) : Nat := half p i * 65536 + half p (i + 2)

/-- One bit of the division by x^16 + x^15 + x^2 + 1 (R157). -/
def crcBit (c : Nat) : Nat := if c ≥ 32768 then (2 * c % 65536) ^^^ 0x8005 else 2 * c

/-- One byte of the check word, most significant bit first (R157). -/
def crcByte (c : Nat) (b : Byte) : Nat :=
  crcBit (crcBit (crcBit (crcBit (crcBit (crcBit (crcBit (crcBit (c ^^^ (b.toNat * 256)))))))))

/-- The check word: initial value all ones, no final inversion (R157). -/
def checkWord (bs : List Byte) : Nat := bs.foldl crcByte 0xFFFF

/-- Words of two bytes as bytes. -/
def wordBytes (ws : List Half) : List Byte := ws.flatMap fun w => be16 w.toNat

/-- Addition that stays at a limit (00_scope, "saturates"). -/
def satAdd (limit a b : Nat) : Nat := min limit (a + b)

/-! ### Timers (R32) -/

/-- start: the full duration, RUNNING. -/
def Timer.start (ms : Nat) : Timer := ⟨.running, ms⟩
/-- reset: the full duration, HELD. -/
def Timer.reset (ms : Nat) : Timer := ⟨.held, ms⟩
/-- hold: a RUNNING timer keeps its remaining time, HELD. -/
def Timer.hold (t : Timer) : Timer := if t.st = .running then ⟨.held, t.left⟩ else t
/-- resume: a HELD timer runs on with its remaining time. -/
def Timer.resume (t : Timer) : Timer := if t.st = .held then ⟨.running, t.left⟩ else t
/-- stop. -/
def Timer.stopped : Timer := {}
/-- A RUNNING timer whose remaining time has reached 0: its expiry event is due. -/
def Timer.due (t : Timer) : Bool := t.st == .running && t.left == 0
/-- One millisecond. -/
def Timer.tick (t : Timer) : Timer := if t.st = .running then ⟨.running, t.left - 1⟩ else t
/-- Whether the timer is STOPPED. -/
def Timer.isStopped (t : Timer) : Bool := t.st == .stopped
/-- Hold or resume a started timer as a condition gives: RUNNING while it holds, HELD while it fails. -/
def Timer.follow (t : Timer) (runs : Bool) : Timer := if runs then t.resume else t.hold

/-! ### Comparators (R28, R29) -/

/-- The run of samples a hold count asks for: 0 and 1 behave alike (R28). -/
def holdRun (hold : Nat) : Nat := max 1 hold
/-- Arming: run count 0, not met (R29). -/
def Comparator.arm : Comparator := ⟨true, 0, false⟩
/-- Disarming: run count 0, not met, no event (R29). -/
def Comparator.disarm : Comparator := {}
/-- One station sample (R28): a holding relation raises the run count up to the hold count, a failing one
ends the run and the met state. -/
def Comparator.sample (c : Comparator) (hold : Nat) (rel : Bool) : Comparator :=
  if c.armed then
    if rel then ⟨true, if c.run < holdRun hold then c.run + 1 else c.run, c.met⟩ else ⟨true, 0, false⟩
  else c
/-- The run count has reached the hold count and the comparator is not yet met: it becomes met (log 3). -/
def Comparator.due (c : Comparator) (hold : Nat) : Bool := c.armed && !c.met && holdRun hold ≤ c.run
/-- The comparator met. -/
def Comparator.fire (c : Comparator) : Comparator := { c with met := true }
/-- One station sample of a comparator with hold count 0 whose event has no command of its own (R129). -/
def Comparator.sampleLevel (c : Comparator) (rel : Bool) : Comparator :=
  let d := c.sample 0 rel
  if d.due 0 then d.fire else d

/-! ### Discrete input filters (R33, R34) -/

/-- One raw level. An empty filter counts equal levels up to 5; a filled one counts disagreeing levels up
to 5, the count at which its edge is due. -/
def Filter.sample (f : Filter) (raw : Bool) : Filter :=
  if f.filled then
    if raw = f.level then { f with raw := raw, count := 0 }
    else { f with raw := raw, count := min 5 (f.count + 1) }
  else if raw = f.raw ∨ f.count = 0 then { f with raw := raw, count := min 5 (f.count + 1) }
  else { f with raw := raw, count := 1 }
/-- Five equal raw levels have been seen: the filter fills (R34). -/
def Filter.fillDue (f : Filter) : Bool := !f.filled && 5 ≤ f.count
/-- Filling takes the raw level without an edge (R34). -/
def Filter.fill (f : Filter) : Filter := { f with filled := true, level := f.raw, count := 0 }
/-- Five disagreeing raw levels have been seen: the filtered level changes to `up` (R33). -/
def Filter.edgeDue (f : Filter) (up : Bool) : Bool := f.filled && 5 ≤ f.count && f.level == !up
/-- The filtered level changes (R33). -/
def Filter.toggle (f : Filter) : Filter := { f with level := !f.level, count := 0 }

/-- The filter of a pin. -/
def Filters.get (x : Filters) : Pin → Filter
  | .ilk => x.ilk | .str => x.str | .in2 => x.in2 | .in3 => x.in3
  | .vaf => x.vaf | .vbf => x.vbf | .fcl => x.fcl | .svc => x.svc
/-- The filters with one replaced. -/
def Filters.set (x : Filters) (p : Pin) (f : Filter) : Filters :=
  match p with
  | .ilk => { x with ilk := f } | .str => { x with str := f }
  | .in2 => { x with in2 := f } | .in3 => { x with in3 := f }
  | .vaf => { x with vaf := f } | .vbf => { x with vbf := f }
  | .fcl => { x with fcl := f } | .svc => { x with svc := f }
/-- The state with the filter of a pin replaced. -/
def State.setFilter (s : State) (p : Pin) (f : Filter) : State :=
  s.setMu { s.mu with filters := s.mu.filters.set p f }
/-- The filter of a pin. -/
def State.filter (s : State) (p : Pin) : Filter := s.mu.filters.get p
/-- The filtered level of a pin. -/
def State.level (s : State) (p : Pin) : Bool := (s.filter p).level

/-! ### Trip sources (R147) -/

/-- The source's own state. -/
def Sources.get (x : Sources) : TripSource → Source
  | .clampTimeout => x.clampTimeout | .valveA => x.valveA | .valveB => x.valveB
  | .flowZero => x.flowZero | .flowOver => x.flowOver | .channelOver => x.channelOver
  | .circuitHigh => x.circuitHigh | .headerSevere => x.headerSevere | .ambientStop => x.ambientStop
  | .oxygenHigh => x.oxygenHigh | .chamberStop => x.chamberStop
/-- The sources with one replaced. -/
def Sources.set (x : Sources) (t : TripSource) (y : Source) : Sources :=
  match t with
  | .clampTimeout => { x with clampTimeout := y } | .valveA => { x with valveA := y }
  | .valveB => { x with valveB := y } | .flowZero => { x with flowZero := y }
  | .flowOver => { x with flowOver := y } | .channelOver => { x with channelOver := y }
  | .circuitHigh => { x with circuitHigh := y } | .headerSevere => { x with headerSevere := y }
  | .ambientStop => { x with ambientStop := y } | .oxygenHigh => { x with oxygenHigh := y }
  | .chamberStop => { x with chamberStop := y }
/-- The configured filter width and mode of a source (R147). -/
def Settings.source (c : Settings) : TripSource → SourceSetting
  | .clampTimeout => c.setClampTimeout | .valveA => c.setValveA | .valveB => c.setValveB
  | .flowZero => c.setFlowZero | .flowOver => c.setFlowOver | .channelOver => c.setChannelOver
  | .circuitHigh => c.setCircuitHigh | .headerSevere => c.setHeaderSevere
  | .ambientStop => c.setAmbientStop | .oxygenHigh => c.setOxygenHigh
  | .chamberStop => c.setChamberStop

/-! ### Routes, classes, hazards -/

/-- The configured capacity of a route (R99). -/
def Settings.cap (c : Settings) : Route → Nat
  | .A => c.capA
  | .B => c.capB
/-- The claim list of a route (R102). -/
def Manifold.list (m : Manifold) : Route → List ClaimEntry
  | .A => m.listA
  | .B => m.listB
/-- The unit with the claim list of a route replaced. -/
def Manifold.setList (m : Manifold) (r : Route) (l : List ClaimEntry) : Manifold :=
  match r with
  | .A => { m with listA := l }
  | .B => { m with listB := l }
/-- Ascending order of the hazard levels (R129). -/
def Hazard.rank : Hazard → Nat
  | .noHazard => 0
  | .watch => 1
  | .stop => 2
/-- The higher of two levels. -/
def Hazard.max (a b : Hazard) : Hazard := if a.rank < b.rank then b else a
/-- The chamber route: A for HALO, B for HC (R85). -/
def ChamberClass.route : ChamberClass → Route
  | .halo => .A
  | .hc => .B
/-- The other chamber class. -/
def ChamberClass.other : ChamberClass → ChamberClass
  | .halo => .hc
  | .hc => .halo
/-- The class of an account for the chamber: UNKNOWN is taken as HC (R85). -/
def GasClass.chamber : GasClass → ChamberClass
  | .halo => .halo
  | .hc => .hc
  | .unknown => .hc

/-! ### The record store's bytes (R168, R180)

The bytes of the 1,024 slots are a list of cells in canonical form. -/

/-- What an unlisted address reads as. DESIGN CHOICE, log 5. -/
def blankByte : Byte := 0xFF

/-- The byte at an address. -/
def readCell : List Host.Cell → Nat → Byte
  | [], _ => blankByte
  | (k, v) :: r, a => if a = k then v else readCell r a

/-- The cells with one byte written: the entry is inserted, replaced, or removed when blank. -/
def writeCell : List Host.Cell → Nat → Byte → List Host.Cell
  | [], a, v => if v = blankByte then [] else [(a, v)]
  | (k, b) :: r, a, v =>
    if a < k then if v = blankByte then (k, b) :: r else (a, v) :: (k, b) :: r
    else if a = k then if v = blankByte then r else (a, v) :: r
    else (k, b) :: writeCell r a v

/-- Bytes written at rising addresses from `base`. -/
def writeCells : List Host.Cell → Nat → List Byte → List Host.Cell
  | m, _, [] => m
  | m, base, v :: vs => writeCells (writeCell m base v) (base + 1) vs

/-- Canonical form: addresses strictly rising, no blank entry. -/
def cellsWf : List Host.Cell → Bool
  | [] => true
  | (_, v) :: [] => v != blankByte
  | (k, v) :: (k', v') :: r => v != blankByte && (decide (k < k') && cellsWf ((k', v') :: r))

/-- Number of slots (R168). -/
def slotCount : Nat := 1024

/-- The 64 bytes of a slot. -/
def slotBytes (m : List Host.Cell) (n : Nat) : List Byte :=
  (List.range 64).map fun i => readCell m (64 * n + i)

/-- The state of a slot (R168). -/
inductive SlotState | empty | held | collected
  deriving DecidableEq, Repr

/-- The check word of 62 bytes of a record, with the collected mark counted at its HELD value (R180). -/
def recordCheck (bs : List Byte) : Nat := checkWord ((bs.set 48 0xFF).take 62)

/-- What the scan reads a slot as (R175 step 5, R180). -/
def slotStateOf (bs : List Byte) : SlotState :=
  if recordCheck bs = half bs 62 then if bs.getD 48 0 = 0xFF then .held else .collected else .empty

/-- The state of slot `n`. -/
def slotState (m : List Host.Cell) (n : Nat) : SlotState := slotStateOf (slotBytes m n)

/-- The record sequence a slot's bytes carry (R180). -/
def slotSequence (m : List Host.Cell) (n : Nat) : Nat := full (slotBytes m n) 44

/-- The numbers of the slots that hold any listed cell, ascending. A slot that holds none is EMPTY
(`blank_slot_empty`). -/
def usedSlots : List Host.Cell → List Nat
  | [] => []
  | (k, _) :: r =>
    let n := k / 64
    let ns := usedSlots r
    if n < slotCount ∧ ns.head? ≠ some n then n :: ns else ns

/-- The slots that hold a record, each with its sequence. -/
def records (m : List Host.Cell) : List (Nat × Nat) :=
  ((usedSlots m).filter fun n => slotState m n ≠ .empty).map fun n => (n, slotSequence m n)

end Sys2Proof.Machine
end

