-- ==== Sys2Proof/Machine/Operands.lean ====
section
/-! DEFINITION. What the operands carry: the kinds of telegram, frames and their check word, payload fields,
the account body, and the parameters of the configuration block (R157, R167, R174, R178 to R181). -/

namespace Sys2Proof.Machine

/-! ### Kinds (R167, R179) -/

/-- The kind codes of R167. -/
def Kind.code : Kind → Nat
  | .status => 0x10 | .claim => 0x20 | .release => 0x21 | .purgeCall => 0x30 | .purgeClear => 0x31
  | .purgeEnd => 0x32 | .certificate => 0x40 | .announce => 0x50 | .closeAccount => 0x51
  | .abandonAccount => 0x52 | .offer => 0x60 | .accept => 0x61 | .refuse => 0x62 | .read => 0x70
  | .readNext => 0x71 | .readData => 0x72 | .collect => 0x73 | .checkRange => 0x74
  | .checkResult => 0x75 | .faultClear => 0x78 | .key => 0x7C | .configWrite => 0x7D
  | .configCommit => 0x7E | .configAnswer => 0x7F

/-- All kinds. -/
def Kind.all : List Kind :=
  [.status, .claim, .release, .purgeCall, .purgeClear, .purgeEnd, .certificate, .announce,
   .closeAccount, .abandonAccount, .offer, .accept, .refuse, .read, .readNext, .readData, .collect,
   .checkRange, .checkResult, .faultClear, .key, .configWrite, .configCommit, .configAnswer]

/-- Whether a payload length is one of the kind's lengths (R179). -/
def Kind.lengthOk (k : Kind) (n : Nat) : Bool :=
  match k with
  | .status | .announce => n == 20
  | .claim | .refuse => n == 5
  | .release | .purgeCall | .purgeClear | .purgeEnd | .readNext | .faultClear | .configCommit => n == 0
  | .closeAccount | .abandonAccount | .accept | .read | .collect | .checkRange => n == 4
  | .offer | .certificate => n == 48
  | .readData => n == 48 || n == 4
  | .checkResult => n == 7
  | .key => n == 1
  | .configWrite => n == 3
  | .configAnswer => n == 6

/-- The gateway kinds (R158). -/
def Kind.fromGateway : Kind → Bool
  | .announce | .closeAccount | .abandonAccount | .read | .readNext | .collect | .checkRange
  | .faultClear | .key | .configWrite | .configCommit => true
  | .status | .claim | .release | .purgeCall | .purgeClear | .purgeEnd | .certificate | .offer
  | .accept | .refuse | .readData | .checkResult | .configAnswer => false

/-- The deferral class in which the part sends a kind (R167); a STATUS gets its class from R128. -/
def Kind.cls : Kind → Nat
  | .purgeCall | .purgeClear | .purgeEnd => 0
  | .accept | .refuse => 1
  | .certificate | .readData | .checkResult | .configAnswer => 3
  | .status | .claim | .release | .offer | .announce | .closeAccount | .abandonAccount | .read
  | .readNext | .collect | .checkRange | .faultClear | .key | .configWrite | .configCommit => 2

/-! ### Frames (R157, R178) -/

/-- A run of characters is discarded (R157): no SYNC, a length above 48, a stop bit read dominant, cut short
by the idle line, or a check word that differs. -/
def receptionDiscarded (r : Reception) : Bool :=
  byteAt r.bytes 0 != 0xC9 || byteAt r.bytes 4 > 48 || r.stopDominant || r.cutShort
  || r.bytes.length < byteAt r.bytes 4 + 7
  || half r.bytes (byteAt r.bytes 4 + 5)
      != checkWord ((r.bytes.drop 1).take (byteAt r.bytes 4 + 4))

/-- The characters of a telegram as it is sent (R157, R178). -/
def frameBytes (k : Kind) (f : Frame) : List Byte :=
  let body := [BitVec.ofNat 8 k.code, f.src, f.dst, BitVec.ofNat 8 f.payload.length] ++ f.payload
  [0xC9] ++ body ++ be16 (checkWord body)

/-! ### Coded fields (R178) -/

/-- Code of a role. -/
def Role.code : Role → Nat
  | .unconfigured => 0 | .extraction => 1 | .foam => 2 | .condenser => 3 | .gateway => 4
/-- A role code that names none of the roles is UNCONFIGURED (R123). -/
def Role.ofCode : Nat → Role
  | 1 => .extraction | 2 => .foam | 3 => .condenser | 4 => .gateway | _ => .unconfigured
/-- Code of a route. -/
def routeCode : Route → Nat
  | .A => 1
  | .B => 2
/-- The route a code names. -/
def routeOfCode : Nat → Option Route
  | 1 => some .A
  | 2 => some .B
  | _ => none
/-- Code of a claim class. -/
def ClaimClass.code : ClaimClass → Nat
  | .ordinary => 0 | .priority => 1 | .exclusive => 2
/-- The claim class a code names. -/
def ClaimClass.ofCode : Nat → Option ClaimClass
  | 0 => some .ordinary
  | 1 => some .priority
  | 2 => some .exclusive
  | _ => none
/-- A hazard code that names none of the levels is STOP (R123). -/
def Hazard.ofCode : Nat → Hazard
  | 0 => .noHazard
  | 1 => .watch
  | _ => .stop
/-- Code of a gas class. -/
def GasClass.code : GasClass → Nat
  | .halo => 0 | .hc => 1 | .unknown => 2
/-- A class code that names none of the classes is UNKNOWN (R4). -/
def GasClass.ofCode : Nat → GasClass
  | 0 => .halo
  | 1 => .hc
  | _ => .unknown
/-- The key in four bytes (R178). -/
def keyBytes (k : Key) : List Byte := [BitVec.ofNat 8 k.origin, BitVec.ofNat 8 k.count] ++ be16 k.number
/-- The key at byte `i`. -/
def keyAt (p : List Byte) (i : Nat) : Key := ⟨byteAt p i, byteAt p (i + 1), half p (i + 2)⟩

/-! ### Tags (R4, R179) -/

/-- A tag in its sixteen bytes. -/
def tagBytes (t : Option (List Byte)) : List Byte :=
  let cs := (t.getD []).take 16
  cs ++ List.replicate (16 - cs.length) 0
/-- The characters before the first 0x00. -/
def tagChars (bs : List Byte) : List Byte := bs.takeWhile (· ≠ 0)
/-- A well-formed tag field: characters in 0x20..0x7E followed only by 0x00 (R179, R180). -/
def tagWellFormed (bs : List Byte) : Bool :=
  (tagChars bs).all (fun c => 0x20 ≤ c.toNat && c.toNat ≤ 0x7E)
  && (bs.drop (tagChars bs).length).all (· == 0)
/-- The tag of a field; an empty one is absent. -/
def tagOf (bs : List Byte) : Option (List Byte) :=
  if (tagChars bs).isEmpty then none else some (tagChars bs)

/-! ### Claims and echoes (R103, R106) -/

/-- The claim of a CLAIM payload or of a STATUS echo, if a CLAIM with these codes would not be discarded
(R103): the role, route, class and demand at the given bytes. -/
def claimOf (role route cls demand : Nat) : Option (Role × Claim) :=
  match routeOfCode route, ClaimClass.ofCode cls with
  | some r, some c =>
    if 1 ≤ demand ∧ demand ≤ 1000 ∧ (role = 1 ∨ role = 2) then some (Role.ofCode role, ⟨r, c, demand⟩)
    else none
  | _, _ => none
/-- The claim of a CLAIM telegram: role, route, class, demand (R179). -/
def claimPayload (p : List Byte) : Option (Role × Claim) :=
  claimOf (byteAt p 0) (byteAt p 1) (byteAt p 2) (half p 3)
/-- The claim echo of a STATUS (R106, R179). No claim is no claim whatever the role beside it (log 44). -/
def echoOf (p : List Byte) : Echo :=
  if byteAt p 8 = 0 then .noClaim
  else match claimOf (byteAt p 0) (byteAt p 8) (byteAt p 9) (half p 10) with
    | some (_, c) => .claim c
    | none => .unusable
/-- What a STATUS writes into its sender's entry (R123), over the refreshed entry. -/
def peerOfStatus (e : Peer) (p : List Byte) : Peer :=
  { e with
    role := Role.ofCode (byteAt p 0)
    summary := some ⟨p.getD 1 0, p.getD 2 0, p.getD 3 0⟩
    hazard := Hazard.ofCode (byteAt p 4)
    intake := min 4 (byteAt p 6)
    receiverA := (byteAt p 7).testBit 0
    receiverB := (byteAt p 7).testBit 1
    storeFull := (byteAt p 7).testBit 2
    echo := echoOf p }
/-- A STATUS whose state summary is PURGING (R119, R179). -/
def statusPurging (p : List Byte) : Bool := byteAt p 2 == 21

/-! ### The account body (R180) -/

/-- Code of the route taken; 0 is absent. -/
def routeTakenCode : Option RouteTaken → Nat
  | none => 0
  | some .A => 1
  | some .B => 2
  | some .AthenB => 3
/-- The route taken a code names. -/
def routeTakenOf : Nat → Option RouteTaken
  | 1 => some .A
  | 2 => some .B
  | 3 => some .AthenB
  | _ => none
/-- Code of the handoff outcome; 0 is absent. -/
def handoffCode : Option Handoff → Nat
  | none => 0
  | some .passed => 1
  | some .closedAtOrigin => 2
/-- Code of an outcome. -/
def AccountOutcome.code : AccountOutcome → Nat
  | .complete => 1 | .short => 2 | .unrated => 3 | .empty => 4 | .abandoned => 5
/-- The outcome a code names. -/
def AccountOutcome.ofCode : Nat → Option AccountOutcome
  | 1 => some .complete
  | 2 => some .short
  | 3 => some .unrated
  | 4 => some .empty
  | 5 => some .abandoned
  | _ => none
/-- One bit of a flags word. -/
def flagBit (b : Bool) (i : Nat) : Nat := if b then 2 ^ i else 0
/-- Bits 0 to 8 of the flags word. -/
def Flags.word (f : Flags) : Nat :=
  flagBit f.classMismatch 0 + flagBit f.declaredNotDetected 1 + flagBit f.mixedRouting 2
  + flagBit f.outgassingUnfinished 3 + flagBit f.pulldownTimeout 4 + flagBit f.flowOverrange 5
  + flagBit f.zeroRejected 6 + flagBit f.emptyAtPierce 7 + flagBit f.promoted 8
/-- The extraction flags of a flags word. -/
def Flags.ofWord (w : Nat) : Flags :=
  ⟨w.testBit 0, w.testBit 1, w.testBit 2, w.testBit 3, w.testBit 4, w.testBit 5, w.testBit 6,
   w.testBit 7, w.testBit 8⟩
/-- Bits 9 to 13 of the flags word: the foam flags and the foam route. -/
def foamWord : Option FoamPart → Nat
  | none => 0
  | some p =>
    flagBit p.flags.flowOverrange 9 + flagBit p.flags.zeroRejected 10
    + flagBit p.flags.purgedDuringWindow 11 + routeCode p.route * 4096
/-- The 48-byte body of an account; `collected` is bit 15 of the flags word (R180). -/
def Account.body (a : Account) (collected : Bool) : List Byte :=
  keyBytes a.key ++ tagBytes a.tag ++
  [BitVec.ofNat 8 (a.refClass.code * 64 + a.foamClass.code * 16 + routeTakenCode a.routeTaken * 4
     + handoffCode a.handoff),
   BitVec.ofNat 8 (match a.result with | some r => r.outcome.code * 32 + r.cycles * 4 | none => 0)]
  ++ be16 (a.nameplate.getD 0) ++ be16 (a.pierce.getD 65534) ++ be16 (a.zeroOffset.getD 65535)
  ++ be16 ((a.result.map (·.finalPressure)).getD 0)
  ++ be16 ((a.result.map (·.massA)).getD 0) ++ be16 ((a.result.map (·.massB)).getD 0)
  ++ be16 ((a.result.map (·.massTotal)).getD 0)
  ++ be16 ((a.result.bind (·.yield)).getD 65535)
  ++ be16 ((a.result.map (·.seconds)).getD 0)
  ++ be16 (a.flags.word + foamWord a.foam + flagBit collected 15)
  ++ be16 ((a.foam.bind (·.mass)).getD 0) ++ be32 (a.sequence.getD 0)
/-- The checks of R140 on the body of an OFFER from a source (R180). A tag whose first byte is 0x00 is empty,
whatever follows it (R179). -/
def offerOk (src : Nat) (p : List Byte) : Bool :=
  let route := byteAt p 20 / 4 % 4
  let outcome := byteAt p 21 / 32
  let cycles := byteAt p 21 / 4 % 8
  let flags := half p 40
  decide (byteAt p 0 ≤ 23) && byteAt p 0 == src && half p 2 != 0
  && (byteAt p 4 == 0 || tagWellFormed ((p.drop 4).take 16))
  && decide (byteAt p 20 / 64 ≤ 2) && decide (byteAt p 20 / 16 % 4 ≤ 2)
  && (route != 0 || outcome == 5)
  && decide (1 ≤ outcome ∧ outcome ≤ 5) && decide (1 ≤ cycles ∧ cycles ≤ 4)
  && decide (half p 24 ≤ 20000 ∨ half p 24 = 65534 ∨ half p 24 = 65535)
  && decide (half p 26 ≤ 2000 ∨ half p 26 = 65535)
  && decide (half p 28 ≤ 20000 ∨ half p 28 = 65535)
  && (if half p 22 = 0 then half p 36 == 65535 else decide (half p 36 ≤ 1500))
  && flags / 512 == 0 && byteAt p 20 % 4 == 0 && half p 42 == 0 && full p 44 == 0
/-- The account an OFFER's body carries (R141, R180): no foam part, handoff outcome or sequence. Bits 1..0 of byte
21, which R180 calls zero and its checks do not read, are dropped (log 36). -/
def accountOf (p : List Byte) : Account :=
  { key := keyAt p 0
    tag := tagOf ((p.drop 4).take 16)
    refClass := GasClass.ofCode (byteAt p 20 / 64)
    foamClass := GasClass.ofCode (byteAt p 20 / 16 % 4)
    nameplate := if half p 22 = 0 then none else some (half p 22)
    routeTaken := routeTakenOf (byteAt p 20 / 4 % 4)
    pierce := if half p 24 = 65534 then none else some (half p 24)
    zeroOffset := if half p 26 = 65535 then none else some (half p 26)
    flags := Flags.ofWord (half p 40)
    result := (AccountOutcome.ofCode (byteAt p 21 / 32)).map fun o =>
      { finalPressure := half p 28, massA := half p 30, massB := half p 32, massTotal := half p 34
        yield := if half p 22 = 0 then none else some (half p 36)
        cycles := byteAt p 21 / 4 % 8, seconds := half p 38, outcome := o } }
/-- The 64 bytes of a HELD slot that holds this account (R168, R180). -/
def recordBytes (a : Account) : List Byte :=
  let head := (a.body false ++ [0xFF] ++ List.replicate 13 0).take 62
  head ++ be16 (recordCheck head)

/-! ### The configuration block (R174, R181) -/

/-- The range of a parameter that is clamped (R174), by its number. -/
def paramRange : Nat → Option (Nat × Nat)
  | 0 | 2 | 3 => some (0, 23)
  | 6 => some (100, 2000)
  | 7 => some (2, 8)
  | 8 | 9 => some (1, 2000)
  | 10 => some (1, 1000)
  | 11 => some (10, 600)
  | 12 | 13 | 14 => some (0, 20000)
  | 15 => some (1, 10)
  | 16 | 20 => some (1, 30)
  | 17 => some (0, 30)
  | 18 => some (10, 1800)
  | 19 => some (2, 600)
  | 21 | 22 | 23 | 24 => some (0, 20000)
  | 25 => some (0, 3)
  | 26 => some (0, 1500)
  | 27 | 28 | 29 | 30 | 31 => some (0, 1000)
  | 32 | 33 => some (0, 250)
  | 34 => some (0, 60)
  | 35 => some (1, 300)
  | 36 => some (0, 600)
  | 37 => some (0, 65534)
  | 38 => some (1, 300)
  | 39 => some (1, 600)
  | 40 => some (1, 300)
  | 41 => some (1, 600)
  | 53 => some (0, 60)
  | _ => none
/-- Whether a value is in the set of a parameter that has a set of values (R181). -/
def paramInSet (n v : Nat) : Bool :=
  if n = 1 then v == 1 || v == 2
  else if n = 4 then v ≤ 23 || v == 255
  else if n = 5 ∨ n = 54 then v ≤ 2
  else if 42 ≤ n ∧ n ≤ 52 then
    (v / 256 == 0 || v / 256 == 3 || v / 256 == 6 || v / 256 == 12) && v % 256 ≤ 2
  else false
/-- Whether a value lies in its parameter's range or set (R174). -/
def paramOk (n v : Nat) : Bool :=
  match paramRange n with
  | some (lo, hi) => lo ≤ v && v ≤ hi
  | none => paramInSet n v
/-- The block is valid: 56 words, a matching check word, every parameter in its range (R174). -/
def blockValid (ws : List Half) : Bool :=
  ws.length == 56 && (ws.getD 55 0).toNat == checkWord (wordBytes (ws.take 55))
  && (List.range 55).all fun n => paramOk n (ws.getD n 0).toNat
/-- A working copy with its check word (R177, R181). -/
def blockOf (ws : List Half) : List Half := ws ++ [BitVec.ofNat 16 (checkWord (wordBytes ws))]
/-- A factory block is valid when its check word matches (R174). DESIGN CHOICE of its layout, log 6. -/
def factoryValid (ws : List Half) : Bool :=
  ws.length == 9 && (ws.getD 8 0).toNat == checkWord (wordBytes (ws.take 8))
/-- The filter width and mode a word holds (R181). -/
def sourceSetting (v : Nat) : SourceSetting :=
  ⟨v / 256, if v % 256 = 0 then .latch else if v % 256 = 1 then .auto else .note⟩
/-- The configuration a block holds (R174, R181). -/
def settingsOf (ws : List Half) : Settings :=
  let w := fun n => (ws.getD n 0).toNat
  { address := w 0, role := if w 1 = 2 then .foam else .extraction, gateway := w 2, downstream := w 3
    condenser := if w 4 ≤ 23 then some (w 4) else none
    lineRate := w 5, statusInterval := w 6, staleCount := w 7, capA := w 8, capB := w 9
    ownDemand := w 10, starvationLimit := w 11, backoffLimit := w 12, hysteresis := w 13
    severeLimit := w 14, purgeWait := w 15, clampTime := w 16, classifyTime := w 17
    pulldownTime := w 18, holdTime := w 19, releaseTime := w 20, pulldownTarget := w 21
    riseLimit := w 22, emptyThreshold := w 23, circuitMaximum := w 24, repeatCount := w 25
    yieldLimit := w 26, ambientWatch := w 27, ambientStop := w 28, chamberWatch := w 29
    chamberStop := w 30, purgeLimit := w 31, runLimit := w 32, oxygenTrip := w 33, inertHold := w 34
    doorTime := w 35, carryOver := w 36, quietFlow := w 37, quietTime := w 38, sweepWait := w 39
    sweepTime := w 40, sweepRetry := w 41
    setClampTimeout := sourceSetting (w 42), setValveA := sourceSetting (w 43)
    setValveB := sourceSetting (w 44), setFlowZero := sourceSetting (w 45)
    setFlowOver := sourceSetting (w 46), setChannelOver := sourceSetting (w 47)
    setCircuitHigh := sourceSetting (w 48), setHeaderSevere := sourceSetting (w 49)
    setAmbientStop := sourceSetting (w 50), setOxygenHigh := sourceSetting (w 51)
    setChamberStop := sourceSetting (w 52), recoveryTime := w 53, supplyWarning := 200 + 10 * w 54 }
/-- The parameters at their defaults, the own demand at the default of a role word (R174, R181). -/
def defaultCopy (role : Half) : List Half :=
  (defaultBlock.take 55).set 10 (if role = 2 then 300 else 120)
/-- The working copy as it is loaded over the one held before: the block if valid, else the defaults (R176).
The role that R181 reads for the own demand is that of the copy held before (log 40). -/
def workingCopyOf (ws held : List Half) : List Half :=
  if blockValid ws then ws.take 55 else defaultCopy (held.getD 1 0)

end Sys2Proof.Machine
end

