-- ==== Sys2Proof/Machine/Flags.lean ====
section
/-! DEFINITION. Computed views of the state: the drive gate, the seat report, SUSPEND, the outputs at the
terminals, the line hazard, the items of STATUS, and the conditions of fault codes. Nothing here is stored
twice: each view is a function of the state alone. -/

namespace Sys2Proof.Machine

/-! ### Phase and role -/

/-- The phase of the part (R175). -/
def State.phase (s : State) : Phase := s.boot.phase
/-- JOINING or RUN, the phases in which PT, MS and AS work (R101, R121). -/
def State.working (s : State) : Bool := s.phase == .joining || s.phase == .run
/-- The station is in RUN. -/
def State.inRun (s : State) : Bool := s.phase == .run
/-- The station's role is EXTRACTION. -/
def State.isExtraction (s : State) : Bool := s.cfg.role == .extraction
/-- The station's role is FOAM. -/
def State.isFoam (s : State) : Bool := s.cfg.role == .foam

/-! ### Peers (06) -/

/-- The peer entry of an address (R121). -/
def State.peer (s : State) (a : Nat) : Peer := s.pt.entries.getD a {}
/-- The line hazard (R130): the highest of the own hazard and those of the LIVE and STALE entries. -/
def State.lineHazard (s : State) : Hazard :=
  s.pt.entries.foldl
    (fun h e => if e.presence = .absent then h else h.max e.hazard) s.pt.ownHazard
/-- The hazard level the comparators give (R89, R129). -/
def State.hazardLevel (s : State) : Hazard :=
  let c := s.mu.cmp
  let stop := c.ambientStop.met || (s.isFoam && (c.chamberStop.met || (c.oxygenHigh.met && c.chamberWatch.met)))
  let watch := c.ambientWatch.met || (s.isFoam && c.chamberWatch.met)
  if stop then .stop else if watch then .watch else .noHazard
/-- The accepting state of a route's receiver (R113, R132). -/
def State.accepting (s : State) (r : Route) : Bool :=
  match s.cfg.condenser with
  | none => true
  | some a =>
    let e := s.peer a
    e.presence == .live && (match r with | .A => e.receiverA | .B => e.receiverB)

/-! ### The seat, the gate, SUSPEND (03, 05) -/

/-- MS reports the own claim seated (R107): its CLAIM has been heard back, and the own entry is as the claim is
and seated. -/
def State.ownSeated (s : State) : Bool :=
  match s.ms.own with
  | none => false
  | some c => s.ms.claimHeard && (s.ms.list c.route).any fun e =>
      e.claimant == s.boot.address && e.cls == c.cls && e.demand == c.demand && e.seated
/-- MS reports a purge called by another station in progress (R119). -/
def State.purgeInProgress (s : State) : Bool := !s.ms.marks.isEmpty
/-- The drive gate: DE set and ILK on (R50, R76). -/
def State.gate (s : State) : Bool := s.pu.de && s.level .ilk
/-- The current route of the ACTIVE account (R48). -/
def State.currentRoute (s : State) : Route := if s.sq.routeB then .B else .A
/-- A cause of SUSPEND is present (R65). -/
def State.suspendCause (s : State) : Bool := !s.ownSeated || s.ms.backoff || s.purgeInProgress
/-- SUSPEND applies (R65): a cause is present in E4, E5 or E6. -/
def State.suspended (s : State) : Bool :=
  (s.sq.step == .e4 || s.sq.step == .e5 || s.sq.step == .e6) && s.suspendCause

/-! ### Accounts (01) -/

/-- The ACTIVE account of the queue, if any (R7, R9). -/
def Accounts.active (a : Accounts) : Option QueueEntry := a.queue.find? fun e => e.st == .active
/-- The RECEIVING account of the chamber list, if any (R9, R11). -/
def Accounts.receiving (a : Accounts) : Option ChamberEntry := a.chamber.find? fun e => e.st == .receiving
/-- Whether an account of the chamber list is open (R11). -/
def ChamberEntry.isOpen (e : ChamberEntry) : Bool := e.st != .closed
/-- The intake space (R12). -/
def State.intakeSpace (s : State) : Nat :=
  if s.isFoam && s.inRun && !s.rs.full then 4 - s.ac.intake.length else 0
/-- A start edge would be taken now (R15). -/
def State.startPermitted (s : State) : Bool :=
  s.isExtraction && s.inRun && s.pu.de && s.level .ilk && s.ac.active.isNone && !s.rs.supplyLow
  && (s.ac.queue.any (fun e => e.st == .announced) || decide (s.ac.queue.length < 4))
/-- Every input filter has filled (R34, R35). -/
def Filters.allFilled (x : Filters) : Bool :=
  x.ilk.filled && x.str.filled && x.in2.filled && x.in3.filled && x.vaf.filled && x.vbf.filled
  && x.fcl.filled && x.svc.filled
/-- RDY at an EXTRACTION station (R16): off while an input filter fills. -/
def State.extractionReady (s : State) : Bool := s.mu.filters.allFilled && s.startPermitted

/-! ### Outputs (R50, R75, R76) -/

/-- The eight discrete outputs as they stand at the terminals, OUT0 to OUT7. -/
structure Outputs where
  o0 : Bool
  o1 : Bool
  o2 : Bool
  o3 : Bool
  o4 : Bool
  o5 : Bool
  o6 : Bool
  o7 : Bool
  deriving DecidableEq, Repr

/-- The chamber route (R85). -/
def State.chamberRoute (s : State) : Route := s.ch.cls.route
/-- The valve stands as the station's own purge path (R93). -/
def State.ownPurgePath (s : State) : Bool := s.ch.st == .purging && s.ch.path == .manifold
/-- SQ commands the route valve of the chamber route (R75, R76): on a seat, or as the own purge path, which neither
another station's purge nor the back-off withdraws (R51, R115, R120, log 20). -/
def State.chamberValveCommand (s : State) : Bool :=
  !s.ch.pending && (match s.ch.st with
    | .inerting => false
    | .ready | .entry | .halted => s.ownSeated
    | .sweep => !s.ch.sweep.isStopped && s.ownSeated
    | .purging => s.ch.path == .manifold)
  && (s.ownPurgePath || (!s.purgeInProgress && !s.ms.backoff))
/-- The route valve of the chamber route is on at the terminal (R76). -/
def State.chamberValve (s : State) : Bool := s.isFoam && s.chamberValveCommand && s.gate
/-- SQ commands SRP on (R81). -/
def State.srpCommand (s : State) : Bool :=
  !s.ch.pending && (s.ch.st == .ready || s.ch.st == .entry) && s.ownSeated
  && !s.mu.cmp.oxygenHigh.met && s.pt.ownHazard != .stop
/-- SRP is on at the terminal (R76, R81). -/
def State.srp (s : State) : Bool := s.isFoam && s.srpCommand && s.gate
/-- SQ commands NV on (R75). -/
def State.nvCommand (s : State) : Bool :=
  !s.ch.pending && (match s.ch.st with
    | .inerting | .halted | .purging => true
    | .ready | .entry => false
    | .sweep => !s.ch.sweep.isStopped)
/-- Valve A is on at the terminal (R50, R75). -/
def State.valveA (s : State) : Bool :=
  (s.isExtraction && s.sq.step == .e5 && !s.sq.routeB && !s.suspended && s.gate)
  || (s.chamberValve && s.chamberRoute == .A)
/-- Valve B is on at the terminal (R50, R75). -/
def State.valveB (s : State) : Bool :=
  (s.isExtraction && s.sq.step == .e5 && s.sq.routeB && !s.suspended && s.gate)
  || (s.chamberValve && s.chamberRoute == .B)
/-- FLT: the fault code set is not empty (R155). -/
def State.flt (s : State) : Bool := !s.pu.codes.isEmpty
/-- CLD is commanded in E1 to E6 and gated while the clamp hold is clear (R50). -/
def State.cld (s : State) : Bool :=
  (s.sq.step != .e0 && s.sq.step != .e7) && (s.sq.clampHold || s.gate)
/-- RDY at a FOAM station (R74). -/
def State.chamberReady (s : State) : Bool :=
  !s.ch.pending && (s.ch.st == .ready || s.ch.st == .entry) && s.srp
  && decide (s.ac.chamber.length < 3)
/-- The outputs at the terminals. In the start hold every output is off (R175). -/
def State.outputs (s : State) : Outputs :=
  if s.phase = .hold then ⟨false, false, false, false, false, false, false, false⟩
  else if s.isFoam then
    ⟨!s.ch.pending && s.ch.st == .entry && !s.ch.doorOpen && s.gate, s.valveA, s.valveB, s.nvCommand,
     s.srp, !s.ch.pending && s.ch.st == .purging && s.ch.path == .vent, s.flt, s.chamberReady⟩
  else
    ⟨s.cld, s.valveA, s.valveB, s.sq.step == .e3 && s.gate, false, false, s.flt,
     s.extractionReady⟩

/-! ### STATUS (R126, R127, R179) -/

/-- Byte 1 of STATUS. -/
def Phase.code : Phase → Nat
  | .joining => 0 | .run => 1 | .service => 2 | .configFault => 3 | .hold => 0 | .starting => 0
/-- Code of a step in byte 2 of STATUS. -/
def Step.code : Step → Nat
  | .e0 => 0 | .e1 => 1 | .e2 => 2 | .e3 => 3 | .e4 => 4 | .e5 => 5 | .e6 => 6 | .e7 => 7
/-- Code of a chamber state in byte 2 of STATUS. -/
def ChamberState.code : ChamberState → Nat
  | .inerting => 16 | .ready => 17 | .entry => 18 | .sweep => 19 | .halted => 20 | .purging => 21
/-- Code of a purge path in byte 3 of STATUS. -/
def PurgePath.code : PurgePath → Nat
  | .off => 0 | .awaiting => 1 | .manifold => 2 | .vent => 3
/-- Code of a start cause in byte 13 of STATUS. -/
def causeCode : StartCause → Nat
  | .power => 1
  | .supply => 2
  | .pin => 3
/-- Byte 2 of STATUS: the step or chamber state in RUN, else 255 (R179). -/
def State.stateByte (s : State) : Nat :=
  if s.inRun then if s.isFoam then s.ch.st.code else s.sq.step.code else 255
/-- Byte 3 of STATUS: suspended mark and purge path (R49, R74, R179). -/
def State.marksByte (s : State) : Nat :=
  if s.inRun then
    if s.isFoam then (if s.ch.st = .purging then s.ch.path.code else 0)
    else if s.suspended then 128 else 0
  else 0
/-- The lowest fault code, 0 for an empty set (R151, R179). -/
def State.lowestCode (s : State) : Nat := s.pu.codes.headD 0

/-- The items whose change causes a STATUS (R127). -/
structure Items where
  phase : Phase
  stateByte : Nat
  marksByte : Nat
  ownHazard : Hazard
  de : Bool
  storeFull : Bool
  supplyLow : Bool
  lowest : Nat
  echo : Option Claim
  intake : Nat
  deriving DecidableEq, Repr

/-- The items as they stand. -/
def State.items (s : State) : Items :=
  ⟨s.phase, s.stateByte, s.marksByte, s.pt.ownHazard, s.pu.de, s.rs.full, s.rs.supplyLow,
   s.lowestCode, s.ms.own, s.intakeSpace⟩

/-- Bytes 8 to 11 of STATUS: the claim echo (R179). -/
def echoBytes : Option Claim → List Byte
  | none => [0, 0, 0, 0]
  | some c => [BitVec.ofNat 8 (routeCode c.route), BitVec.ofNat 8 c.cls.code] ++ be16 c.demand
/-- Bytes 12 to 19 of STATUS (R179). -/
def State.statusTail (s : State) : List Byte :=
  [BitVec.ofNat 8 s.lowestCode, BitVec.ofNat 8 (causeCode s.boot.cause), s.nv.startCounter,
   BitVec.ofNat 8 s.pu.codes.length] ++ be32 s.rs.lastSequence
/-- Byte 7 of STATUS: the part's receiver bits are 0 (R126, R179). -/
def State.statusBits (s : State) : Nat :=
  flagBit s.rs.full 2 + flagBit s.pu.de 3 + flagBit s.rs.supplyLow 4
/-- The STATUS payload in JOINING and RUN (R126, R179). -/
def State.statusPayload (s : State) : List Byte :=
  [BitVec.ofNat 8 s.cfg.role.code, BitVec.ofNat 8 s.phase.code, BitVec.ofNat 8 s.stateByte,
   BitVec.ofNat 8 s.marksByte, BitVec.ofNat 8 s.pt.ownHazard.rank, BitVec.ofNat 8 s.lineHazard.rank,
   BitVec.ofNat 8 s.intakeSpace, BitVec.ofNat 8 s.statusBits] ++ echoBytes s.ms.own ++ s.statusTail
/-- The STATUS payload in SERVICE and CONFIG FAULT (R175, R176, R179). -/
def State.servicePayload (s : State) : List Byte :=
  [0, BitVec.ofNat 8 s.phase.code, 255, 0] ++ List.replicate 8 0 ++ s.statusTail

/-! ### Conditions (R144, R152, R154) -/

/-- A fatal code (R153). -/
def isFatal (c : Nat) : Bool := 64 ≤ c
/-- A code of a trip source configured LATCH or AUTO (R144). -/
def Settings.trips (cfg : Settings) (c : Nat) : Bool :=
  match TripSource.ofCode c with
  | some t => (cfg.source t).mode != .note
  | none => false
/-- What R144 makes of DE: set in RUN with no fatal code and no LATCH or AUTO trip code in the set. -/
def State.driveRule (s : State) : Bool :=
  s.inRun && s.pu.codes.all fun c => !isFatal c && !s.cfg.trips c
/-- The condition of a code is present (R152, R154). -/
def State.conditionPresent (s : State) (c : Nat) : Bool :=
  match TripSource.ofCode c with
  | some t => (s.pu.sources.get t).present
  | none =>
    if c = 3 then s.ac.queue.any fun e => e.st == .held
    else if c = 30 then slotState s.nv.slots s.rs.writePosition == .held
    else if c = 32 then s.pt.entries.any fun e => e.presence == .stale && e.role == .foam
    else if c = 33 then s.li.queue.headD ⟨.status, 0, [], 0, 0, 0, 0⟩ |>.collisions |> fun n => decide (16 ≤ n)
    else false

end Sys2Proof.Machine
end

