-- ==== Sys2Proof/Machine/Queue.lean ====
section
/-! DEFINITION. The transmit queue and the enqueueing of telegrams (R163 to R166), and STATUS (R126 to R128). -/

namespace Sys2Proof.Machine

/-- A CLAIM or RELEASE, the own-claim telegrams of R166. -/
def Kind.isOwnClaim : Kind → Bool
  | .claim | .release => true
  | .status | .purgeCall | .purgeClear | .purgeEnd | .certificate | .announce | .closeAccount
  | .abandonAccount | .offer | .accept | .refuse | .read | .readNext | .readData | .collect
  | .checkRange | .checkResult | .faultClear | .key | .configWrite | .configCommit | .configAnswer => false

/-- A telegram at the place its class and first enqueue moment give (R163). -/
def insertTelegram (t : Telegram) : List Telegram → List Telegram
  | [] => [t]
  | u :: us =>
    if t.cls < u.cls ∨ (t.cls = u.cls ∧ t.moment < u.moment) then t :: u :: us
    else u :: insertTelegram t us

/-- The latest first enqueue moment among the telegrams that satisfy `p`. -/
def latestMoment (p : Telegram → Bool) (q : List Telegram) : Nat :=
  (q.filter p).foldl (fun m t => max m t.moment) 0

/-- A place is free: 8 waiting fill the queue, or 7 while the transmitter holds a telegram (R163, R166). -/
def Line.room (l : Line) : Bool :=
  match l.transmitter with
  | none => decide (l.queue.length < 8)
  | some _ => decide (l.queue.length < 7)

/-- A STATUS that replaces the waiting one takes its moment, collision count and backoff, and stays in class
1 when that one was (R164). -/
def replaceStatus (old new : Telegram) : Telegram :=
  { new with
    cls := if old.cls = 1 then 1 else new.cls
    moment := old.moment
    collisions := old.collisions
    backoff := old.backoff }

/-- What a full queue makes of a telegram, in the order of the cases 2 to 5 of R166. -/
def insertFull (t : Telegram) (q : List Telegram) : List Telegram :=
  if t.cls = 3 then q
  else if q.any fun u => u.cls == 3 then
    insertTelegram t
      (q.filter fun u => !(u.cls == 3 && u.moment == latestMoment (fun v => v.cls == 3) q))
  else if t.kind.isOwnClaim then insertTelegram t (q.filter fun u => !u.kind.isOwnClaim)
  else
    insertTelegram t
      (q.filter fun u => !u.kind.isOwnClaim || u.moment == latestMoment (fun v => v.kind.isOwnClaim) q)

/-- Enqueue a telegram: replacement of a waiting STATUS (R164), merging of purge telegrams (R165), then the
free place or the cases of a full queue (R163, R166). A PURGE END removes every own PURGE CALL that waits (log 46). -/
def Line.enqueue (l : Line) (t : Telegram) : Line :=
  let u := { t with moment := l.moment }
  let l' := { l with moment := l.moment + 1 }
  match (if t.kind = .status then l.queue.find? fun v => v.kind == .status else none) with
  | some old =>
    { l' with queue := insertTelegram (replaceStatus old u) (l.queue.filter fun v => v.kind != .status) }
  | none =>
    if t.kind = .purgeClear ∧ (l.queue.any fun v => v.kind == .purgeClear && v.dst == t.dst) = true then l'
    else if t.kind = .purgeEnd ∧ (l.queue.any fun v => v.kind == .purgeCall) = true then
      { l' with queue := l.queue.filter fun v => v.kind != .purgeCall }
    else if l.room then { l' with queue := insertTelegram u l.queue }
    else { l' with queue := insertFull u l.queue }

/-- Enqueue a telegram of a kind in the class of its kind (R167). -/
def State.send (s : State) (k : Kind) (dst : Nat) (payload : List Byte) : State :=
  s.setLi (s.li.enqueue { kind := k, dst := dst, payload := payload, cls := k.cls })

/-- PT enqueues a STATUS: class 1 when its own hazard is higher than that of the STATUS enqueued before it,
else 2 (R128); the status timer starts again (R127). -/
def State.sendStatus (s : State) : State :=
  let cls := if s.li.lastHazard.rank < s.pt.ownHazard.rank then 1 else 2
  let l := s.li.enqueue { kind := .status, dst := 31, payload := s.statusPayload, cls := cls }
  (s.setLi { l with lastHazard := s.pt.ownHazard }).setPt
    { s.pt with timer := Timer.start s.cfg.statusInterval }

/-- One STATUS for all the item changes of a step (R127, log 12), or for a change that is over by its end. -/
def State.announceIf (s : State) (changed : Bool) (old : State) : State :=
  if s.working && (changed || decide (old.items ≠ s.items)) then s.sendStatus else s
end Sys2Proof.Machine
end

