-- ==== Sys2Proof/Machine/Protection.lean ====
section
/-! DEFINITION. The fault code set, drive enable and the trip sources (08). -/

namespace Sys2Proof.Machine

/-- A code put into the ascending set; one already present leaves it as it was (R151). -/
def insertCode (c : Nat) : List Nat → List Nat
  | [] => [c]
  | x :: xs => if c < x then c :: x :: xs else if c = x then x :: xs else x :: insertCode c xs

/-- PU evaluates DE anew (R144). -/
def State.evalDe (s : State) : State := s.setPu { s.pu with de := s.driveRule }

/-- A code is added to the set and DE evaluated (R144, R151). -/
def State.addCode (s : State) (c : Nat) : State :=
  (s.setPu { s.pu with codes := insertCode c s.pu.codes }).evalDe

/-- A code leaves the set and DE is evaluated (R144, R151). -/
def State.removeCode (s : State) (c : Nat) : State :=
  (s.setPu { s.pu with codes := s.pu.codes.filter (· ≠ c) }).evalDe

/-- A trip source's own state replaced. -/
def State.setSource (s : State) (t : TripSource) (x : Source) : State :=
  s.setPu { s.pu with sources := s.pu.sources.set t x }

/-- A trip source's own state. -/
def State.source (s : State) (t : TripSource) : Source := s.pu.sources.get t

/-- A source leaves NORMAL: its code is added and it is TRIPPED with its run count at 0 (R148, R149). -/
def State.trip (s : State) (t : TripSource) (present : Bool) : State :=
  (s.setSource t ⟨.tripped, 0, Timer.stopped, present⟩).addCode t.code

/-- The report of an event source (R147 to R149): its filter is met at that moment whatever its width. -/
def State.reportEvent (s : State) (t : TripSource) : State :=
  match (s.source t).st with
  | .normal => s.trip t true
  | .tripped | .recovering => s.setSource t ⟨.tripped, 0, Timer.stopped, true⟩

/-- One station sample of a trip source by its table of R149. -/
def Source.sample (x : Source) (cfg : SourceSetting) (recoveryMs : Nat) (present : Bool) : Source :=
  match x.st with
  | .normal =>
    if present then { x with run := if x.run < holdRun cfg.width then x.run + 1 else x.run, present := true }
    else { x with run := 0, present := false }
  | .tripped =>
    if present then { x with present := true }
    else if cfg.mode = .auto then ⟨.recovering, 0, Timer.start recoveryMs, false⟩
    else { x with present := false }
  | .recovering =>
    if present then ⟨.tripped, 0, Timer.stopped, true⟩ else { x with present := false }

/-- The recovery of an AUTO source: the code leaves the set and the source is NORMAL (R149, R150). -/
def State.recover (s : State) (t : TripSource) : State :=
  (s.setSource t { s.source t with st := .normal, run := 0, recovery := Timer.stopped }).removeCode t.code

/-- A clear (R154): the lowest code is removed if it is not fatal and its condition is absent; its source
becomes NORMAL and its recovery timer stops. -/
def State.clearLowest (s : State) : State :=
  match s.pu.codes with
  | [] => s
  | c :: _ =>
    if isFatal c || s.conditionPresent c then s
    else match TripSource.ofCode c with
      | some t => s.recover t
      | none => s.removeCode c

/-- RS evaluates the store-full flag (R168): code 30 when it becomes set with the slot at the write position
HELD. -/
def State.evalFull (s : State) : State :=
  let held := slotState s.nv.slots s.rs.writePosition == .held
  let now := held || s.rs.fault
  let t := s.setRs { s.rs with full := now }
  if held && !s.rs.full then t.addCode 30 else t

end Sys2Proof.Machine
end

