-- ==== Sys2Proof/Machine/Seating.lean ====
section
/-! DEFINITION. The Manifold Share Unit's shared operations: claim lists, the seating computation, the own
claim and the purge call (05). -/

namespace Sys2Proof.Machine

/-! ### Claim lists (R102) -/

/-- PRIORITY and EXCLUSIVE rank ahead of ORDINARY (R102). -/
def ClaimClass.classRank : ClaimClass → Nat
  | .priority | .exclusive => 1
  | .ordinary => 2

/-- A new entry at the tail of its rank (R102). -/
def joinList (x : ClaimEntry) : List ClaimEntry → List ClaimEntry
  | [] => [x]
  | e :: es => if x.cls.classRank < e.cls.classRank then x :: e :: es else e :: joinList x es

/-- A list without a claimant's entry. -/
def leaveList (a : Nat) (l : List ClaimEntry) : List ClaimEntry := l.filter fun e => e.claimant != a

/-- Whether a claimant has an entry in a list. -/
def inList (a : Nat) (l : List ClaimEntry) : Bool := l.any fun e => e.claimant == a

/-! ### The seating computation (R108 to R112) -/

/-- S: the sum of the demands of the seated entries (R109). -/
def seatedSum (l : List ClaimEntry) : Nat :=
  (l.map fun e => if e.seated then e.demand else 0).sum

/-- The first step of a run on route B at line hazard STOP: every seated EXTRACTION entry is unseated (R109). -/
def stopUnseat (l : List ClaimEntry) : List ClaimEntry :=
  l.map fun e => if e.role = .extraction then { e with seated := false } else e

/-- Displacement (R111): seated ORDINARY entries are unseated from the tail toward the head until S plus the
demand fits the capacity or none remains. Answers the entries and S. -/
def displace (cap demand : Nat) : List ClaimEntry → Nat → List ClaimEntry × Nat
  | [], total => ([], total)
  | e :: es, total =>
    let (fs, t) := displace cap demand es total
    if t + demand ≤ cap then (e :: fs, t)
    else if e.seated && e.cls == .ordinary then ({ e with seated := false } :: fs, t - e.demand)
    else (e :: fs, t)

/-- The walk of R110 and R111 over the entries, from head to tail. `first`: the next entry is the head of
the list; `behind`: an EXCLUSIVE entry stands ahead of it; `total`: S. -/
def walk (cap : Nat) (first behind : Bool) (total : Nat) : List ClaimEntry → List ClaimEntry
  | [] => []
  | x :: xs =>
    if x.seated then x :: walk cap false (behind || x.cls == .exclusive) total xs
    else if behind then x :: xs
    else match x.cls with
      | .exclusive =>
        (if first && total == 0 && decide (x.demand ≤ cap) then { x with seated := true } else x) :: xs
      | .ordinary =>
        if cap < x.demand then x :: walk cap false false total xs
        else if total + x.demand ≤ cap then
          { x with seated := true } :: walk cap false false (total + x.demand) xs
        else x :: xs
      | .priority =>
        if cap < x.demand then x :: walk cap false false total xs
        else if total + x.demand ≤ cap then
          { x with seated := true } :: walk cap false false (total + x.demand) xs
        else
          let (ys, t) := displace cap x.demand xs total
          (if t + x.demand ≤ cap then { x with seated := true } else x) :: ys

/-- One run of the seating computation on the list of a route (R109 to R111). -/
def seatRun (r : Route) (cap : Nat) (accepting marked : Bool) (h : Hazard) (l : List ClaimEntry) :
    List ClaimEntry :=
  let l1 := if r = .B ∧ h = .stop then stopUnseat l else l
  if !accepting || marked || (r == .B && h != .noHazard) then l1
  else walk cap true false (seatedSum l1) l1

/-- MS runs the seating computation on the list of a route (R108). -/
def State.seat (s : State) (r : Route) : State :=
  s.setMs (s.ms.setList r
    (seatRun r (s.cfg.cap r) (s.accepting r) s.purgeInProgress s.lineHazard (s.ms.list r)))

/-- Runs on both lists; they touch different state and take no order (R108). -/
def State.seatBoth (s : State) : State := (s.seat .A).seat .B

/-- Runs on both lists when the line hazard differs from before (R108, R131). -/
def State.hazardRuns (s old : State) : State :=
  if s.lineHazard = old.lineHazard then s else s.seatBoth

/-- A run on a route's list when its receiver's accepting state differs from before (R108, R113). -/
def State.receiverRuns (s old : State) : State :=
  let t := if s.accepting .A = old.accepting .A then s else s.seat .A
  if t.accepting .B = old.accepting .B then t else t.seat .B

/-! ### Entries (R103 to R106) -/

/-- A claimant's entry removed from whichever list holds it, with a run on that list (R104, R105). -/
def State.dropClaim (s : State) (a : Nat) : State :=
  let t := if inList a s.ms.listA then (s.setMs { s.ms with listA := leaveList a s.ms.listA }).seat .A else s
  if inList a t.ms.listB then (t.setMs { t.ms with listB := leaveList a t.ms.listB }).seat .B else t

/-- A claim replaces the claimant's entry by a new unseated one at the tail of its rank, with a run on every
list changed (R103). -/
def State.putClaim (s : State) (a : Nat) (role : Role) (c : Claim) : State :=
  let other := match c.route with | .A => Route.B | .B => Route.A
  let wasOther := inList a (s.ms.list other)
  let m1 := s.ms.setList other (leaveList a (s.ms.list other))
  let m2 := m1.setList c.route
    (joinList ⟨a, role, c.cls, c.demand, false⟩ (leaveList a (s.ms.list c.route)))
  let t := s.setMs m2
  let u := if wasOther then t.seat other else t
  u.seat c.route

/-- The entry of a claimant that stands on the claim's route with its class and demand (R106). -/
def State.hasClaim (s : State) (a : Nat) (c : Claim) : Bool :=
  (s.ms.list c.route).any fun e => e.claimant == a && e.cls == c.cls && e.demand == c.demand

/-- The comparison of a peer's claim echo with its entry (R106, log 44). -/
def State.compareEcho (s : State) (a : Nat) (role : Role) (e : Echo) : State :=
  match e with
  | .unusable => s
  | .noClaim => s.dropClaim a
  | .claim c => if s.hasClaim a c then s else s.putClaim a role c

/-! ### The own claim (R99, R100) -/

/-- The payload of a CLAIM (R179). -/
def claimBytes (role : Role) (c : Claim) : List Byte :=
  [BitVec.ofNat 8 role.code, BitVec.ofNat 8 (routeCode c.route), BitVec.ofNat 8 c.cls.code] ++ be16 c.demand

/-- MS raises the own claim (R99): the demand clamped to the capacity, any own claim replaced, a CLAIM
enqueued and not yet heard back. -/
def State.raiseClaim (s : State) (r : Route) (cls : ClaimClass) : State :=
  let c : Claim := ⟨r, cls, min s.cfg.ownDemand (s.cfg.cap r)⟩
  (s.setMs { s.ms with own := some c, claimHeard := false }).send .claim 31 (claimBytes s.cfg.role c)

/-- MS releases the own claim if one is held (R100). -/
def State.releaseClaim (s : State) : State :=
  match s.ms.own with
  | none => s
  | some _ => (s.setMs { s.ms with own := none, claimHeard := false }).send .release 31 []

/-! ### Purge marks and the own call (R116 to R120) -/

/-- The addresses of the awaited set (R116): LIVE peers whose role is not UNCONFIGURED. -/
def State.awaitedNow (s : State) : List Nat :=
  (List.range 24).filter fun a =>
    a != s.boot.address && (s.peer a).presence == .live && (s.peer a).role != .unconfigured

/-- MS calls the purge (R116). -/
def State.callPurge (s : State) : State :=
  (s.setMs { s.ms with
    call := ⟨.waiting, s.awaitedNow, false, Timer.start (1000 * s.cfg.purgeWait)⟩ }).send .purgeCall 31 []

/-- MS ends the purge (R118). -/
def State.endPurge (s : State) : State :=
  (s.setMs { s.ms with call := {} }).send .purgeEnd 31 []

/-- SQ moves the purge path to VENT with code 25 (R93). -/
def State.pathToVent (s : State) : State := (s.setCh { s.ch with path := .vent }).addCode 25

/-- MS gives the own call the outcome VENT, with code 25 (R117, R120). -/
def State.callToVent (s : State) : State :=
  (s.setMs { s.ms with call := ⟨.vent, [], s.ms.call.heard, Timer.stopped⟩ }).pathToVent

/-- The outcome MANIFOLD once the own call has been heard and the awaited set is empty (R117). With the
drive gate closed the path is VENT at once, with code 25 (R93). -/
def State.checkCall (s : State) : State :=
  if s.ms.call.st = .waiting ∧ s.ms.call.heard = true ∧ s.ms.call.awaited = [] then
    let t := s.setMs { s.ms with call := ⟨.manifold, [], true, Timer.stopped⟩ }
    if t.gate then t.setCh { t.ch with path := .manifold } else t.pathToVent
  else s

/-- An address leaves the awaited set of a waiting call (R117). -/
def State.dropAwaited (s : State) (a : Nat) : State :=
  if s.ms.call.st = .waiting then
    (s.setMs { s.ms with
      call := { s.ms.call with awaited := s.ms.call.awaited.filter (· ≠ a) } }).checkCall
  else s

/-- A purge-in-progress mark is set for a caller, with runs on both lists when it is new (R108, R119). -/
def State.setMark (s : State) (a : Nat) : State :=
  if s.ms.marks.contains a then s else (s.setMs { s.ms with marks := insertCode a s.ms.marks }).seatBoth

/-- A caller's mark is cleared, with runs on both lists if it was held (R108, R119). -/
def State.clearMark (s : State) (a : Nat) : State :=
  if s.ms.marks.contains a then
    (s.setMs { s.ms with marks := s.ms.marks.filter (· ≠ a) }).seatBoth
  else s

end Sys2Proof.Machine
end

