-- ==== Sys2Proof/Machine/Accounts.lean ====
section
/-! DEFINITION. The Account Store's shared operations: mass arithmetic, finalize, the offer machine, the
chamber list and leaving a list (01, 02, 07). -/

namespace Sys2Proof.Machine

/-! ### Mass arithmetic (R43 to R46) -/

/-- The limit of an accumulator (R43). -/
def accLimit : Nat := 4294967295
/-- An accumulator as a mass in decigrams: nearest, halves up, at most 65,535 (R44). -/
def massOf (acc : Nat) : Nat := min 65535 ((acc + 5000) / 10000)
/-- The yield in per mille of the nameplate (R46). -/
def yieldOf (total nameplate : Nat) : Nat := min 1500 (total * 1000 / nameplate)
/-- The outcome: the first entry of the list of R20 whose condition holds. -/
def outcomeOf (abandon emptyAtPierce : Bool) (total : Nat) (yield : Option Nat) (limit : Nat) :
    AccountOutcome :=
  if abandon then .abandoned
  else if total < 20 ∧ emptyAtPierce = true then .empty
  else match yield with
    | none => .unrated
    | some y => if limit ≤ y then .complete else .short

/-! ### The zero window (R37) -/

/-- The zero window replaced. -/
def State.setWindow (s : State) (w : Window) : State := s.setMu { s.mu with window := w }

/-- An open zero window with nothing counted (R37). -/
def Window.opened : Window := ⟨true, 0, 0, false, 0⟩

/-! ### The extraction queue (R7, R8) -/

/-- The state with the account store replaced by one with this extraction queue. -/
def State.setQueue (s : State) (q : List QueueEntry) : State := s.setAc { s.ac with queue := q }

/-- One change made to the ACTIVE account (R9). -/
def State.onActive (s : State) (f : QueueEntry → QueueEntry) : State :=
  s.setQueue (s.ac.queue.map fun e => if e.st = .active then f e else e)

/-- One change made to the flags of the ACTIVE account (R5). -/
def State.flagActive (s : State) (f : Flags → Flags) : State :=
  s.onActive fun e => { e with account := { e.account with flags := f e.account.flags } }

/-- The abandon mark of the ACTIVE account is set (R6). -/
def State.markAbandoned (s : State) : State := s.onActive fun e => { e with abandon := true }

/-- The ACTIVE account carries PROMOTED (R69). -/
def State.promoted (s : State) : Bool :=
  match s.ac.active with
  | some e => e.account.flags.promoted
  | none => false

/-- Finalize of one entry (R19, R20, R44 to R46): the fields of the extraction result, then DONE with the
working state discarded and the unanswered count at 0 (R133). -/
def finalizeEntry (limit pressure cycles seconds : Nat) (e : QueueEntry) : QueueEntry :=
  let total := massOf (satAdd accLimit e.accA e.accB)
  let y := e.account.nameplate.map (yieldOf total)
  { account := { e.account with
      result := some {
        finalPressure := pressure, massA := massOf e.accA, massB := massOf e.accB, massTotal := total
        yield := y, cycles := cycles, seconds := seconds
        outcome := outcomeOf e.abandon e.account.flags.emptyAtPierce total y limit } }
    st := .done }

/-- Finalize of the ACTIVE account (R19). The final pressure is the first sample of E7, a free value where E7
held none (log 9). -/
def State.finalize (s : State) : State :=
  match s.sq.finalPressure with
  | some p => s.onActive (finalizeEntry s.cfg.yieldLimit p (1 + s.sq.used) s.sq.seconds)
  | none =>
    (s.onActive (finalizeEntry s.cfg.yieldLimit (Config.unsampledFinalPressure s.free).toNat
      (1 + s.sq.used) s.sq.seconds)).nextFree

/-- The key AS assigns next (R1). -/
def State.nextKey (s : State) : Key := ⟨s.cfg.address, s.nv.startCounter.toNat, s.ac.nextNumber⟩

/-- The next origin number advances, from 65,535 to 1 (R1). -/
def nextNumberAfter (n : Nat) : Nat := if n = 65535 then 1 else n + 1

/-- A new account at the tail of the queue with the key assigned at once (R1, R7). -/
def State.createAccount (s : State) (a : Account) (st : QueueState) : State :=
  s.setAc { s.ac with
    queue := s.ac.queue ++ [{ account := { a with key := s.nextKey }, st := st }]
    nextNumber := nextNumberAfter s.ac.nextNumber }

/-- The oldest ANNOUNCED account becomes ACTIVE with its accumulators at 0 and its abandon mark clear (R15). -/
def activateOldest : List QueueEntry → List QueueEntry
  | [] => []
  | e :: es =>
    if e.st = .announced then { e with st := .active, accA := 0, accB := 0, abandon := false } :: es
    else e :: activateOldest es

/-- The first account of the queue with a key (R2). -/
def State.findQueue (s : State) (k : Key) : Option QueueEntry := s.ac.queue.find? fun e => e.account.key == k

/-- The account `findQueue` finds leaves the queue (R7). -/
def State.dropQueue (s : State) (k : Key) : State :=
  s.setQueue (s.ac.queue.eraseP fun e => e.account.key == k)

/-! ### The offer machine (R133 to R139) -/

/-- The offer machine replaced. -/
def State.setOffer (s : State) (o : Offer) : State := s.setAc { s.ac with offer := o }

/-- AS places an OFFER of the oldest DONE account when the conditions of R134 hold. -/
def State.tryOffer (s : State) : State :=
  if s.isExtraction && s.inRun && s.ac.offer.st == .idle && (s.peer s.cfg.downstream).presence == .live then
    match s.ac.queue.find? fun e => e.st == .done with
    | some e =>
      (s.setOffer { s.ac.offer with st := .queued, key := some e.account.key }).send .offer
        s.cfg.downstream (e.account.body false)
    | none => s
  else s

/-- Every HELD account returns to DONE with its unanswered count at 0 (R139). -/
def resumeHeld (q : List QueueEntry) : List QueueEntry :=
  q.map fun e => if e.st = .held then { e with st := .done, unanswered := 0 } else e

/-- What AS makes of a change of the downstream entry (R132, R134, R139): HELD accounts return before the offer is
placed (log 45). -/
def State.downstreamChange (s old : State) : State :=
  if s.isExtraction then
    let o := old.peer s.cfg.downstream
    let n := s.peer s.cfg.downstream
    let presence := decide (o.presence ≠ n.presence)
    let intake := decide (o.intake ≠ n.intake)
    let resumes := (presence || intake) && n.presence == .live && decide (0 < n.intake)
      && s.ac.queue.any fun e => e.st == .held
    let ends := intake && decide (0 < n.intake) && s.ac.offer.st == .holdOff && s.ac.offer.kind == .refused
    let t := if resumes then s.setQueue (resumeHeld s.ac.queue) else s
    let u := if ends then t.setOffer { t.ac.offer with st := .idle, holdOff := Timer.stopped } else t
    if presence || resumes || ends then u.tryOffer else u
  else s

/-! ### The chamber list (R11, R21, R83, R96 to R98) -/

/-- The chamber list replaced. -/
def State.setChamberList (s : State) (l : List ChamberEntry) : State := s.setAc { s.ac with chamber := l }

/-- The oldest open account becomes RECEIVING when none is (R11). -/
def nameReceiving (l : List ChamberEntry) : List ChamberEntry :=
  if l.any fun e => e.st == .receiving then l
  else match l with
    | [] => []
    | e :: es => if e.st = .waiting then { e with st := .receiving } :: es else e :: nameReceiving es

/-- Finalize of a chamber account (R21): foam mass, fixed flags, PASSED, CLOSED, the carry-over timer and the
accumulator discarded. -/
def closeEntry (e : ChamberEntry) : ChamberEntry :=
  { account := { e.account with
      foam := e.account.foam.map fun p => { p with mass := some (massOf e.accF) }
      handoff := some .passed }
    st := .closed }

/-- An open account of the chamber list closes (R98): it is finalized, joins the commit queue, and the oldest
account still open becomes RECEIVING. The quiet comparator is disarmed if it was RECEIVING, to be armed anew
(R97). -/
def State.closeWindow (s : State) (k : Key) : State :=
  match s.ac.chamber.find? fun e => e.account.key == k && e.isOpen with
  | none => s
  | some e =>
    let t := s.setChamberList
      (nameReceiving (s.ac.chamber.map fun f => if f.account.key = k ∧ f.isOpen then closeEntry f else f))
    let u := t.setRs { t.rs with commitQueue := t.rs.commitQueue ++ [k] }
    if e.st = .receiving then u.setMu { u.mu with cmp := { u.mu.cmp with quiet := Comparator.disarm } } else u

/-- The carry-over timer of the newest open account, the one nearest the tail, is started, or reset while the
route valve is off (R83, R96). -/
def startCarry (ms : Nat) (valveOn : Bool) : List ChamberEntry → List ChamberEntry
  | [] => []
  | e :: es =>
    if es.any ChamberEntry.isOpen then e :: startCarry ms valveOn es
    else if e.isOpen then
      { e with carry := if valveOn then Timer.start ms else Timer.reset ms } :: es
    else e :: es

/-- The intake head enters the chamber (R83): its window opens, the carry-over of the newest open account
before it starts, and it becomes RECEIVING if no other account is open. -/
def State.headEnters (s : State) : State :=
  match s.ac.intake with
  | [] => s
  | a :: rest =>
    let flags : FoamFlags := ⟨false, s.mu.zeroRejected, s.ch.st == .purging⟩
    let st := if s.ac.chamber.any ChamberEntry.isOpen then WindowState.waiting else .receiving
    let entry : ChamberEntry :=
      { account := { a with foam := some { station := s.cfg.address, route := s.chamberRoute, flags := flags } }
        st := st }
    s.setAc { s.ac with
      intake := rest
      chamber := startCarry (1000 * s.cfg.carryOver) s.chamberValve s.ac.chamber ++ [entry] }

/-- PURGED DURING WINDOW is added to every open account (R92). -/
def flagPurged (l : List ChamberEntry) : List ChamberEntry :=
  l.map fun e =>
    if e.isOpen then
      { e with account := { e.account with foam := e.account.foam.map fun p =>
          { p with flags := { p.flags with purgedDuringWindow := true } } } }
    else e

end Sys2Proof.Machine
end

