-- ==== Sys2Proof/Machine/Chamber.lean ====
section
/-! DEFINITION. The Sequence Controller of a FOAM station: entries of the chamber states, the conditions on
which they change, and the timers and comparators that follow the route valve (04). -/

namespace Sys2Proof.Machine

/-! ### Conditions -/

/-- A halt cause holds for a state (R90): DE clear, own hazard STOP, or oxygen high met outside INERTING. -/
def State.haltCause (s : State) (st : ChamberState) : Bool :=
  !s.pu.de || s.pt.ownHazard == .stop || (st != .inerting && s.mu.cmp.oxygenHigh.met)

/-- The chamber class of the intake head (R85). -/
def State.headClass (s : State) : Option ChamberClass := s.ac.intake.head?.map fun a => a.foamClass.chamber

/-- The conditions of ENTRY (R82). -/
def State.entryConditions (s : State) : Bool :=
  match s.headClass with
  | none => false
  | some c =>
    decide (s.ac.chamber.length < 3) && c == s.ch.cls && s.srp && s.level .in3
    && (c != .hc || s.lineHazard != .stop) && !s.ch.doorOpen

/-- The conditions of SWEEP (R86). -/
def State.sweepConditions (s : State) : Bool :=
  match s.headClass with
  | none => false
  | some c =>
    c != s.ch.cls && s.ac.chamber.isEmpty && s.ch.sweepRetry.st != .running && !s.haltCause .ready

/-- The conditions on which the chamber leaves HALTED (R91). -/
def State.haltEnds (s : State) : Bool :=
  s.mu.cmp.oxygenUnder.met && s.pt.ownHazard != .stop && s.pu.de

/-! ### Entries of states -/

/-- The state of the chamber replaced. -/
def State.setChamberState (s : State) (st : ChamberState) : State := s.setCh { s.ch with st := st }

/-- The zero window and the inert-reached comparator replaced. -/
def State.setInert (s : State) (w : Window) (c : Comparator) : State :=
  s.setMu { s.mu with window := w, cmp := { s.mu.cmp with inert := c } }

/-- What is tidied when a state is left by a halt or a purge: an INERTING window (R79), an entry cycle before
its door has opened (R84), a sweep (R88). -/
def State.leaveState (s : State) : State :=
  match s.ch.st with
  | .inerting => s.setInert {} Comparator.disarm
  | .entry => if s.ch.doorOpen then s else s.setCh { s.ch with door := Timer.stopped }
  | .sweep => (s.setCh { s.ch with sweepWait := Timer.stopped, sweep := Timer.stopped }).releaseClaim
  | .ready | .halted | .purging => s

/-- Entry of INERTING (R78). -/
def State.enterInerting (s : State) : State :=
  (s.releaseClaim.setCh { s.ch with st := .inerting, zeroDone := false }).setInert Window.opened Comparator.arm

/-- Entry of READY (R80): the PRIORITY claim is raised if no own claim is held (R77). -/
def State.enterReady (s : State) : State :=
  let t := (s.setChamberState .ready).setInert s.mu.window Comparator.disarm
  match t.ms.own with
  | some _ => t
  | none => t.raiseClaim t.chamberRoute .priority

/-- Entry of ENTRY (R82). -/
def State.enterEntry (s : State) : State :=
  s.setCh { s.ch with st := .entry, door := Timer.start (1000 * s.cfg.doorTime) }

/-- Entry of SWEEP (R86). -/
def State.enterSweep (s : State) : State :=
  (s.setCh { s.ch with st := .sweep, sweepWait := Timer.start (1000 * s.cfg.sweepWait) }).releaseClaim.raiseClaim
    s.chamberRoute .exclusive

/-- The EXCLUSIVE claim is seated (R86): the wait stops and the sweep timer is started, held until the route
valve is on. -/
def State.startSweep (s : State) : State :=
  s.setCh { s.ch with sweepWait := Timer.stopped, sweep := Timer.reset (1000 * s.cfg.sweepTime) }

/-- Entry of HALTED (R90). -/
def State.enterHalted (s : State) : State := s.leaveState.setChamberState .halted

/-- Entry of PURGING (R92): every open account is flagged, the purge-clear comparator armed and the purge
called. -/
def State.enterPurging (s : State) : State :=
  let t := s.leaveState.releaseClaim
  let u := (t.setCh { t.ch with st := .purging, path := .awaiting }).setChamberList (flagPurged t.ac.chamber)
  (u.setMu { u.mu with cmp := { u.mu.cmp with purgeClear := Comparator.arm } }).callPurge

/-! ### Changes of state -/

/-- The change of state the conditions call for, if any. -/
def State.chamberMove (s : State) : Option State :=
  match s.ch.st with
  | .inerting =>
    if s.haltCause .inerting then some s.enterHalted
    else if s.ch.zeroDone && s.mu.cmp.inert.met then some s.enterReady
    else none
  | .ready =>
    if s.haltCause .ready then some s.enterHalted
    else if s.entryConditions then some s.enterEntry
    else if s.sweepConditions then some s.enterSweep
    else none
  | .entry =>
    if s.haltCause .entry then some s.enterHalted
    else if !s.ch.doorOpen && !(s.srp && s.level .in3) then
      some ((s.setCh { s.ch with door := Timer.stopped }).enterReady)
    else none
  | .sweep =>
    if s.haltCause .sweep then some s.enterHalted
    else if !s.ch.sweepWait.isStopped && s.ownSeated then some s.startSweep
    else none
  | .halted => if s.haltEnds then some s.enterInerting else none
  | .purging => if s.ch.path = .manifold ∧ s.gate = false then some s.pathToVent else none

/-- The conditions call for a change of the chamber state or of the purge path, so of the state summary (R74). -/
def State.summaryMoves (s : State) : Bool :=
  s.isFoam && !s.ch.pending && (match s.chamberMove with
    | some t => t.ch.st != s.ch.st || t.ch.path != s.ch.path
    | none => false)

/-- Changes of state one after another, at most `n`. Six are more than any command can cause. -/
def State.chamberMoves : Nat → State → State
  | 0, s => s
  | n + 1, s =>
    match s.chamberMove with
    | some t => t.chamberMoves n
    | none => s

/-- The sweep timer runs while the route valve is on at the terminal and is held while it is off (R86). -/
def State.settleSweep (s : State) : State :=
  if s.ch.st = .sweep then s.setCh { s.ch with sweep := s.ch.sweep.follow s.chamberValve } else s

/-- Every started carry-over timer runs while the route valve is on and is held while it is off (R96). -/
def followCarry (valveOn : Bool) (l : List ChamberEntry) : List ChamberEntry :=
  l.map fun e => { e with carry := e.carry.follow valveOn }

/-- Every account of a list whose carry-over timer is due closes. Two that expire at one moment close from the
head of the list, and join the commit queue in that order (log 41). -/
def State.closeDue : List ChamberEntry → State → State
  | [], s => s
  | e :: es, s => State.closeDue es (if e.isOpen && e.carry.due then s.closeWindow e.account.key else s)

/-- The carry-over timers follow the valve; a carry-over of 0 expires at the moment its timer runs (R96). -/
def State.settleCarry (s : State) : State :=
  let t := s.setChamberList (followCarry s.chamberValve s.ac.chamber)
  if s.cfg.carryOver = 0 then State.closeDue t.ac.chamber t else t

/-- The quiet comparator is armed while an account is RECEIVING and the route valve is on (R97). -/
def State.settleQuiet (s : State) : State :=
  let armed := s.ac.receiving.isSome && s.chamberValve
  let c := s.mu.cmp.quiet
  if armed = c.armed then s
  else s.setMu { s.mu with cmp := { s.mu.cmp with
    quiet := if armed then Comparator.arm else Comparator.disarm } }

/-- What SQ does at a FOAM station in RUN once any state it reads may have changed. -/
def State.settleChamber (s : State) : State :=
  if s.ch.pending then s else (s.chamberMoves 6).settleSweep.settleCarry.settleQuiet

end Sys2Proof.Machine
end

