-- ==== Sys2Proof/Machine/Extraction.lean ====
section
/-! DEFINITION. The Sequence Controller of an EXTRACTION station: entries of steps, the routing decision, the
route change, and what follows when the gate, SUSPEND or the seat has changed (03). -/

namespace Sys2Proof.Machine

/-- The duration of a timed step, in milliseconds (section 3.3). -/
def Settings.stepTime (c : Settings) : Step → Nat
  | .e1 => 1000 * c.clampTime
  | .e3 => 1000 * c.classifyTime
  | .e5 => 1000 * c.pulldownTime
  | .e6 => 1000 * c.holdTime
  | .e7 => 1000 * c.releaseTime
  | .e0 | .e2 | .e4 => 0

/-- A comparator of the measurement unit replaced: pulldown reached. -/
def State.setPulldown (s : State) (c : Comparator) : State :=
  s.setMu { s.mu with cmp := { s.mu.cmp with pulldown := c } }

/-- Entry of a timed step with its timer reset: `settle` resumes it, which is to start it from full, when the
gate is open and no SUSPEND applies (R32, R52). -/
def State.enterTimed (s : State) (st : Step) : State :=
  s.setSq { s.sq with step := st, timer := Timer.reset (s.cfg.stepTime st) }

/-- Entry of E1 CLAMP (R53). -/
def State.enterE1 (s : State) : State :=
  (s.setSq { s.sq with repeats := s.cfg.repeatCount, used := 0, detected := false }).enterTimed .e1

/-- Entry of E2 ZERO on a CLC rise (R53, R55): the clamp hold is set and the extraction clock starts. -/
def State.enterE2 (s : State) : State :=
  (s.setSq { s.sq with step := .e2, timer := Timer.stopped, clampHold := true, clock := some 0 }).setWindow {}

/-- Entry of E7 RELEASE (R71). -/
def State.enterE7 (s : State) : State :=
  let seconds := match s.sq.clock with
    | some ms => min 65535 (ms / 1000)
    | none => 0
  ((s.releaseClaim.setSq { s.sq with
      step := .e7
      timer := Timer.start (s.cfg.stepTime .e7)
      clampHold := false
      starve := Timer.stopped
      clock := none
      seconds := seconds
      finalPressure := none }).setWindow {}).setPulldown Comparator.disarm

/-- The account is abandoned: mark set, E7 entered (R18, R54). -/
def State.abandonToE7 (s : State) : State := s.markAbandoned.enterE7

/-- The account of a route change (R62): route taken A_THEN_B, MIXED ROUTING. -/
def QueueEntry.rerouted (e : QueueEntry) : QueueEntry :=
  { e with account := { e.account with
      routeTaken := some .AthenB, flags := { e.account.flags with mixedRouting := true } } }

/-- A route change from A to B (R62). -/
def State.routeChange (s : State) : State :=
  let cls := match s.ms.own with
    | some c => c.cls
    | none => .ordinary
  (((s.setSq { s.sq with routeB := true }).onActive QueueEntry.rerouted).addCode 7).raiseClaim .B cls

/-- Entry of E5 PULLDOWN, first or repeated (R60). -/
def State.enterE5 (s : State) : State :=
  let t := (s.enterTimed .e5).setPulldown Comparator.disarm
  if !t.sq.routeB && t.level .in3 then t.routeChange else t

/-- Entry of E6 HOLD (R63). -/
def State.enterE6 (s : State) : State :=
  ((s.setSq { s.sq with riseCount := 0, candidate := none, pStart := none }).enterTimed .e6).setPulldown
    Comparator.disarm

/-- The declared refrigerant class of the ACTIVE account (R9). -/
def State.declaredClass (s : State) : GasClass :=
  match s.ac.active with
  | some e => e.account.refClass
  | none => .unknown

/-- The routing decision (R57): route B unless nothing points to hydrocarbon. -/
def routesToB (declared : GasClass) (detected : Bool) : Bool := declared == .hc || detected

/-- What the routing decision writes into the account (R57). -/
def QueueEntry.routed (declared : GasClass) (detected : Bool) (e : QueueEntry) : QueueEntry :=
  { e with account := { e.account with
      routeTaken := some (if routesToB declared detected then .B else .A)
      flags := { e.account.flags with
        classMismatch := e.account.flags.classMismatch || (declared == .halo && detected)
        declaredNotDetected := e.account.flags.declaredNotDetected || (declared == .hc && !detected) } } }

/-- The end of E3 (R56, R57, R58): the routing decision, then the entry of E4 with the claim raised. -/
def State.endClassify (s : State) : State :=
  let cls := s.declaredClass
  let hit := s.sq.detected
  let toB := routesToB cls hit
  let t := s.onActive (QueueEntry.routed cls hit)
  let u := if cls == .halo && hit then t.addCode 6 else t
  (u.setSq { u.sq with step := .e4, timer := Timer.stopped, routeB := toB, detected := false }).raiseClaim
    (if toB then .B else .A) .ordinary

/-- The end of E7 (R19, R72): finalize, back to E0 with every item at its start value, and an offer placed if
its conditions hold (R134). -/
def State.endRelease (s : State) : State := (s.finalize.setSq {}).tryOffer

/-! ### What follows a change of the gate, of SUSPEND or of the seat -/

/-- The step timer as the gate and SUSPEND give (R52): reset while the gate is closed, held under SUSPEND,
otherwise running. -/
def State.stepTimer (s : State) : Timer :=
  if s.sq.timer.isStopped then s.sq.timer
  else if !s.gate then Timer.reset (s.cfg.stepTime s.sq.step)
  else if s.suspended then s.sq.timer.hold
  else s.sq.timer.resume

/-- E1: the timer follows the gate (R52). -/
def State.settleE1 (s : State) : State := s.setSq { s.sq with timer := s.stepTimer }

/-- E2: the zero window is open exactly while the gate is (R38, R55). -/
def State.settleE2 (s : State) : State :=
  if s.gate then if s.mu.window.isOpen then s else s.setWindow Window.opened else s.setWindow {}

/-- E3: the timer follows the gate, the detected mark the level of HCD (R52, R56). A classify time of 0 ends
the step at the moment its timer runs. -/
def State.settleE3 (s : State) : State :=
  let t := s.setSq { s.sq with timer := s.stepTimer, detected := s.sq.detected || s.level .in3 }
  if s.cfg.classifyTime = 0 ∧ t.sq.timer.due = true then t.endClassify else t

/-- E5 and E6: the timer follows the gate and SUSPEND (R52, R66); in E5 the pulldown-reached comparator is
armed while the timer runs (R60); in E6 a closed gate starts the rise count afresh (R63). -/
def State.settlePull (s : State) : State :=
  let timer := s.stepTimer
  let t := s.setSq { s.sq with timer := timer }
  if s.sq.step = .e5 then
    if timer.st = .running then
      if t.mu.cmp.pulldown.armed then t else t.setPulldown Comparator.arm
    else t.setPulldown Comparator.disarm
  else if s.gate then t
  else t.setSq { t.sq with riseCount := 0, candidate := none, pStart := none }

/-- The starvation timer (R69). -/
def State.settleStarve (s : State) : State :=
  if s.sq.step = .e4 ∨ s.sq.step = .e5 ∨ s.sq.step = .e6 then
    let full := 1000 * s.cfg.starvationLimit
    let timer :=
      if s.ownSeated || s.promoted then Timer.stopped
      else if !s.gate then if s.sq.starve.isStopped then s.sq.starve else Timer.reset full
      else if s.sq.starve.st = .running then s.sq.starve
      else Timer.start full
    s.setSq { s.sq with starve := timer }
  else s

/-- E4: the report of the seat stops the starvation timer (R69) and leads to E5 at once (R59). -/
def State.settleE4 (s : State) : State :=
  if s.ownSeated then (s.setSq { s.sq with starve := Timer.stopped }).enterE5.settlePull else s

/-- What SQ does at an EXTRACTION station once the gate, SUSPEND, the seat or HCD may have changed. -/
def State.settleExtraction (s : State) : State :=
  State.settleStarve
    (match s.sq.step with
      | .e1 => s.settleE1
      | .e2 => s.settleE2
      | .e3 => s.settleE3
      | .e4 => s.settleE4
      | .e5 | .e6 => s.settlePull
      | .e0 | .e7 => s)

end Sys2Proof.Machine
end

