-- ==== Sys2Proof/Machine/Settle.lean ====
section
/-! DEFINITION. How a step ends: SQ follows what has changed, then one STATUS reports it (log 12). -/

namespace Sys2Proof.Machine

/-- SQ follows the change in its role. -/
def State.settle (s : State) : State :=
  if s.isFoam then s.settleChamber else s.settleExtraction

/-- The end of a step that may have changed what SQ reads: SQ follows, then one STATUS (R127), also when the
state summary has changed and come back within the step (R74, log 12). `changed` says so of a change made
before SQ follows. -/
def State.concludeIf (s : State) (changed : Bool) (old : State) : State :=
  s.settle.announceIf (changed || s.summaryMoves) old

/-- The end of a step whose own changes all stand at its end. -/
def State.conclude (s old : State) : State := s.concludeIf false old

end Sys2Proof.Machine
end

