-- ==== Sys2Proof/Machine/Hearing.lean ====
section
/-! DEFINITION. What LI does with a telegram it has received, and what PT does with its sender (R122, R125,
R158, R159, R176). -/

namespace Sys2Proof.Machine

/-- The age timer's duration in milliseconds (R121). -/
def Settings.staleTime (c : Settings) : Nat := c.staleCount * c.statusInterval

/-- The refreshed entry (R122): LIVE with its age timer from full; an ABSENT one starts anew, a LIVE or STALE
one keeps its items. -/
def Peer.refreshed (c : Settings) (e : Peer) : Peer :=
  match e.presence with
  | .absent => { presence := .live, age := Timer.start c.staleTime }
  | .live | .stale => { e with presence := .live, age := Timer.start c.staleTime }

/-- The state with the peer entry of an address replaced. -/
def State.setPeer (s : State) (a : Nat) (e : Peer) : State :=
  s.setPt { s.pt with entries := s.pt.entries.set a e }

/-- PT refreshes the sender's entry (R122). -/
def State.refresh (s : State) (a : Nat) : State := s.setPeer a ((s.peer a).refreshed s.cfg)

/-- The received telegram is over: LI ignores what follows until the next idle (R157, log 18). -/
def State.endReception (s : State) : State := s.setLi { s.li with receiver := .ignoring }

/-- LI receives another party's telegram: its receiver is receiving, and its transmitter holds none that goes on
uncollided (R156, R159, logs 18 and 42). -/
def Line.hearing (l : Line) : Bool := l.receiver == .receiving && l.transmitter.isNone

/-- A valid telegram that is not the station's own transmission (R122, R125, R158). `act` is what follows the
refresh of the sender's entry. A source of 32 or more is no station's and has no effect, as 24..31 (log 39). -/
def State.hear (s : State) (f : Frame) (act : State → State) : State :=
  if s.li.hearing = false then s
  else
    let t := s.endReception
    if !t.working then t
    else if f.dst.toNat ≠ t.boot.address ∧ f.dst.toNat ≠ 31 then t
    else if f.src.toNat = t.boot.address then (t.addCode 67).conclude t
    else if 24 ≤ f.src.toNat then t
    else act (t.refresh f.src.toNat)

/-- An ACCEPT or REFUSE of this station waits or is being transmitted (R158). -/
def Line.answerWaits (l : Line) : Bool :=
  (l.queue ++ l.transmitter.toList).any fun t => t.kind == .accept || t.kind == .refuse

/-- LI hands the telegram to the block that owns its kind, not to PT alone (R158). -/
def State.handsOn (s : State) (k : Kind) (f : Frame) : Bool :=
  k.lengthOk f.payload.length && (!k.fromGateway || f.src.toNat == s.cfg.gateway)
  && !(k == .offer && s.li.answerWaits)

/-- A telegram of a kind: PT and AS take note of the sender (R122, R132), then the owning block acts if LI
hands it the telegram. -/
def State.hearKind (s : State) (k : Kind) (f : Frame) (act : State → State) : State :=
  s.hear f fun t =>
    if s.handsOn k f then act (t.downstreamChange s) else t.downstreamChange s

/-- A telegram of SERVICE (R158, R176): KEY, CONFIG WRITE or CONFIG COMMIT from a source 0..23 to the service
address, of its kind's length. -/
def State.hearService (s : State) (k : Kind) (f : Frame) (act : State → State) : State :=
  if s.li.hearing = false then s
  else
    let t := s.endReception
    if k.lengthOk f.payload.length && f.dst.toNat == t.boot.address && decide (f.src.toNat ≤ 23) then act t
    else t

end Sys2Proof.Machine
end

