-- ==== Sys2Proof/Machine/AccountFamily.lean ====
section
/-! DEFINITION. The gateway's account instructions and the exchange with the downstream station (01, 07). -/

namespace Sys2Proof.Machine

/-! ### ANNOUNCE, CLOSE ACCOUNT, ABANDON ACCOUNT -/

/-- The declared fields of an ANNOUNCE written over an account (R4, R14). -/
def declare (p : List Byte) (a : Account) : Account :=
  { a with
    tag := some (tagChars (p.take 16))
    refClass := GasClass.ofCode (byteAt p 16)
    foamClass := GasClass.ofCode (byteAt p 17)
    nameplate := if half p 18 = 0 then none else some (half p 18) }

/-- The cases of R14, in order. -/
def State.takeAnnounce (s : State) (p : List Byte) : State :=
  let field := p.take 16
  let mine := fun (e : QueueEntry) => e.account.tag == some (tagChars field)
  if (tagChars field).isEmpty || !tagWellFormed field then s
  else if s.ac.queue.any fun e => mine e && e.st == .announced then
    s.setQueue (s.ac.queue.map fun e =>
      if mine e && e.st == .announced then { e with account := declare p e.account } else e)
  else if s.ac.queue.any mine then s.addCode 2
  else if s.ac.queue.length < 4 then s.createAccount (declare p { key := ⟨0, 0, 0⟩ }) .announced
  else s.addCode 1

/-- ANNOUNCE (R13, R14). -/
def execAnnounce (f : Frame) (s : State) : Host.Outcome State Fault Refusal :=
  .next (s.hearKind .announce f fun t =>
    if t.isExtraction then (t.takeAnnounce f.payload).conclude s else t)

/-- An offer for this account is outstanding (R17, R133). -/
def State.outstanding (s : State) (k : Key) : Bool :=
  (s.ac.offer.st == .queued || s.ac.offer.st == .awaiting) && s.ac.offer.key == some k

/-- The account `findQueue` finds becomes CLOSING with CLOSED AT ORIGIN and enters the commit queue (R17, R22). -/
def State.closeAtOrigin (s : State) (k : Key) : State :=
  let t := s.setQueue (s.ac.queue.modify (s.ac.queue.findIdx fun e => e.account.key == k) fun e =>
    { e with st := .closing, account := { e.account with handoff := some .closedAtOrigin } })
  t.setRs { t.rs with commitQueue := t.rs.commitQueue ++ [k] }

/-- The table of R17. -/
def State.takeClose (s : State) (k : Key) : State :=
  match s.findQueue k with
  | none => s
  | some e =>
    match e.st with
    | .announced => s.dropQueue k
    | .done => if s.outstanding k then s else s.closeAtOrigin k
    | .held => s.closeAtOrigin k
    | .active | .closing => s

/-- CLOSE_ACCOUNT (R13, R17). -/
def execCloseAccount (f : Frame) (s : State) : Host.Outcome State Fault Refusal :=
  .next (s.hearKind .closeAccount f fun t =>
    if t.isExtraction then (t.takeClose (keyAt f.payload 0)).conclude s else t)

/-- ABANDON_ACCOUNT (R13, R18): the mark, and E7 unless the sequence is in E7 already. -/
def State.takeAbandon (s : State) (k : Key) : State :=
  match s.ac.active with
  | none => s
  | some e =>
    if e.account.key ≠ k then s
    else if s.sq.step = .e0 ∨ s.sq.step = .e7 then s.markAbandoned
    else s.abandonToE7

/-- ABANDON_ACCOUNT (R13, R18). -/
def execAbandonAccount (f : Frame) (s : State) : Host.Outcome State Fault Refusal :=
  .next (s.hearKind .abandonAccount f fun t =>
    if t.isExtraction then (t.takeAbandon (keyAt f.payload 0)).conclude s else t)

/-! ### The exchange -/

/-- The key is held in the intake list or the chamber list (R2, R140). -/
def Accounts.holdsKey (a : Accounts) (k : Key) : Bool :=
  (a.intake.any fun x => x.key == k) || a.chamber.any fun e => e.account.key == k

/-- ACCEPT to the OFFER's source (R140, R179). -/
def State.sendAccept (s : State) (a : Nat) (k : Key) : State := s.send .accept a (keyBytes k)

/-- REFUSE with its reason, 1 FULL or 2 NOT READY (R140, R179). -/
def State.sendRefuse (s : State) (a : Nat) (k : Key) (reason : Nat) : State :=
  s.send .refuse a (keyBytes k ++ [BitVec.ofNat 8 reason])

/-- The cases of R140 for a checked OFFER, and R141. -/
def State.takeOffer (s : State) (a : Nat) (p : List Byte) : State :=
  let k := keyAt p 0
  if s.ac.holdsKey k then s.sendAccept a k
  else if !s.inRun then s.sendRefuse a k 2
  else if decide (4 ≤ s.ac.intake.length) || s.rs.full then s.sendRefuse a k 1
  else (s.setAc { s.ac with intake := s.ac.intake ++ [accountOf p] }).sendAccept a k

/-- OFFER (R140). -/
def execOffer (f : Frame) (s : State) : Host.Outcome State Fault Refusal :=
  .next (s.hearKind .offer f fun t =>
    if t.isFoam && offerOk f.src.toNat f.payload then
      (t.takeOffer f.src.toNat f.payload).conclude s
    else t)

/-- The account of a DONE or HELD key leaves the queue, and the offer machine follows (R136). -/
def State.takeAccept (s : State) (k : Key) : State :=
  match s.findQueue k with
  | none => s
  | some e =>
    if e.st = .done ∨ e.st = .held then
      let t := s.dropQueue k
      if t.ac.offer.key = some k then
        match t.ac.offer.st with
        | .awaiting =>
          (t.setOffer { t.ac.offer with st := .idle, key := none, answer := Timer.stopped }).tryOffer
        | .holdOff => t.setOffer { t.ac.offer with key := none }
        | .queued | .idle => t
      else t
    else s

/-- ACCEPT (R136). -/
def execAccept (f : Frame) (s : State) : Host.Outcome State Fault Refusal :=
  .next (s.hearKind .accept f fun t =>
    if t.isExtraction && f.src.toNat == t.cfg.downstream then
      (t.takeAccept (keyAt f.payload 0)).conclude s
    else t)

/-- The offer ends with a hold-off (R137, R138). -/
def State.startHoldOff (s : State) (kind : HoldOffKind) (ms : Nat) : State :=
  s.setOffer { st := .holdOff, key := none, answer := Timer.stopped, holdOff := Timer.start ms, kind := kind }

/-- The unanswered count of an account replaced. -/
def State.setUnanswered (s : State) (k : Key) (n : Nat) : State :=
  s.setQueue (s.ac.queue.map fun e => if e.account.key = k then { e with unanswered := n } else e)

/-- REFUSE while AWAITING, for the offered key (R137). -/
def State.takeRefuse (s : State) (k : Key) : State :=
  if s.ac.offer.st = .awaiting ∧ s.ac.offer.key = some k then
    (s.setUnanswered k 0).startHoldOff .refused 5000
  else s

/-- REFUSE (R137). -/
def execRefuse (f : Frame) (s : State) : Host.Outcome State Fault Refusal :=
  .next (s.hearKind .refuse f fun t =>
    if t.isExtraction && f.src.toNat == t.cfg.downstream then
      (t.takeRefuse (keyAt f.payload 0)).conclude s
    else t)

/-- One more unanswered offer of an account (R138): the third makes it HELD. -/
def QueueEntry.unansweredMore (e : QueueEntry) : QueueEntry :=
  if e.unanswered + 1 < 3 then { e with unanswered := e.unanswered + 1 }
  else { e with unanswered := 3, st := .held }

/-- The offer has gone unanswered (R138). -/
def State.offerUnanswered (s : State) : State :=
  match s.ac.offer.key with
  | none => s.startHoldOff .unanswered 1000
  | some k =>
    let held := s.ac.queue.any fun e =>
      e.account.key == k && e.st == .done && decide (3 ≤ e.unanswered + 1)
    let t := (s.setQueue (s.ac.queue.map fun e =>
      if e.account.key = k ∧ e.st = .done then e.unansweredMore else e)).startHoldOff .unanswered 1000
    if held then t.addCode 3 else t

/-- ANSWER_TIMER_EXPIRY (R138). -/
def execAnswerTimerExpiry (s : State) : Host.Outcome State Fault Refusal :=
  .next (if s.ac.offer.st = .awaiting ∧ s.ac.offer.answer.due = true then s.offerUnanswered.conclude s else s)

/-- HOLD_OFF_EXPIRY (R139): the offer state is IDLE, and R134 places the next offer. -/
def execHoldOffExpiry (s : State) : Host.Outcome State Fault Refusal :=
  .next (if s.ac.offer.st = .holdOff ∧ s.ac.offer.holdOff.due = true then
      (s.setOffer { s.ac.offer with st := .idle, holdOff := Timer.stopped }).tryOffer.conclude s
    else s)

end Sys2Proof.Machine
end

