-- ==== Sys2Proof/Machine/ExtractionFamily.lean ====
section
/-! DEFINITION. The commands of the extraction sequence: input edges, step timers and comparators (03). The
interlock serves both roles (R67, R68, R76). -/

namespace Sys2Proof.Machine

/-- The edge of an input is due (R33). An input whose meaning follows the role takes an edge by this role's
command when the role is the station's, or when no role is at work yet. -/
def State.takesEdge (s : State) (p : Pin) (up role : Bool) : Bool :=
  s.phase != .hold && (s.filter p).edgeDue up && (role || !s.working)

/-- The filtered level of a pin changes (R33). -/
def State.edge (s : State) (p : Pin) : State := s.setFilter p (s.filter p).toggle

/-- ILK_FALL (R67, R76): the drive gate closes. -/
def execIlkFall (s : State) : Host.Outcome State Fault Refusal :=
  .next (if s.takesEdge .ilk false true then (s.edge .ilk).conclude s else s)

/-- ILK_RISE (R68, R76): the drive gate opens if DE is set. -/
def execIlkRise (s : State) : Host.Outcome State Fault Refusal :=
  .next (if s.takesEdge .ilk true true then (s.edge .ilk).conclude s else s)

/-- What AS makes of a start edge that is taken (R15): the oldest ANNOUNCED account becomes ACTIVE, or a new
untagged one is created ACTIVE. -/
def State.startAccount (s : State) : State :=
  if s.ac.queue.any fun e => e.st == .announced then s.setQueue (activateOldest s.ac.queue)
  else s.createAccount { key := ⟨0, 0, 0⟩ } .active

/-- START_EDGE (R15, R53). -/
def execStartEdge (s : State) : Host.Outcome State Fault Refusal :=
  .next (if s.takesEdge .str true true then
      if s.startPermitted then ((s.edge .str).startAccount.enterE1).conclude s else s.edge .str
    else s)

/-- CLC_RISE (R53): taken in E1 alone. -/
def execClcRise (s : State) : Host.Outcome State Fault Refusal :=
  .next (if s.takesEdge .in2 true s.isExtraction then
      if s.sq.step = .e1 then ((s.edge .in2).enterE2).conclude s else s.edge .in2
    else s)

/-- The clamp has failed (R53, R54): the account is abandoned with code 10. -/
def State.clampFailed (s : State) : State := ((s.markAbandoned).reportEvent .clampTimeout).enterE7

/-- A falling CLC by the step (R54, R72). -/
def State.clampOpened (s : State) : State :=
  match s.sq.step with
  | .e0 | .e1 => s
  | .e2 | .e3 | .e4 | .e5 | .e6 => if s.sq.clampHold then s.clampFailed else s
  | .e7 => s.endRelease

/-- CLC_FALL (R54, R72). -/
def execClcFall (s : State) : Host.Outcome State Fault Refusal :=
  .next (if s.takesEdge .in2 false s.isExtraction then ((s.edge .in2).clampOpened).conclude s else s)

/-- The step timer of a step is due. -/
def State.stepDue (s : State) (st : Step) : Bool := s.sq.step == st && s.sq.timer.due

/-- CLAMP_TIMEOUT (R53). -/
def execClampTimeout (s : State) : Host.Outcome State Fault Refusal :=
  .next (if s.stepDue .e1 then s.clampFailed.conclude s else s)

/-- HCD_RISE (R56, R62): the detected mark in E3, a route change in E5 on route A. -/
def execHcdRise (s : State) : Host.Outcome State Fault Refusal :=
  .next (if s.takesEdge .in3 true s.isExtraction then
      let t := s.edge .in3
      (if t.sq.step = .e5 ∧ t.sq.routeB = false then t.routeChange else t).conclude s
    else s)

/-- CLASSIFY_TIME_EXPIRY (R56, R57, R58). -/
def execClassifyTimeExpiry (s : State) : Host.Outcome State Fault Refusal :=
  .next (if s.stepDue .e3 then s.endClassify.conclude s else s)

/-- PULLDOWN_REACHED (R61). -/
def execPulldownReached (s : State) : Host.Outcome State Fault Refusal :=
  .next (if s.sq.step = .e5 ∧ s.mu.cmp.pulldown.due 20 = true then s.enterE6.conclude s else s)

/-- PULLDOWN_TIMEOUT (R61). -/
def execPulldownTimeout (s : State) : Host.Outcome State Fault Refusal :=
  .next (if s.stepDue .e5 then
      ((s.flagActive fun f => { f with pulldownTimeout := true }).enterE7).conclude s
    else s)

/-- P_START (R63): the value of the 100th counted sample becomes p_start. -/
def execPStart (s : State) : Host.Outcome State Fault Refusal :=
  .next (if s.sq.step = .e6 ∧ s.sq.riseCount = 100 ∧ s.sq.pStart = none then
      s.setSq { s.sq with pStart := s.sq.candidate }
    else s)

/-- The rise test passes (R64). -/
def riseOk (limit pStart pEnd : Nat) : Bool :=
  pStart != 65535 && pEnd != 65535 && decide (pEnd ≤ pStart + limit)

/-- What follows the rise test (R64). -/
def State.afterRise (s : State) (pass : Bool) : State :=
  if pass then s.enterE7
  else if 0 < s.sq.repeats then
    (s.setSq { s.sq with repeats := s.sq.repeats - 1, used := s.sq.used + 1 }).enterE5
  else (s.flagActive fun f => { f with outgassingUnfinished := true }).enterE7

/-- HOLD_TIME_EXPIRY (R63, R64). Without p_start it has no effect (log 14). -/
def execHoldTimeExpiry (s : State) : Host.Outcome State Fault Refusal :=
  .next (if s.stepDue .e6 then
      match s.sq.pStart with
      | some p => (s.afterRise (riseOk s.cfg.riseLimit p s.mu.ch.c0)).conclude s
      | none => s
    else s)

/-- The own claim is raised anew as PRIORITY and the account carries PROMOTED (R70). -/
def State.promote (s : State) : State :=
  ((s.setSq { s.sq with starve := Timer.stopped }).flagActive fun f => { f with promoted := true }).raiseClaim
    s.currentRoute .priority

/-- STARVATION_PROMOTION (R70). -/
def execStarvationPromotion (s : State) : Host.Outcome State Fault Refusal :=
  .next (if s.sq.starve.due then s.promote.conclude s else s)

/-- RELEASE_TIME_EXPIRY (R72). -/
def execReleaseTimeExpiry (s : State) : Host.Outcome State Fault Refusal :=
  .next (if s.stepDue .e7 then s.endRelease.conclude s else s)

end Sys2Proof.Machine
end

