-- ==== Sys2Proof/Machine/PeerFamily.lean ====
section
/-! DEFINITION. The commands of the Peer Table: STATUS, staleness, the status timer and the own hazard (06). -/

namespace Sys2Proof.Machine

/-- A STATUS written into its sender's entry, with all that MS and AS make of it (R106, R119, R123, R131,
R132, log 13). `old` is the state before the telegram. -/
def State.takeStatus (s old : State) (a : Nat) (p : List Byte) : State :=
  let e := peerOfStatus (s.peer a) p
  let t := (s.setPeer a e).compareEcho a e.role e.echo
  let u := if statusPurging p then t else t.clearMark a
  ((u.hazardRuns old).receiverRuns old).downstreamChange old

/-- STATUS (R123). -/
def execStatus (f : Frame) (s : State) : Host.Outcome State Fault Refusal :=
  .next (s.hear f fun t =>
    if s.handsOn .status f then (t.takeStatus s f.src.toNat f.payload).conclude s
    else t.downstreamChange s)

/-- The entry as it becomes STALE (R124). -/
def Peer.staled (e : Peer) : Peer :=
  { e with
    presence := .stale, intake := 0, receiverA := false, receiverB := false, echo := .noClaim
    hazard := if e.role = .foam then .stop else .noHazard
    age := Timer.stopped }

/-- The entry of an address becomes STALE, with all that MS, PU and AS make of it (R105, R117, R119, R124,
R131, R132, log 13). -/
def State.makeStale (s : State) (a : Nat) : State :=
  let t := (s.setPeer a (s.peer a).staled).hazardRuns s
  let u := ((t.dropClaim a).clearMark a).dropAwaited a
  let v := u.receiverRuns s
  (if (s.peer a).role = .foam then v.addCode 32 else v).downstreamChange s

/-- PEER_STALE (R124): the age timer of a LIVE entry expires. -/
def execPeerStale (a : Fin 24) (s : State) : Host.Outcome State Fault Refusal :=
  .next (if s.working && ((s.peer a).presence == .live && (s.peer a).age.due) then
      (s.makeStale a).conclude s
    else s)

/-- STATUS_TIMER_EXPIRY (R127). -/
def execStatusTimerExpiry (s : State) : Host.Outcome State Fault Refusal :=
  .next (if s.working && s.pt.timer.due then s.sendStatus else s)

/-- PT forms the own hazard anew, and the line hazard with it (R89, R129, R131). -/
def State.formHazard (s : State) : State :=
  (s.setPt { s.pt with ownHazard := s.hazardLevel }).hazardRuns s

/-- OWN_HAZARD_CHANGE (R129). -/
def execOwnHazardChange (s : State) : Host.Outcome State Fault Refusal :=
  .next (if s.working && s.hazardLevel != s.pt.ownHazard then s.formHazard.conclude s else s)

end Sys2Proof.Machine
end

