-- ==== Sys2Proof/Machine/ChamberFamily.lean ====
section
/-! DEFINITION. The commands of the foam chamber (04). -/

namespace Sys2Proof.Machine

/-! ### Comparators -/

/-- The comparators replaced. -/
def State.setCmp (s : State) (c : Comparators) : State := s.setMu { s.mu with cmp := c }

/-- OXYGEN_HIGH (R89, R90): the comparator becomes met, which with the chamber watch level is an own hazard of
STOP, and is a halt cause outside INERTING. -/
def execOxygenHigh (s : State) : Host.Outcome State Fault Refusal :=
  .next (if s.isFoam && s.mu.cmp.oxygenHigh.due 0 then
      ((s.setCmp { s.mu.cmp with oxygenHigh := s.mu.cmp.oxygenHigh.fire }).formHazard).conclude s
    else s)

/-- OXYGEN_UNDER_RUN_LIMIT (R91). -/
def execOxygenUnderRunLimit (s : State) : Host.Outcome State Fault Refusal :=
  .next (if s.isFoam && s.mu.cmp.oxygenUnder.due 0 then
      (s.setCmp { s.mu.cmp with oxygenUnder := s.mu.cmp.oxygenUnder.fire }).conclude s
    else s)

/-- INERT_REACHED (R78): the chamber passes to READY once the zero window has completed. -/
def execInertReached (s : State) : Host.Outcome State Fault Refusal :=
  .next (if s.isFoam && s.mu.cmp.inert.due (100 * s.cfg.inertHold) then
      (s.setCmp { s.mu.cmp with inert := s.mu.cmp.inert.fire }).conclude s
    else s)

/-- PURGE_NEEDED (R92): the chamber enters PURGING from any other state in RUN (log 21). -/
def execPurgeNeeded (s : State) : Host.Outcome State Fault Refusal :=
  .next (if s.isFoam && s.mu.cmp.purgeNeeded.due 20 then
      let t := s.setCmp { s.mu.cmp with purgeNeeded := s.mu.cmp.purgeNeeded.fire }
      (if t.ch.pending = false ∧ t.ch.st ≠ .purging then t.enterPurging else t).conclude s
    else s)

/-- The end of a purge (R94): the path is none, the comparator disarmed, PURGE END sent, INERTING entered. -/
def State.leavePurging (s : State) : State :=
  ((s.setCmp { s.mu.cmp with purgeClear := Comparator.disarm }).setCh
    { s.ch with path := .off }).endPurge.enterInerting

/-- PURGE_CLEAR_MET (R94). A halt cause takes the chamber on to HALTED at once (R90). -/
def execPurgeClearMet (s : State) : Host.Outcome State Fault Refusal :=
  .next (if s.isFoam && s.ch.st == .purging && s.mu.cmp.purgeClear.due 1000 then
      s.leavePurging.conclude s
    else s)

/-- QUIET (R97): the RECEIVING account closes. -/
def execQuiet (s : State) : Host.Outcome State Fault Refusal :=
  .next (if s.isFoam && s.mu.cmp.quiet.due (100 * s.cfg.quietTime) then
      match s.ac.receiving with
      | some e => (s.closeWindow e.account.key).conclude s
      | none => s
    else s)

/-- The carry-over timer of the open account with this key is due. -/
def State.carryDue (s : State) (k : Key) : Bool :=
  s.ac.chamber.any fun e => e.account.key == k && e.isOpen && e.carry.due

/-- CARRY_OVER_EXPIRY (R96): the account closes, RECEIVING or WAITING. -/
def execCarryOverExpiry (k : Key) (s : State) : Host.Outcome State Fault Refusal :=
  .next (if s.isFoam && s.carryDue k then (s.closeWindow k).conclude s else s)

/-! ### The door and the shredder -/

/-- DRC_FALL (R83): in ENTRY with the mark clear the door timer stops and the mark is set. -/
def execDrcFall (s : State) : Host.Outcome State Fault Refusal :=
  .next (if s.takesEdge .in2 false s.isFoam then
      let t := s.edge .in2
      (if t.ch.st = .entry ∧ t.ch.doorOpen = false then
        t.setCh { t.ch with door := Timer.stopped, doorOpen := true }
      else t).conclude s
    else s)

/-- The door closes behind the cabinet (R83): the intake head enters the chamber, the mark is cleared, and
ENTRY passes to READY. -/
def State.doorCloses (s : State) : State :=
  let t := s.headEnters
  let u := t.setCh { t.ch with doorOpen := false }
  if u.ch.st = .entry then u.enterReady else u

/-- DRC_RISE (R83). -/
def execDrcRise (s : State) : Host.Outcome State Fault Refusal :=
  .next (if s.takesEdge .in2 true s.isFoam then
      let t := s.edge .in2
      if t.ch.doorOpen then t.doorCloses.concludeIf (t.ch.st == .entry) s else t.conclude s
    else s)

/-- SRF_CHANGE (R82, R84): either edge of the shredder-running input. -/
def execSrfChange (s : State) : Host.Outcome State Fault Refusal :=
  .next (if s.takesEdge .in3 (!s.level .in3) s.isFoam then (s.edge .in3).conclude s else s)

/-- DOOR_TIMER_EXPIRY (R83): the chamber passes to READY, from which ENTRY may follow at once, within this step.
A DRC fall taken after it then finds ENTRY (log 43). -/
def execDoorTimerExpiry (s : State) : Host.Outcome State Fault Refusal :=
  .next (if s.ch.st = .entry ∧ s.ch.door.due = true then
      ((s.setCh { s.ch with door := Timer.stopped }).enterReady).concludeIf true s
    else s)

/-! ### The sweep -/

/-- SWEEP_WAIT_EXPIRY (R87). -/
def execSweepWaitExpiry (s : State) : Host.Outcome State Fault Refusal :=
  .next (if s.ch.st = .sweep ∧ s.ch.sweepWait.due = true then
      ((((s.setCh { s.ch with
          sweepWait := Timer.stopped
          sweepRetry := Timer.start (1000 * s.cfg.sweepRetry) }).releaseClaim).addCode 26).enterReady).conclude s
    else s)

/-- SWEEP_TIMER_EXPIRY (R86): the class changes and INERTING is entered. -/
def execSweepTimerExpiry (s : State) : Host.Outcome State Fault Refusal :=
  .next (if s.ch.st = .sweep ∧ s.ch.sweep.due = true then
      (((s.setCh { s.ch with sweep := Timer.stopped, cls := s.ch.cls.other }).releaseClaim).enterInerting).conclude s
    else s)

/-- SWEEP_RETRY_EXPIRY (R87). -/
def execSweepRetryExpiry (s : State) : Host.Outcome State Fault Refusal :=
  .next (if s.ch.sweepRetry.due then (s.setCh { s.ch with sweepRetry := Timer.stopped }).conclude s else s)

end Sys2Proof.Machine
end

