-- ==== Sys2Proof/Machine/LineFamily.lean ====
section
/-! DEFINITION. The commands of the plant line: idle and busy, the attempts of the transmitter, a discarded
telegram and a kind that is not in the table (09). -/

namespace Sys2Proof.Machine

/-- LINE_IDLE (R156): the line has been recessive for 16 bit times. A line the part itself drives is not. -/
def execLineIdle (s : State) : Host.Outcome State Fault Refusal :=
  .next (if s.phase = .hold ∨ s.li.transmitter.isSome = true then s
    else s.setLi { s.li with idle := true, receiver := .hunting })

/-- LINE_BUSY (R156): the start bit of another party's character on the idle line. -/
def execLineBusy (s : State) : Host.Outcome State Fault Refusal :=
  .next (if s.phase = .hold ∨ s.li.idle = false then s
    else s.setLi { s.li with idle := false, receiver := .receiving })

/-- LI may attempt a telegram (R160): the line idle, the transmitter empty, not in STARTING, no code 67. -/
def State.mayTransmit (s : State) : Bool :=
  s.li.idle && s.li.transmitter.isNone && s.phase != .hold && s.phase != .starting
  && !s.pu.codes.contains 67

/-- TRANSMIT_START (R160): the head telegram's moment, 8k + b bit times after idle, has come. -/
def execTransmitStart (bits : Nat) (s : State) : Host.Outcome State Fault Refusal :=
  .next (match s.li.queue with
    | [] => s
    | t :: q =>
      if s.mayTransmit && decide (8 * t.cls + t.backoff ≤ bits) then
        s.setLi { s.li with idle := false, receiver := .receiving, queue := q, transmitter := some t }
      else s)

/-- A telegram after one more collision (R161), at a station with this address. -/
def Telegram.collided (a : Nat) (t : Telegram) : Telegram :=
  let n := min 255 (t.collisions + 1)
  { t with collisions := n, backoff := 2 * (1 + (a + n) % 8) }

/-- The queue after a collision (R163, R164): the telegram returns to its place, but for a STATUS while another
STATUS waits. -/
def returnTelegram (t : Telegram) (q : List Telegram) : List Telegram :=
  if t.kind = .status ∧ (q.any fun u => u.kind == .status) = true then q else insertTelegram t q

/-- COLLISION (R161). -/
def execCollision (s : State) : Host.Outcome State Fault Refusal :=
  .next (match s.li.transmitter with
    | none => s
    | some t =>
      let t' := t.collided s.boot.address
      let u := s.setLi { s.li with transmitter := none, queue := returnTelegram t' s.li.queue }
      (if t'.collisions = 16 then u.addCode 33 else u).conclude s)

/-- AS hears that the OFFER has been transmitted whole (R135). -/
def State.offerTransmitted (s : State) : State :=
  if s.ac.offer.st = .queued then
    if s.ac.queue.any fun e => e.st == .done && some e.account.key == s.ac.offer.key then
      s.setOffer { s.ac.offer with st := .awaiting, answer := Timer.start 250 }
    else (s.setOffer { s.ac.offer with st := .idle, key := none }).tryOffer
  else s

/-- What the owning block makes of the station's own telegram heard back (R101, R135, R159). A CLAIM is that of
the own claim when no later CLAIM of the station's own waits (R107, log 27). -/
def State.ownHeard (s : State) (t : Telegram) : State :=
  if !s.working then s
  else match t.kind with
  | .claim =>
    match claimPayload t.payload with
    | some (role, c) =>
      (s.setMs { s.ms with claimHeard := !(s.li.queue.any fun u => u.kind == .claim) }).putClaim
        s.boot.address role c
    | none => s
  | .release => s.dropClaim s.boot.address
  | .purgeCall =>
    if s.ms.call.st = .waiting then (s.setMs { s.ms with call := { s.ms.call with heard := true } }).checkCall
    else s
  | .offer => s.offerTransmitted
  | .status | .purgeClear | .purgeEnd | .certificate | .announce | .closeAccount | .abandonAccount
  | .accept | .refuse | .read | .readNext | .readData | .collect | .checkRange | .checkResult
  | .faultClear | .key | .configWrite | .configCommit | .configAnswer => s

/-- TRANSMIT_COMPLETE (R162): the transmitter empties, code 33 leaves the set, and the telegram is handed on
as the station's own. -/
def execTransmitComplete (s : State) : Host.Outcome State Fault Refusal :=
  .next (match s.li.transmitter with
    | none => s
    | some t =>
      ((((s.setLi { s.li with transmitter := none, receiver := .ignoring }).removeCode 33).ownHeard t)).conclude s)

/-- TELEGRAM_DISCARD (R157): the characters received are no valid telegram and reach no block. -/
def execTelegramDiscard (r : Reception) (s : State) : Host.Outcome State Fault Refusal :=
  .next (if s.phase ≠ .hold ∧ s.li.hearing = true ∧ receptionDiscarded r = true then s.endReception else s)

/-- KIND_CODE_NOT_IN_TABLE (R158): PT alone takes note of the sender. A code of the table is no such telegram. -/
def execKindCodeNotInTable (code : Byte) (f : Frame) (s : State) : Host.Outcome State Fault Refusal :=
  .next (if Kind.all.any fun k => k.code == code.toNat then s
    else s.hear f fun t => t.downstreamChange s)

/-- CERTIFICATE (R122, R167): a sign of its sender's liveness. -/
def execCertificate (f : Frame) (s : State) : Host.Outcome State Fault Refusal :=
  .next (s.hearKind .certificate f id)

/-- READ_DATA (R122, R167): a sign of its sender's liveness. -/
def execReadData (f : Frame) (s : State) : Host.Outcome State Fault Refusal :=
  .next (s.hearKind .readData f id)

/-- CHECK_RESULT (R122, R167): a sign of its sender's liveness. -/
def execCheckResult (f : Frame) (s : State) : Host.Outcome State Fault Refusal :=
  .next (s.hearKind .checkResult f id)

/-- CONFIG_ANSWER (R122, R167): a sign of its sender's liveness. -/
def execConfigAnswer (f : Frame) (s : State) : Host.Outcome State Fault Refusal :=
  .next (s.hearKind .configAnswer f id)

end Sys2Proof.Machine
end

