-- ==== Sys2Proof/Machine/ManifoldFamily.lean ====
section
/-! DEFINITION. The commands of the Manifold Share Unit: claims and releases of peers, the header back-off and
the purge handshake (05). -/

namespace Sys2Proof.Machine

/-- CLAIM (R103). -/
def execClaim (f : Frame) (s : State) : Host.Outcome State Fault Refusal :=
  .next (s.hearKind .claim f fun t =>
    match claimPayload f.payload with
    | some (role, c) => (t.putClaim f.src.toNat role c).conclude s
    | none => t)

/-- RELEASE (R104). -/
def execRelease (f : Frame) (s : State) : Host.Outcome State Fault Refusal :=
  .next (s.hearKind .release f fun t => (t.dropClaim f.src.toNat).conclude s)

/-- A comparator of the measurement unit replaced: header high. -/
def State.setHeaderHigh (s : State) (c : Comparator) : State :=
  s.setMu { s.mu with cmp := { s.mu.cmp with headerHigh := c } }

/-- A comparator of the measurement unit replaced: header recovered. -/
def State.setHeaderRecovered (s : State) (c : Comparator) : State :=
  s.setMu { s.mu with cmp := { s.mu.cmp with headerRecovered := c } }

/-- The header back-off comes into force or ends (R114). -/
def State.setBackoff (s : State) (b : Bool) : State := s.setMs { s.ms with backoff := b }

/-- HEADER_HIGH (R114): header-high becomes met and the back-off comes into force. -/
def execHeaderHigh (s : State) : Host.Outcome State Fault Refusal :=
  .next (if s.working && s.mu.cmp.headerHigh.due 20 then
      ((s.setHeaderHigh s.mu.cmp.headerHigh.fire).setBackoff true).conclude s
    else s)

/-- HEADER_RECOVERED (R114): header-recovered becomes met, and the back-off ends unless header-high is met. -/
def execHeaderRecovered (s : State) : Host.Outcome State Fault Refusal :=
  .next (if s.working && s.mu.cmp.headerRecovered.due 20 then
      let t := s.setHeaderRecovered s.mu.cmp.headerRecovered.fire
      (if s.mu.cmp.headerHigh.met then t else t.setBackoff false).conclude s
    else s)

/-- What MS does with its own call when another station calls (R120). -/
def State.yieldCall (s : State) : State :=
  match s.ms.call.st with
  | .waiting => s.callToVent
  | .manifold => (s.setMs { s.ms with call := { s.ms.call with st := .vent } }).pathToVent
  | .idle | .vent => s

/-- PURGE_CALL (R119, R120): the own call yields, the caller's mark is set, a PURGE CLEAR goes to the caller. -/
def execPurgeCall (f : Frame) (s : State) : Host.Outcome State Fault Refusal :=
  .next (s.hearKind .purgeCall f fun t =>
    ((t.yieldCall.setMark f.src.toNat).send .purgeClear f.src.toNat []).conclude s)

/-- PURGE_CLEAR (R117): the sender leaves the awaited set. -/
def execPurgeClear (f : Frame) (s : State) : Host.Outcome State Fault Refusal :=
  .next (s.hearKind .purgeClear f fun t => (t.dropAwaited f.src.toNat).conclude s)

/-- PURGE_END (R119): the caller's mark is cleared. -/
def execPurgeEnd (f : Frame) (s : State) : Host.Outcome State Fault Refusal :=
  .next (s.hearKind .purgeEnd f fun t => (t.clearMark f.src.toNat).conclude s)

/-- PURGE_WAIT_EXPIRY (R117): a CLEAR is missing, the outcome is VENT with code 25. -/
def execPurgeWaitExpiry (s : State) : Host.Outcome State Fault Refusal :=
  .next (if s.ms.call.st = .waiting ∧ s.ms.call.wait.due = true then s.callToVent.conclude s else s)

end Sys2Proof.Machine
end

