-- ==== Sys2Proof/Machine/ProtectionFamily.lean ====
section
/-! DEFINITION. The commands of the Protection Unit: filters met, recoveries and clears (08). -/

namespace Sys2Proof.Machine

/-- The roles a trip source is kept in (R147). -/
def Settings.hasSource (c : Settings) : TripSource → Bool
  | .clampTimeout | .circuitHigh => c.role == .extraction
  | .oxygenHigh | .chamberStop => c.role == .foam
  | .valveA | .valveB | .flowZero | .flowOver | .channelOver | .headerSevere | .ambientStop => true

/-- The filter of a sample source is met (R148): it is NORMAL and its run count has reached its width. -/
def State.filterMet (s : State) (t : TripSource) : Bool :=
  s.working && s.cfg.hasSource t && !t.isEvent && (s.source t).st == .normal
  && decide (holdRun (s.cfg.source t).width ≤ (s.source t).run)

/-- TRIP_FILTER_MET (R148, R149). -/
def execTripFilterMet (t : TripSource) (s : State) : Host.Outcome State Fault Refusal :=
  .next (if s.filterMet t then (s.trip t (s.source t).present).conclude s else s)

/-- RECOVERY_TIMER_EXPIRY (R149, R150). -/
def execRecoveryTimerExpiry (t : TripSource) (s : State) : Host.Outcome State Fault Refusal :=
  .next (if (s.source t).st = .recovering ∧ (s.source t).recovery.due = true then (s.recover t).conclude s
    else s)

/-- FAULT_CLEAR (R154). -/
def execFaultClear (f : Frame) (s : State) : Host.Outcome State Fault Refusal :=
  .next (s.hearKind .faultClear f fun t => t.clearLowest.conclude s)

/-- FAULT_CLEAR_BUTTON (R35, R154): the rising edge of FCL. -/
def execFaultClearButton (s : State) : Host.Outcome State Fault Refusal :=
  .next (if s.phase ≠ .hold ∧ (s.filter .fcl).edgeDue true = true then
      (s.setFilter .fcl (s.filter .fcl).toggle).clearLowest.conclude s
    else s)

end Sys2Proof.Machine
end

