-- ==== Sys2Proof/Machine/Sampling.lean ====
section
/-! DEFINITION. What one station sample does at each of its users: delivery by range, comparators, input
filters, the zero window, increments, the discrepancy counters and the trip sources (02, 08). -/

namespace Sys2Proof.Machine

/-! ### Delivery (R25, R26) -/

/-- The over-range code. -/
def overCode : Nat := 65535

/-- The upper end of a channel's valid range by role (00_scope "Sensor channels"). -/
def channelMax (foam : Bool) : Nat → Nat
  | 0 | 2 => 20000
  | 1 => 65534
  | 3 => if foam then 250 else 1000
  | 4 | 5 => if foam then 1000 else 65535
  | _ => 65535

/-- A value above its range, or any value without valid scaling, is delivered as the over-range code (R25). -/
def deliver (factoryOk foam : Bool) (ch : Nat) (v : Half) : Nat :=
  if factoryOk && decide (v.toNat ≤ channelMax foam ch) then v.toNat else overCode

/-- The eight values as delivered (R25). -/
def channelsOf (factoryOk foam : Bool) (x : Sample) : Channels :=
  { c0 := deliver factoryOk foam 0 x.ch0, c1 := deliver factoryOk foam 1 x.ch1
    c2 := deliver factoryOk foam 2 x.ch2, c3 := deliver factoryOk foam 3 x.ch3
    c4 := deliver factoryOk foam 4 x.ch4, c5 := deliver factoryOk foam 5 x.ch5
    c6 := deliver factoryOk foam 6 x.ch6, c7 := deliver factoryOk foam 7 x.ch7 }

/-- The ambient hydrocarbon HA: CH3 at EXTRACTION, CH5 at FOAM (R30). -/
def ambient (foam : Bool) (c : Channels) : Nat := if foam then c.c5 else c.c3

/-! ### Comparators (R28, R30) -/

/-- Every comparator's sample. One that is not armed does not count. -/
def sampleComparators (cfg : Settings) (foam : Bool) (c : Channels) (m : Comparators) : Comparators :=
  { pulldown := m.pulldown.sample 20 (decide (c.c0 ≤ cfg.pulldownTarget))
    ambientWatch := m.ambientWatch.sampleLevel (decide (cfg.ambientWatch ≤ ambient foam c))
    ambientStop := m.ambientStop.sampleLevel (decide (cfg.ambientStop ≤ ambient foam c))
    headerHigh := m.headerHigh.sample 20 (decide (cfg.backoffLimit ≤ c.c2))
    headerRecovered := m.headerRecovered.sample 20 (decide (c.c2 ≤ cfg.backoffLimit - cfg.hysteresis))
    inert := m.inert.sample (100 * cfg.inertHold) (decide (c.c3 ≤ cfg.runLimit))
    oxygenUnder := m.oxygenUnder.sample 0 (decide (c.c3 < cfg.runLimit))
    oxygenHigh := m.oxygenHigh.sample 0 (decide (cfg.oxygenTrip ≤ c.c3))
    chamberWatch := m.chamberWatch.sampleLevel (decide (cfg.chamberWatch ≤ c.c4))
    chamberStop := m.chamberStop.sampleLevel (decide (cfg.chamberStop ≤ c.c4))
    purgeNeeded := m.purgeNeeded.sample 20 (decide (cfg.purgeLimit ≤ c.c4))
    purgeClear := m.purgeClear.sample 1000 (decide (c.c4 < cfg.chamberWatch))
    quiet := m.quiet.sample (100 * cfg.quietTime) (decide (c.c1 < cfg.quietFlow)) }

/-! ### Input filters (R33, R34) -/

/-- A falling edge that no command takes: the filtered level changes at the sample (R33, R35, log 3). -/
def Filter.dropEdge (f : Filter) : Filter := if f.edgeDue false then f.toggle else f
/-- Either edge, where no command takes it (R33, R35, log 3). -/
def Filter.anyEdge (f : Filter) : Filter := if f.edgeDue (!f.level) then f.toggle else f

/-- Every filter's sample. `shredder`: IN3 is the shredder input of a station at work, whose falls SRF_CHANGE
takes. -/
def sampleFilters (shredder : Bool) (levels : Byte) (f : Filters) : Filters :=
  let in3 := f.in3.sample (levels.getLsbD 3)
  { ilk := f.ilk.sample (levels.getLsbD 0)
    str := (f.str.sample (levels.getLsbD 1)).dropEdge
    in2 := f.in2.sample (levels.getLsbD 2)
    in3 := if shredder then in3 else in3.dropEdge
    vaf := (f.vaf.sample (levels.getLsbD 4)).anyEdge
    vbf := (f.vbf.sample (levels.getLsbD 5)).anyEdge
    fcl := (f.fcl.sample (levels.getLsbD 6)).dropEdge
    svc := (f.svc.sample (levels.getLsbD 7)).anyEdge }

/-! ### The zero window and increments (R37, R38, R41 to R43) -/

/-- The window's sample: a route valve on begins it again, otherwise CH1 is added up to 32 samples (R37, R38). -/
def Window.sample (w : Window) (valveOn : Bool) (c : Channels) : Window :=
  if w.isOpen && decide (w.count < 32) then
    if valveOn then Window.opened
    else
      { isOpen := true, count := w.count + 1, sum := w.sum + c.c1
        overRange := w.overRange || c.c1 == overCode
        first := if w.count = 0 then c.c0 else w.first }
  else w

/-- The increment of a sample (R41). -/
def increment (q z : Nat) : Nat := if q = overCode then overCode - z else q - z

/-- The increment credited to an entry of the extraction queue (R42). -/
def creditQueue (onB : Bool) (q z : Nat) (e : QueueEntry) : QueueEntry :=
  let d := increment q z
  let flags := { e.account.flags with flowOverrange := e.account.flags.flowOverrange || q == overCode }
  { e with
    accA := if onB then e.accA else satAdd accLimit e.accA d
    accB := if onB then satAdd accLimit e.accB d else e.accB
    account := { e.account with flags := flags } }

/-- The increment credited to an entry of the chamber list (R42, R95). -/
def creditChamber (q z : Nat) (e : ChamberEntry) : ChamberEntry :=
  { e with
    accF := satAdd accLimit e.accF (increment q z)
    account := { e.account with foam := e.account.foam.map fun p =>
      { p with flags := { p.flags with flowOverrange := p.flags.flowOverrange || q == overCode } } } }

/-- The account store after a sample with these route valves at the terminal (R41, R42). -/
def creditAccounts (foam onA onB : Bool) (q z : Nat) (a : Accounts) : Accounts :=
  if onA || onB then
    if foam then
      { a with chamber := a.chamber.map fun e => if e.st = .receiving then creditChamber q z e else e }
    else
      { a with queue := a.queue.map fun e => if e.st = .active then creditQueue (!onA) q z e else e }
  else a

/-! ### Discrepancy (R36) -/

/-- The discrepancy counter's sample; beyond 100 it only needs to stay beyond. -/
def discrepancy (output feedback : Bool) (n : Nat) : Nat := if output = feedback then 0 else min 101 (n + 1)

/-! ### Trip sources (R31, R147 to R149) -/

/-- The condition of a source at a sample (R31). -/
def conditionAt (cfg : Settings) (foam : Bool) (c : Channels) (dA dB : Bool) (t : TripSource) : Bool :=
  cfg.hasSource t && (match t with
    | .clampTimeout | .flowZero => false
    | .valveA => dA
    | .valveB => dB
    | .flowOver => c.c1 == overCode
    | .channelOver => c.c0 == overCode || c.c2 == overCode || (foam && c.c3 == overCode)
    | .circuitHigh => decide (cfg.circuitMaximum ≤ c.c0)
    | .headerSevere => decide (cfg.severeLimit ≤ c.c2)
    | .ambientStop => decide (cfg.ambientStop ≤ ambient foam c)
    | .oxygenHigh => decide (cfg.oxygenTrip ≤ c.c3)
    | .chamberStop => decide (cfg.chamberStop ≤ c.c4))

/-- The sources after a sample. -/
def sampleSources (cfg : Settings) (cond : TripSource → Bool) (x : Sources) : Sources :=
  TripSource.all.foldl
    (fun y t => y.set t ((y.get t).sample (cfg.source t) (1000 * cfg.recoveryTime) (cond t))) x

/-- With a recovery time of 0 a source that has just started its recovery has recovered (R150). -/
def State.recoverAtOnce (s : State) : State :=
  if s.cfg.recoveryTime = 0 then
    TripSource.all.foldl (fun t u => if (t.source u).st = .recovering then t.recover u else t) s
  else s

/-! ### The sequences -/

/-- The rise sample count (R63) and the final pressure (R71). -/
def Sequence.sample (q : Sequence) (c : Channels) : Sequence :=
  match q.step with
  | .e6 =>
    if q.timer.st = .running ∧ q.riseCount < 100 then
      { q with riseCount := q.riseCount + 1
               candidate := if q.riseCount = 99 then some c.c0 else q.candidate }
    else q
  | .e7 => match q.finalPressure with
    | none => { q with finalPressure := some c.c0 }
    | some _ => q
  | .e0 | .e1 | .e2 | .e3 | .e4 | .e5 => q

end Sys2Proof.Machine
end

