-- ==== Sys2Proof/Machine/MeasurementFamily.lean ====
section
/-! DEFINITION. The commands of the Measurement Unit: the station sample, the valve discrepancy and the end of
a zero window (02). -/

namespace Sys2Proof.Machine

/-- The sample's work at MU (R24): comparators, filters, zero window, discrepancy counters. In SERVICE and
CONFIG FAULT the channel values are discarded (R26). -/
def State.sampleMu (s : State) (x : Sample) : Measure :=
  let c := channelsOf s.boot.factoryOk s.isFoam x
  let f := sampleFilters (s.isFoam && s.working) x.levels s.mu.filters
  let dA := discrepancy s.valveA f.vaf.level s.mu.discA
  let dB := discrepancy s.valveB f.vbf.level s.mu.discB
  let m := { s.mu with
    filters := f, discA := dA, discB := dB
    presentA := s.mu.presentA && decide (100 < dA), presentB := s.mu.presentB && decide (100 < dB) }
  if s.working then
    { m with
      ch := c
      cmp := sampleComparators s.cfg s.isFoam c s.mu.cmp
      window := s.mu.window.sample (s.valveA || s.valveB) c }
  else if s.phase = .starting then { m with ch := c }
  else m

/-- The sample's work at PU (R31, R147): none before the configuration has passed its check. -/
def State.samplePu (s : State) (m : Measure) : Protection :=
  if s.working then
    { s.pu with sources :=
        sampleSources s.cfg (conditionAt s.cfg s.isFoam m.ch m.presentA m.presentB) s.pu.sources }
  else s.pu

/-- Every user's work on one station sample, with the route valves as they stand at the sample (R24, R41). -/
def State.takeSample (s : State) (x : Sample) : State :=
  let m := s.sampleMu x
  let t := (s.setMu m).setPu (s.samplePu m)
  if s.working then
    (t.setSq (s.sq.sample m.ch)).setAc (creditAccounts s.isFoam s.valveA s.valveB m.ch.c1 s.mu.zero s.ac)
  else t

/-- A sample has changed by itself what SQ or STATUS reads: oxygen high has ceased (R80, R81), or a code has
left the set, which may have set DE. -/
def State.sampleTells (s t : State) : Bool :=
  (s.mu.cmp.oxygenHigh.met && !t.mu.cmp.oxygenHigh.met) || s.pu.codes != t.pu.codes || s.pu.de != t.pu.de

/-- The entry of JOINING (R114, R127, R175). -/
def State.enterJoining (s : State) : State :=
  ((s.setBoot { s.boot with
    phase := .joining, joining := Timer.start s.cfg.staleTime }).setMs { s.ms with
      backoff := s.mu.cmp.headerHigh.met }).sendStatus

/-- The own hazard of the first counted sample (R129): oxygen high, of hold 0, is met within it, and the hazard is
formed. No claim list stands yet (R101). -/
def State.firstHazard (s : State) : State :=
  let c := s.mu.cmp.oxygenHigh
  let t := s.setCmp { s.mu.cmp with oxygenHigh := if s.isFoam && c.due 0 then c.fire else c }
  t.setPt { t.pt with ownHazard := t.hazardLevel }

/-- The first station sample after the configuration check: JOINING is entered with it (R175 step 6), the
comparators and the trip sources count it (R29, R147), and the very first STATUS carries the own hazard it gives
(R127, R129, log 33). -/
def State.firstSample (s : State) (x : Sample) : State :=
  (((s.setBoot { s.boot with phase := .joining }).takeSample x).recoverAtOnce.firstHazard).enterJoining

/-- STATION_SAMPLE (R24). -/
def execStationSample (x : Sample) (s : State) : Host.Outcome State Fault Refusal :=
  .next (if s.phase = .hold then s
    else if s.phase = .starting ∧ s.boot.checked = true then s.firstSample x
    else
      let t := (s.takeSample x).recoverAtOnce
      if s.sampleTells t then t.conclude s else t)

/-- The discrepancy of a route valve is present from now on (R36). -/
def State.markDiscrepancy (s : State) : Route → State
  | .A => s.setMu { s.mu with presentA := true }
  | .B => s.setMu { s.mu with presentB := true }

/-- The trip source of a route valve (R147). -/
def valveSource : Route → TripSource
  | .A => .valveA
  | .B => .valveB

/-- The discrepancy counter of a route valve has passed 100 and is not yet reported (R36). -/
def State.discrepancyDue (s : State) : Route → Bool
  | .A => decide (100 < s.mu.discA) && !s.mu.presentA
  | .B => decide (100 < s.mu.discB) && !s.mu.presentB

/-- VALVE_DISCREPANCY (R31, R36): PU counts the condition of the sample that has passed 100. -/
def execValveDiscrepancy (r : Route) (s : State) : Host.Outcome State Fault Refusal :=
  .next (if s.phase ≠ .hold ∧ s.discrepancyDue r = true then
      let t := s.markDiscrepancy r
      if t.working then
        let u := t.setSource (valveSource r)
          ((t.source (valveSource r)).sample (t.cfg.source (valveSource r)) (1000 * t.cfg.recoveryTime) true)
        (if u.filterMet (valveSource r) then u.trip (valveSource r) true else u).conclude s
      else t
    else s)

/-- The zero of a completed window, or none when it is rejected (R39). -/
def zeroOf (w : Window) : Option Nat :=
  if w.overRange then none else if w.sum / 32 ≤ 2000 then some (w.sum / 32) else none

/-- What the completed window writes into the ACTIVE account (R39, R55). -/
def Account.zeroed (z : Option Nat) (pierce threshold : Nat) (a : Account) : Account :=
  { a with
    zeroOffset := some (z.getD 0)
    pierce := some pierce
    flags := { a.flags with
      zeroRejected := a.flags.zeroRejected || z.isNone
      emptyAtPierce := a.flags.emptyAtPierce || decide (pierce < threshold) } }

/-- The zero in use, the closed window and code 14 of a rejected zero (R39, R40). -/
def State.takeZero (s : State) : State :=
  let z := zeroOf s.mu.window
  let t := s.setMu { s.mu with zero := z.getD 0, zeroRejected := z.isNone, window := {} }
  if z.isNone then t.reportEvent .flowZero else t

/-- The end of E2 (R55): p0 and the flags in the ACTIVE account, then E3. -/
def State.endZero (s : State) : State :=
  let w := s.mu.window
  (s.takeZero.onActive fun e =>
    { e with account := e.account.zeroed (zeroOf w) w.first s.cfg.emptyThreshold }).enterTimed .e3

/-- ZERO_WINDOW_COMPLETE (R39, R55, R78). -/
def execZeroWindowComplete (s : State) : Host.Outcome State Fault Refusal :=
  .next (if s.working && (s.mu.window.isOpen && decide (32 ≤ s.mu.window.count)) then
      (if s.isFoam then
        let t := s.takeZero
        t.setCh { t.ch with zeroDone := true }
      else s.endZero).conclude s
    else s)

end Sys2Proof.Machine
end

