-- ==== Sys2Proof/Machine/StoreFamily.lean ====
section
/-! DEFINITION. The commands of the Record Store in work: commits, the supply monitor, the gateway's reads and
the collection (10). -/

namespace Sys2Proof.Machine

/-! ### The commit (R168, R169) -/

/-- The CLOSING or CLOSED account with this key (R22). -/
def State.accountFor (s : State) (k : Key) : Option Account :=
  match s.ac.queue.find? fun e => e.account.key == k && e.st == .closing with
  | some e => some e.account
  | none => (s.ac.chamber.find? fun e => e.account.key == k && e.st == .closed).map (·.account)

/-- RS may begin a commit: the conditions of R169 other than a waiting account. -/
def State.commitAllowed (s : State) : Bool :=
  s.working && s.rs.commit.isNone && !s.rs.supplyLow && !s.rs.fault
  && slotState s.nv.slots s.rs.writePosition != .held

/-- The sequence of the next record, a free value above 4,294,967,295 (R3, log 11). -/
def State.nextSequence (s : State) : Nat :=
  if s.rs.lastSequence < 4294967295 then s.rs.lastSequence + 1
  else (Config.sequenceAfterLast s.free).toNat

/-- The state once that sequence is taken. -/
def State.sequenceTaken (s : State) : State := if s.rs.lastSequence < 4294967295 then s else s.nextFree

/-- The commit of an account: 64 bytes with its sequence, for the slot at the write position (R169). -/
def State.newCommit (s : State) (k : Key) (a : Account) : Commit :=
  { key := k, slot := s.rs.writePosition, sequence := s.nextSequence
    bytes := recordBytes { a with sequence := some s.nextSequence } }

/-- COMMIT_BEGIN (R169): the head account of the commit queue is being written. -/
def execCommitBegin (s : State) : Host.Outcome State Fault Refusal :=
  .next (match s.rs.commitQueue with
    | [] => s
    | k :: _ =>
      match s.accountFor k with
      | none => s
      | some a =>
        if s.commitAllowed then (s.setRs { s.rs with commit := some (s.newCommit k a) }).sequenceTaken
        else s)

/-- A slot's bytes written. -/
def State.writeSlot (s : State) (n : Nat) (bs : List Byte) : State :=
  s.setNv { s.nv with slots := writeCells s.nv.slots (64 * n) (bs.take 64) }

/-- An account leaves its list (R7, R11, R22). -/
def State.leaveLists (s : State) (k : Key) : State :=
  s.setAc { s.ac with
    queue := s.ac.queue.filter fun e => !(e.account.key == k && e.st == .closing)
    chamber := s.ac.chamber.filter fun e => !(e.account.key == k && e.st == .closed) }

/-- Verify success (R169). -/
def State.commitDone (s : State) (c : Commit) : State :=
  ((((s.writeSlot c.slot c.bytes).setRs { s.rs with
      lastSequence := c.sequence
      writePosition := (s.rs.writePosition + 1) % slotCount
      commitQueue := s.rs.commitQueue.tail
      commit := none }).leaveLists c.key).send .certificate 31 (c.bytes.take 48)).evalFull

/-- Verify failure (R169): store fault and code 65. The slot holds what was read back. -/
def State.commitFailed (s : State) (c : Commit) (readBack : List Byte) : State :=
  ((s.writeSlot c.slot readBack).setRs { s.rs with commit := none, fault := true, full := true }).addCode 65

/-- COMMIT_VERIFY (R169). -/
def execCommitVerify (readBack : List Byte) (s : State) : Host.Outcome State Fault Refusal :=
  .next (match s.rs.commit with
    | none => s
    | some c => (if readBack = c.bytes then s.commitDone c else s.commitFailed c readBack).conclude s)

/-! ### The supply monitor (R170) -/

/-- A commit in progress is aborted with code 31, and its slot keeps its content (R170). -/
def State.abortCommit (s : State) : State :=
  match s.rs.commit with
  | some _ => (s.setRs { s.rs with commit := none }).addCode 31
  | none => s

/-- The collect target reaches a HELD slot: the lowest sequence at or below it, with its slot (R172). -/
def State.markTarget (s : State) : Option (Nat × Nat) :=
  match s.rs.target with
  | none => none
  | some t =>
    ((records s.nv.slots).filter fun r => slotState s.nv.slots r.1 == .held && decide (r.2 ≤ t)).foldl
      (fun best r => match best with
        | none => some r
        | some b => if r.2 < b.2 then some r else some b) none

/-- COLLECT_MARK (R172): the collected mark of that slot is written; not during a commit or a supply warning. -/
def execCollectMark (s : State) : Host.Outcome State Fault Refusal :=
  .next (match s.markTarget with
    | none => s
    | some (n, _) =>
      if s.working && s.rs.commit.isNone && !s.rs.supplyLow then
        (s.setNv { s.nv with slots := writeCell s.nv.slots (64 * n + 48) 0 }).evalFull.conclude s
      else s)

/-! ### The gateway's requests (R171 to R173) -/

/-- The slot that holds a sequence, the slot of a commit in progress apart (R171, log 16). -/
def State.slotOf (s : State) (seq : Nat) : Option Nat :=
  ((records s.nv.slots).find? fun r =>
    r.2 == seq && !(s.rs.commit.any fun c => c.slot == r.1)).map (·.1)

/-- The record as stored, with bit 15 of its flags word from the collected mark: 1 when COLLECTED, else 0
(R180). -/
def recordBody (bs : List Byte) : List Byte :=
  let high := bs.getD 40 0 &&& 0x7F
  (bs.take 48).set 40 (if slotStateOf bs = .collected then high ||| 0x80 else high)

/-- READ DATA to a requester: FOUND or ABSENT (R171, R179). -/
def State.answerRead (s : State) (a seq : Nat) : State :=
  match s.slotOf seq with
  | some n => s.send .readData a (recordBody (slotBytes s.nv.slots n))
  | none => s.send .readData a (be32 seq)

/-- The read pointer replaced. -/
def State.setPointer (s : State) (p : Option Nat) : State := s.setRs { s.rs with readPointer := p }

/-- READ (R171). -/
def execRead (f : Frame) (s : State) : Host.Outcome State Fault Refusal :=
  .next (s.hearKind .read f fun t =>
    (t.setPointer (some (full f.payload 0))).answerRead f.src.toNat (full f.payload 0))

/-- READ NEXT with a pointer: the sequence one above it (R171), a free value above 4,294,967,295 (log 11). -/
def State.readAbove (s : State) (a p : Nat) : State :=
  let q := if p < 4294967295 then p + 1 else (Config.sequenceAfterLast s.free).toNat
  let t := if p < 4294967295 then s else s.nextFree
  match t.slotOf q with
  | some _ => (t.setPointer (some q)).answerRead a q
  | none => t.answerRead a q

/-- READ_NEXT (R171). -/
def execReadNext (f : Frame) (s : State) : Host.Outcome State Fault Refusal :=
  .next (s.hearKind .readNext f fun t =>
    match t.rs.readPointer with
    | none => t.send .readData f.src.toNat (be32 0)
    | some p => t.readAbove f.src.toNat p)

/-- The collect target after a COLLECT of a sequence (R172). -/
def Store.raisedTarget (r : Store) (seq : Nat) : Nat :=
  match r.target with
  | none => min seq r.lastSequence
  | some t => max t (min seq r.lastSequence)

/-- COLLECT (R172). The marks are written by COLLECT_MARK. -/
def execCollect (f : Frame) (s : State) : Host.Outcome State Fault Refusal :=
  .next (s.hearKind .collect f fun t =>
    t.setRs { t.rs with target := some (t.rs.raisedTarget (full f.payload 0)) })

/-- The bytes CHECK RANGE reads in a slot: those of a commit in progress once its write has completed
(R173, log 16). -/
def State.checkedBytes (s : State) (n : Nat) : List Byte :=
  match s.rs.commit with
  | some c => if c.slot = n then c.bytes else slotBytes s.nv.slots n
  | none => slotBytes s.nv.slots n

/-- The clamped count of a range (R173). -/
def rangeCount (first count : Nat) : Nat := min (max 1 (min 1024 count)) (1024 - first)

/-- The answer to CHECK RANGE (R173, R179). -/
def State.rangeAnswer (s : State) (first count : Nat) : List Byte :=
  if 1023 < first then [1] ++ be16 first ++ be16 0 ++ be16 0
  else
    let n := rangeCount first count
    [0] ++ be16 first ++ be16 n ++
      be16 (checkWord ((List.range n).flatMap fun i => s.checkedBytes (first + i)))

/-- CHECK_RANGE (R173). -/
def execCheckRange (f : Frame) (s : State) : Host.Outcome State Fault Refusal :=
  .next (s.hearKind .checkRange f fun t =>
    t.send .checkResult f.src.toNat (t.rangeAnswer (half f.payload 0) (half f.payload 2)))

end Sys2Proof.Machine
end

