-- ==== Sys2Proof/Machine/ServiceFamily.lean ====
section
/-! DEFINITION. SERVICE and CONFIG FAULT: the lock, the working copy, the configuration block and the STATUS of
these phases; the supply monitor, which ends a block write too (10). -/

namespace Sys2Proof.Machine

/-! ### Answers (R176, R177, R179) -/

/-- Code of a lock state. -/
def Lock.code : Lock → Nat
  | .locked => 0 | .half => 1 | .unlocked => 2 | .frozen => 3

/-- CONFIG ANSWER: kind answered, status, lock state, parameter, value. -/
def State.answerConfig (s : State) (a kind status : Nat) (param : Byte) (value : Nat) : State :=
  s.send .configAnswer a
    ([BitVec.ofNat 8 kind, BitVec.ofNat 8 status, BitVec.ofNat 8 s.rs.lock.code, param] ++ be16 value)

/-- The lock state replaced, with the idle timer running from full while it is HALF or UNLOCKED (R176). -/
def State.setLock (s : State) (l : Lock) : State :=
  s.setRs { s.rs with
    lock := l
    idle := if l = .half ∨ l = .unlocked then Timer.start 30000 else Timer.stopped }

/-- The lock state after a KEY (R176). -/
def Lock.afterKey (l : Lock) (key : Nat) : Lock :=
  match l with
  | .locked => if key = 0x3C then .half else .frozen
  | .half => if key = 0xA7 then .unlocked else .frozen
  | .unlocked | .frozen => .frozen

/-- The table of R176. -/
def State.takeKey (s : State) (a key : Nat) : State :=
  let l := s.rs.lock.afterKey key
  (s.setLock l).answerConfig a 0x7C (if l = .frozen then 1 else 0) 0 0

/-- KEY (R176). Outside SERVICE it is a sign of its sender's liveness alone. -/
def execKey (f : Frame) (s : State) : Host.Outcome State Fault Refusal :=
  .next (if s.phase = .service then
      s.hearService .key f fun t => t.takeKey f.src.toNat (byteAt f.payload 0)
    else s.hearKind .key f id)

/-! ### CONFIG WRITE (R177, R181) -/

/-- The value a parameter holds in the working copy, a free value where the number names none (log 10). -/
def State.heldValue (s : State) (n : Nat) : Nat :=
  if n < 55 then (s.rs.working.getD n 0).toNat else (Config.unheldValue s.free).toNat

/-- The state once that value is read. -/
def State.valueRead (s : State) (n : Nat) : State := if n < 55 then s else s.nextFree

/-- The value stored for a parameter, none when it is refused (R177). -/
def storedValue (n v : Nat) : Option Nat :=
  match paramRange n with
  | some (lo, hi) => some (max lo (min hi v))
  | none => if paramInSet n v then some v else none

/-- A value stored in the working copy. -/
def State.setParam (s : State) (n v : Nat) : State :=
  s.setRs { s.rs with working := s.rs.working.set n (BitVec.ofNat 16 v) }

/-- The cases of R177, in order. -/
def State.takeWrite (s : State) (a : Nat) (param : Byte) (v : Nat) : State :=
  let n := param.toNat
  let t := s.setLock s.rs.lock
  if s.rs.lock ≠ .unlocked then (t.answerConfig a 0x7D 1 param (t.heldValue n)).valueRead n
  else if 128 ≤ n then (t.answerConfig a 0x7D 2 param (t.heldValue n)).valueRead n
  else if 55 ≤ n then (t.answerConfig a 0x7D 3 param (t.heldValue n)).valueRead n
  else match storedValue n v with
    | some w => (t.setParam n w).answerConfig a 0x7D 0 param w
    | none => t.answerConfig a 0x7D 2 param (t.heldValue n)

/-- CONFIG_WRITE (R177). Outside SERVICE it is a sign of its sender's liveness alone. -/
def execConfigWrite (f : Frame) (s : State) : Host.Outcome State Fault Refusal :=
  .next (if s.phase = .service then
      s.hearService .configWrite f fun t => t.takeWrite f.src.toNat (f.payload.getD 0 0) (half f.payload 1)
    else s.hearKind .configWrite f id)

/-! ### CONFIG COMMIT (R177) -/

/-- The lock state at the end of a commit: LOCKED, but FROZEN stays (R176, log 19). -/
def Lock.closed : Lock → Lock
  | .frozen => .frozen
  | .locked | .half | .unlocked => .locked

/-- The sources of the commits that wait for the end of a block write. -/
def Store.commitSources (x : Store) : List Nat :=
  match x.blockWrite with
  | some w => w.srcs
  | none => []

/-- CONFIG COMMIT while LOCKED, HALF or FROZEN is answered LOCKED. With supply low it is answered FAILED and the
state then becomes LOCKED. Otherwise the block write begins, anew where one is in progress, and its end answers the
commits before it as well (R176, log 19). -/
def State.takeCommit (s : State) (a : Nat) : State :=
  if s.rs.lock ≠ .unlocked then (s.setLock s.rs.lock).answerConfig a 0x7E 1 0 0
  else if s.rs.supplyLow then (s.answerConfig a 0x7E 4 0 0).setLock .locked
  else
    let t := s.setLock .unlocked
    t.setRs { t.rs with blockWrite := some ⟨s.rs.commitSources ++ [a], blockOf s.rs.working⟩ }

/-- CONFIG_COMMIT (R177). Outside SERVICE it is a sign of its sender's liveness alone. -/
def execConfigCommit (f : Frame) (s : State) : Host.Outcome State Fault Refusal :=
  .next (if s.phase = .service then s.hearService .configCommit f fun t => t.takeCommit f.src.toNat
    else s.hearKind .configCommit f id)

/-- The CONFIG ANSWER of each commit that a block write served, in the order of the commits (R176, R177). -/
def State.answerCommits (s : State) (srcs : List Nat) (status : Nat) : State :=
  srcs.foldl (fun t a => t.answerConfig a 0x7E status 0 0) s

/-- The end of a block write that left these words in the block (R177): the answers, which show the lock state as
it stands, then LOCKED. -/
def State.endBlockWrite (s : State) (w : BlockWrite) (words : List Half) (ok : Bool) : State :=
  let t := s.setNv { s.nv with block := words }
  let u := t.setRs { t.rs with blockWrite := none }
  (u.answerCommits w.srcs (if ok then 0 else 4)).setLock s.rs.lock.closed

/-- CONFIG_COMMIT_VERIFY (R177): the block holds what is read back. -/
def execConfigCommitVerify (readBack : List Half) (s : State) : Host.Outcome State Fault Refusal :=
  .next (match s.rs.blockWrite with
    | none => s
    | some w => s.endBlockWrite w readBack (decide (readBack = w.words)))

/-- The words of a block whose write was cut off: free values (log 8). -/
def cutBlock (n : Nat) : List Half := (List.range 56).map (Config.cutBlockWord n)

/-- A block write in progress fails when the supply warning arrives (R177). -/
def State.cutBlockWrite (s : State) : State :=
  match s.rs.blockWrite with
  | some w => (s.endBlockWrite w (cutBlock s.free) false).nextFree
  | none => s

/-! ### The start hold (R175) -/

/-- A commit in progress at a start leaves its slot unchanged or fully written: a free value (R23, log 7). -/
def State.cutCommit (s : State) : State :=
  match s.rs.commit with
  | none => s
  | some c => (if Config.slotWrittenAtStart s.free then s.writeSlot c.slot c.bytes else s).nextFree

/-- A block write in progress at a start leaves free values (R177, log 8). -/
def State.cutBlockAtStart (s : State) : State :=
  match s.rs.blockWrite with
  | none => s
  | some _ => (s.setNv { s.nv with block := cutBlock s.free }).nextFree

/-- Every volatile state at its value after start; nonvolatile memory, the queue of commands and the count of
free values stay (R175, 00_scope "Start"), and so does what the monitor has found of the supply (R170). -/
def State.emptied (s : State) (phase : Phase) (cause : StartCause) : State :=
  { boot := { phase := phase, cause := cause }, rs := { supplyBelow := s.rs.supplyBelow }
    nv := s.nv, free := s.free, pending := s.pending }

/-- The part enters start and is held there, everything volatile lost (R175, log 23). -/
def State.enterHold (s : State) (cause : StartCause) : State := s.cutCommit.cutBlockAtStart.emptied .hold cause

/-! ### The supply monitor (R170) -/

/-- The reset threshold of the supply, in 0.1 V (R170). -/
def resetThreshold : Nat := 180

/-- In the start hold the supply monitor watches the reset threshold alone (R170). A supply found below it there writes
no start cause: the hold keeps the cause it was entered with, which is the model's choice (DESIGN CHOICE, log 22). -/
def State.findSupply (s : State) (decivolts : Nat) : State :=
  s.setRs { s.rs with supplyBelow := decide (decivolts < resetThreshold) }

/-- The supply falls below the warning threshold (R170, R177): supply low, and a commit or a block write in
progress ends. -/
def State.warnSupply (s : State) : State := ((s.setRs { s.rs with supplyLow := true }).abortCommit).cutBlockWrite

/-- The supply-low condition arises at this supply (R170). -/
def State.supplyFalls (s : State) (decivolts : Nat) : Bool :=
  !s.rs.supplyLow && decide (decivolts < s.cfg.supplyWarning)

/-- SUPPLY_WARNING (R170): the supply, in 0.1 V, is below the warning threshold. Below the reset threshold as well,
the part enters start with cause SUPPLY and is held there until the supply has risen again. -/
def execSupplyWarning (decivolts : Nat) (s : State) : Host.Outcome State Fault Refusal :=
  .next (if s.phase = .hold then s.findSupply decivolts
    else
      let t := if s.supplyFalls decivolts then s.warnSupply else s
      if decivolts < resetThreshold then (t.enterHold .supply).findSupply decivolts
      else if s.supplyFalls decivolts then t.conclude s
      else s)

/-- SUPPLY_WARNING_END (R170): the supply has risen to 0.5 V above the threshold. -/
def execSupplyWarningEnd (decivolts : Nat) (s : State) : Host.Outcome State Fault Refusal :=
  .next (if s.phase = .hold then s.findSupply decivolts
    else if s.rs.supplyLow = true ∧ s.cfg.supplyWarning + 5 ≤ decivolts then
      (s.setRs { s.rs with supplyLow := false }).conclude s
    else s)

/-! ### The timers of SERVICE and CONFIG FAULT (R175, R176) -/

/-- The STATUS of SERVICE and CONFIG FAULT, with its timer started again. -/
def State.sendServiceStatus (s : State) : State :=
  (s.setRs { s.rs with statusTimer := Timer.start 500 }).send .status 31 s.servicePayload

/-- SERVICE_STATUS_EXPIRY (R175, R176). -/
def execServiceStatusExpiry (s : State) : Host.Outcome State Fault Refusal :=
  .next (if (s.phase = .service ∨ s.phase = .configFault) ∧ s.rs.statusTimer.due = true then
      s.sendServiceStatus
    else s)

/-- SERVICE_IDLE_TIMER_EXPIRY (R176): LOCKED, and the working copy is loaded again. -/
def execServiceIdleTimerExpiry (s : State) : Host.Outcome State Fault Refusal :=
  .next (if s.rs.idle.due then
      s.setRs { s.rs with
        lock := .locked
        working := workingCopyOf s.nv.block s.rs.working
        idle := Timer.stopped }
    else s)

end Sys2Proof.Machine
end

