-- ==== Sys2Proof/Machine/StartFamily.lean ====
section
/-! DEFINITION. The commands of start: entering and leaving the start hold, the filling of the input filters
with the phases that follow SVC, and the end of JOINING (10). -/

namespace Sys2Proof.Machine

/-! ### START and STARTING (R175) -/

/-- START (R175): the part is held in start for this cause, everything volatile lost. -/
def execStart (cause : StartCause) (s : State) : Host.Outcome State Fault Refusal :=
  .next (s.enterHold cause)

/-- The check of the factory block (R25, R175 step 1). -/
def State.checkFactory (s : State) : State :=
  let ok := factoryValid s.nv.factory
  let t := s.setBoot { s.boot with factoryOk := ok }
  if ok then t else t.addCode 66

/-- STARTING (R175): the part leaves the hold. While the supply is known to stand below the reset threshold the
hold goes on (R170, log 23). -/
def execStarting (s : State) : Host.Outcome State Fault Refusal :=
  .next (if s.phase = .hold ∧ s.rs.supplyBelow = false then
      (s.emptied .starting s.boot.cause).checkFactory
    else s)

/-! ### The phases that follow SVC (R175, R176) -/

/-- The address and configuration in use for a block: the block's own when it is valid, else address 30 and
125 kbit/s. -/
def State.loadConfig (s : State) : State :=
  if blockValid s.nv.block then
    let c := settingsOf s.nv.block
    (s.setCfg c).setBoot { s.boot with address := c.address }
  else (s.setCfg {}).setBoot { s.boot with address := 30 }

/-- The entry of SERVICE (R176). The first STATUS follows 500 ms later (log 19). -/
def State.enterService (s : State) : State :=
  let t := s.loadConfig
  (t.setBoot { t.boot with phase := .service }).setRs { t.rs with
    lock := .locked, working := workingCopyOf s.nv.block s.rs.working, idle := Timer.stopped
    statusTimer := Timer.start 500 }

/-- The entry of CONFIG FAULT (R153, R175 step 3). -/
def State.enterConfigFault (s : State) : State :=
  let t := s.loadConfig
  ((t.setBoot { t.boot with phase := .configFault }).setRs { t.rs with
    statusTimer := Timer.start 500 }).addCode 64

/-- The slot and sequence of the highest record, if any. -/
def highestRecord (rs : List (Nat × Nat)) : Option (Nat × Nat) :=
  rs.foldl (fun best r => match best with
    | none => some r
    | some b => if b.2 < r.2 then some r else some b) none

/-- The scan of the slots (R175 step 5), with the store-full flag evaluated. -/
def State.scan (s : State) : State :=
  (match highestRecord (records s.nv.slots) with
    | some (n, q) => s.setRs { s.rs with lastSequence := q, writePosition := (n + 1) % slotCount }
    | none => s.setRs { s.rs with lastSequence := 0, writePosition := 0 }).evalFull

/-- The continuous comparators of a role begin to count (R29, R30). -/
def continuousComparators (foam : Bool) : Comparators :=
  let c := Comparator.arm
  if foam then
    { ambientWatch := c, ambientStop := c, headerHigh := c, headerRecovered := c, oxygenUnder := c
      oxygenHigh := c, chamberWatch := c, chamberStop := c, purgeNeeded := c }
  else { ambientWatch := c, ambientStop := c, headerHigh := c, headerRecovered := c }

/-- The continuous comparators are armed by the check of the configuration block, and count from the next sample
(R29). -/
def State.armContinuous (s : State) : State :=
  (s.setMu { s.mu with cmp := continuousComparators s.isFoam }).setBoot { s.boot with checked := true }

/-- The start counter is raised by one (R174). -/
def State.raiseCounter (s : State) : State :=
  s.setNv { s.nv with startCounter := s.nv.startCounter + 1 }

/-- The normal start with a valid configuration (R175 steps 3 to 5). JOINING, step 6, is entered at the next
station sample, the first that the comparators count (R29, R129, log 33). -/
def State.normalStart (s : State) : State := s.loadConfig.armContinuous.raiseCounter.scan

/-- What RS does when the SVC filter has filled in STARTING (R175 steps 2 to 6). -/
def State.afterStrap (s : State) : State :=
  if s.level .svc then s.enterService
  else if blockValid s.nv.block then s.normalStart
  else s.enterConfigFault

/-- INPUT_FILTER_FILL (R34): the filter takes its level without an edge; SVC leads on in STARTING. -/
def execInputFilterFill (pin : Pin) (s : State) : Host.Outcome State Fault Refusal :=
  .next (if s.phase ≠ .hold ∧ (s.filter pin).fillDue = true then
      let t := s.setFilter pin (s.filter pin).fill
      if pin = .svc ∧ s.phase = .starting then t.afterStrap else t.conclude s
    else s)

/-! ### The end of JOINING (R73, R144, R175) -/

/-- The entry of RUN: DE is evaluated and a FOAM chamber leaves its pending INERTING. -/
def State.enterRun (s : State) : State :=
  let t := (s.setBoot { s.boot with phase := .run, joining := Timer.stopped }).evalDe
  if t.isFoam then (t.setCh { t.ch with pending := false }).enterInerting else t.tryOffer

/-- JOINING_END (R175). -/
def execJoiningEnd (s : State) : Host.Outcome State Fault Refusal :=
  .next (if s.phase = .joining ∧ s.boot.joining.due = true then s.enterRun.conclude s else s)

end Sys2Proof.Machine
end

