-- ==== Sys2Proof/Machine/Dispatch.lean ====
section
/-! DEFINITION. The dispatch: one arm per command, one meaning per arm. -/

namespace Sys2Proof.Machine

/-- The effect of a command on everything but the queue of waiting commands. -/
def exec (i : Instr) (s : State) : Host.Outcome State Fault Refusal :=
  match i with
  | .start cause => Sys2Proof.Machine.execStart cause s
  | .starting => Sys2Proof.Machine.execStarting s
  | .inputFilterFill pin => Sys2Proof.Machine.execInputFilterFill pin s
  | .joiningEnd => Sys2Proof.Machine.execJoiningEnd s
  | .stationSample x => Sys2Proof.Machine.execStationSample x s
  | .valveDiscrepancy r => Sys2Proof.Machine.execValveDiscrepancy r s
  | .tripFilterMet t => Sys2Proof.Machine.execTripFilterMet t s
  | .recoveryTimerExpiry t => Sys2Proof.Machine.execRecoveryTimerExpiry t s
  | .faultClear f => Sys2Proof.Machine.execFaultClear f s
  | .faultClearButton => Sys2Proof.Machine.execFaultClearButton s
  | .ilkFall => Sys2Proof.Machine.execIlkFall s
  | .ilkRise => Sys2Proof.Machine.execIlkRise s
  | .startEdge => Sys2Proof.Machine.execStartEdge s
  | .clcRise => Sys2Proof.Machine.execClcRise s
  | .clcFall => Sys2Proof.Machine.execClcFall s
  | .clampTimeout => Sys2Proof.Machine.execClampTimeout s
  | .zeroWindowComplete => Sys2Proof.Machine.execZeroWindowComplete s
  | .hcdRise => Sys2Proof.Machine.execHcdRise s
  | .classifyTimeExpiry => Sys2Proof.Machine.execClassifyTimeExpiry s
  | .pulldownReached => Sys2Proof.Machine.execPulldownReached s
  | .pulldownTimeout => Sys2Proof.Machine.execPulldownTimeout s
  | .pStart => Sys2Proof.Machine.execPStart s
  | .holdTimeExpiry => Sys2Proof.Machine.execHoldTimeExpiry s
  | .starvationPromotion => Sys2Proof.Machine.execStarvationPromotion s
  | .releaseTimeExpiry => Sys2Proof.Machine.execReleaseTimeExpiry s
  | .headerHigh => Sys2Proof.Machine.execHeaderHigh s
  | .headerRecovered => Sys2Proof.Machine.execHeaderRecovered s
  | .ownHazardChange => Sys2Proof.Machine.execOwnHazardChange s
  | .oxygenHigh => Sys2Proof.Machine.execOxygenHigh s
  | .oxygenUnderRunLimit => Sys2Proof.Machine.execOxygenUnderRunLimit s
  | .inertReached => Sys2Proof.Machine.execInertReached s
  | .purgeNeeded => Sys2Proof.Machine.execPurgeNeeded s
  | .purgeClearMet => Sys2Proof.Machine.execPurgeClearMet s
  | .quiet => Sys2Proof.Machine.execQuiet s
  | .carryOverExpiry k => Sys2Proof.Machine.execCarryOverExpiry k s
  | .drcFall => Sys2Proof.Machine.execDrcFall s
  | .drcRise => Sys2Proof.Machine.execDrcRise s
  | .srfChange => Sys2Proof.Machine.execSrfChange s
  | .doorTimerExpiry => Sys2Proof.Machine.execDoorTimerExpiry s
  | .sweepWaitExpiry => Sys2Proof.Machine.execSweepWaitExpiry s
  | .sweepTimerExpiry => Sys2Proof.Machine.execSweepTimerExpiry s
  | .sweepRetryExpiry => Sys2Proof.Machine.execSweepRetryExpiry s
  | .purgeWaitExpiry => Sys2Proof.Machine.execPurgeWaitExpiry s
  | .answerTimerExpiry => Sys2Proof.Machine.execAnswerTimerExpiry s
  | .holdOffExpiry => Sys2Proof.Machine.execHoldOffExpiry s
  | .peerStale a => Sys2Proof.Machine.execPeerStale a s
  | .statusTimerExpiry => Sys2Proof.Machine.execStatusTimerExpiry s
  | .serviceStatusExpiry => Sys2Proof.Machine.execServiceStatusExpiry s
  | .serviceIdleTimerExpiry => Sys2Proof.Machine.execServiceIdleTimerExpiry s
  | .lineIdle => Sys2Proof.Machine.execLineIdle s
  | .transmitStart bits => Sys2Proof.Machine.execTransmitStart bits s
  | .collision => Sys2Proof.Machine.execCollision s
  | .transmitComplete => Sys2Proof.Machine.execTransmitComplete s
  | .telegramDiscard r => Sys2Proof.Machine.execTelegramDiscard r s
  | .status f => Sys2Proof.Machine.execStatus f s
  | .claim f => Sys2Proof.Machine.execClaim f s
  | .release f => Sys2Proof.Machine.execRelease f s
  | .purgeCall f => Sys2Proof.Machine.execPurgeCall f s
  | .purgeClear f => Sys2Proof.Machine.execPurgeClear f s
  | .purgeEnd f => Sys2Proof.Machine.execPurgeEnd f s
  | .certificate f => Sys2Proof.Machine.execCertificate f s
  | .readData f => Sys2Proof.Machine.execReadData f s
  | .checkResult f => Sys2Proof.Machine.execCheckResult f s
  | .configAnswer f => Sys2Proof.Machine.execConfigAnswer f s
  | .announce f => Sys2Proof.Machine.execAnnounce f s
  | .closeAccount f => Sys2Proof.Machine.execCloseAccount f s
  | .abandonAccount f => Sys2Proof.Machine.execAbandonAccount f s
  | .offer f => Sys2Proof.Machine.execOffer f s
  | .accept f => Sys2Proof.Machine.execAccept f s
  | .refuse f => Sys2Proof.Machine.execRefuse f s
  | .read f => Sys2Proof.Machine.execRead f s
  | .readNext f => Sys2Proof.Machine.execReadNext f s
  | .collect f => Sys2Proof.Machine.execCollect f s
  | .checkRange f => Sys2Proof.Machine.execCheckRange f s
  | .key f => Sys2Proof.Machine.execKey f s
  | .configWrite f => Sys2Proof.Machine.execConfigWrite f s
  | .configCommit f => Sys2Proof.Machine.execConfigCommit f s
  | .configCommitVerify readBack => Sys2Proof.Machine.execConfigCommitVerify readBack s
  | .commitBegin => Sys2Proof.Machine.execCommitBegin s
  | .commitVerify readBack => Sys2Proof.Machine.execCommitVerify readBack s
  | .collectMark => Sys2Proof.Machine.execCollectMark s
  | .supplyWarning decivolts => Sys2Proof.Machine.execSupplyWarning decivolts s
  | .supplyWarningEnd decivolts => Sys2Proof.Machine.execSupplyWarningEnd decivolts s
  | .kindCodeNotInTable code f => Sys2Proof.Machine.execKindCodeNotInTable code f s
  | .lineBusy => Sys2Proof.Machine.execLineBusy s

end Sys2Proof.Machine
end

