-- ==== Sys2Proof/Machine/Ticking.lean ====
section
/-! DEFINITION. One millisecond of time: what an idle step does (R32, log 1). -/

namespace Sys2Proof.Machine

/-- The peer entries after a millisecond. -/
def Peers.tick (p : Peers) : Peers :=
  { p with timer := p.timer.tick, entries := p.entries.map fun e => { e with age := e.age.tick } }

/-- The sequence after a millisecond: the step timer, the starvation timer and the extraction clock. -/
def Sequence.tick (q : Sequence) : Sequence :=
  { q with timer := q.timer.tick, starve := q.starve.tick, clock := q.clock.map (· + 1) }

/-- The chamber's timers after a millisecond. -/
def Chamber.tick (c : Chamber) : Chamber :=
  { c with
    door := c.door.tick, sweepWait := c.sweepWait.tick, sweep := c.sweep.tick
    sweepRetry := c.sweepRetry.tick }

/-- The account store's timers after a millisecond. -/
def Accounts.tick (a : Accounts) : Accounts :=
  { a with
    chamber := a.chamber.map fun e => { e with carry := e.carry.tick }
    offer := { a.offer with answer := a.offer.answer.tick, holdOff := a.offer.holdOff.tick } }

/-- The recovery timer of a source after a millisecond. -/
def Source.tick (x : Source) : Source := { x with recovery := x.recovery.tick }

/-- The recovery timers after a millisecond. -/
def Sources.tick (x : Sources) : Sources :=
  TripSource.all.foldl (fun y t => y.set t (y.get t).tick) x

/-- The Protection Unit after a millisecond. -/
def Protection.tick (p : Protection) : Protection := { p with sources := p.sources.tick }

/-- One millisecond: every RUNNING timer comes nearer its expiry, which its own command then delivers. Nothing
runs in the start hold. -/
def State.tick (s : State) : State :=
  if s.boot.phase = .hold then s
  else
    { s with
      boot := { s.boot with joining := s.boot.joining.tick }
      pt := s.pt.tick
      ms := { s.ms with call := { s.ms.call with wait := s.ms.call.wait.tick } }
      sq := s.sq.tick
      ch := s.ch.tick
      ac := s.ac.tick
      pu := s.pu.tick
      rs := { s.rs with idle := s.rs.idle.tick, statusTimer := s.rs.statusTimer.tick } }

end Sys2Proof.Machine
end

