-- ==== Sys2Proof/WellFormed.lean ====
section
/-! DEFINITION. Which commands the terminals and the line can present. `exec` does not depend on it: an
ill-formed command is answered like any other. -/

namespace Sys2Proof

/-- A telegram's payload has at most 48 bytes (R157). -/
def Frame.wf (f : Frame) : Bool := f.payload.length ≤ 48

/-- A key names an origin station 0..23, a start count of one byte and a number 1..65,535 (R1). -/
def Key.wf (k : Key) : Bool := k.origin ≤ 23 && k.count ≤ 255 && 1 ≤ k.number && k.number ≤ 65535

/-- The part's own kind codes (R167). -/
def kindCodes : List Nat :=
  [0x10, 0x20, 0x21, 0x30, 0x31, 0x32, 0x40, 0x50, 0x51, 0x52, 0x60, 0x61, 0x62, 0x70, 0x71, 0x72,
   0x73, 0x74, 0x75, 0x78, 0x7C, 0x7D, 0x7E, 0x7F]

/-- Well-formed commands. -/
def Instr.wf : Instr → Bool
  | .faultClear f | .status f | .claim f | .release f | .purgeCall f | .purgeClear f | .purgeEnd f
  | .certificate f | .readData f | .checkResult f | .configAnswer f | .announce f | .closeAccount f
  | .abandonAccount f | .offer f | .accept f | .refuse f | .read f | .readNext f | .collect f
  | .checkRange f | .key f | .configWrite f | .configCommit f => f.wf
  | .kindCodeNotInTable c f => !kindCodes.contains c.toNat && f.wf
  | .carryOverExpiry k => k.wf
  | .configCommitVerify ws => ws.length == 56
  | .commitVerify bs => bs.length == 64
  | .start _ | .starting | .inputFilterFill _ | .joiningEnd | .stationSample _ | .valveDiscrepancy _
  | .tripFilterMet _ | .recoveryTimerExpiry _ | .faultClearButton | .ilkFall | .ilkRise | .startEdge
  | .clcRise | .clcFall | .clampTimeout | .zeroWindowComplete | .hcdRise | .classifyTimeExpiry
  | .pulldownReached | .pulldownTimeout | .pStart | .holdTimeExpiry | .starvationPromotion
  | .releaseTimeExpiry | .headerHigh | .headerRecovered | .ownHazardChange | .oxygenHigh
  | .oxygenUnderRunLimit | .inertReached | .purgeNeeded | .purgeClearMet | .quiet | .drcFall | .drcRise
  | .srfChange | .doorTimerExpiry | .sweepWaitExpiry | .sweepTimerExpiry | .sweepRetryExpiry
  | .purgeWaitExpiry | .answerTimerExpiry | .holdOffExpiry | .peerStale _ | .statusTimerExpiry
  | .serviceStatusExpiry | .serviceIdleTimerExpiry | .lineIdle | .transmitStart _ | .collision
  | .transmitComplete | .telegramDiscard _ | .commitBegin | .collectMark | .supplyWarning _
  | .supplyWarningEnd _ | .lineBusy => true

end Sys2Proof
end

