-- ==== Sys2Proof/Safety.lean ====
section
/-! DEFINITION. What a run never breaks, which commands may write which state, and the further terms the
statements use. -/

namespace Sys2Proof

/-! ### Which commands may write which state -/

/-- START, STARTING, and a SUPPLY_WARNING below the reset threshold, which empty every volatile state. -/
def Instr.empties : Instr → Bool
  | .start _ | .starting => true
  | .supplyWarning d => decide (d < Machine.resetThreshold)
  | _ => false

/-- The frame of a command that is a telegram received from the line. -/
def Instr.telegram : Instr → Option Frame
  | .faultClear f | .status f | .claim f | .release f | .purgeCall f | .purgeClear f | .purgeEnd f
  | .certificate f | .readData f | .checkResult f | .configAnswer f | .announce f | .closeAccount f
  | .abandonAccount f | .offer f | .accept f | .refuse f | .read f | .readNext f | .collect f
  | .checkRange f | .key f | .configWrite f | .configCommit f | .kindCodeNotInTable _ f => some f
  | _ => none

/-- The kind of a command that is a telegram of the table (R167). -/
def Instr.kind : Instr → Option Machine.Kind
  | .faultClear _ => some .faultClear | .status _ => some .status | .claim _ => some .claim
  | .release _ => some .release | .purgeCall _ => some .purgeCall | .purgeClear _ => some .purgeClear
  | .purgeEnd _ => some .purgeEnd | .certificate _ => some .certificate | .readData _ => some .readData
  | .checkResult _ => some .checkResult | .configAnswer _ => some .configAnswer | .announce _ => some .announce
  | .closeAccount _ => some .closeAccount | .abandonAccount _ => some .abandonAccount | .offer _ => some .offer
  | .accept _ => some .accept | .refuse _ => some .refuse | .read _ => some .read | .readNext _ => some .readNext
  | .collect _ => some .collect | .checkRange _ => some .checkRange | .key _ => some .key
  | .configWrite _ => some .configWrite | .configCommit _ => some .configCommit
  | _ => none

/-- Commands that may write the record slots. -/
def Instr.writesSlots : Instr → Bool
  | .start _ | .commitVerify _ | .collectMark => true
  | .supplyWarning d => decide (d < Machine.resetThreshold)
  | _ => false

/-- Commands that may write the configuration block. -/
def Instr.writesBlock : Instr → Bool
  | .start _ | .configCommitVerify _ | .supplyWarning _ => true
  | _ => false

/-- Commands that may change the phase, the start cause, the address in use or the JOINING timer. A sample does so
as the first after the configuration check. -/
def Instr.writesPhase : Instr → Bool
  | .inputFilterFill _ | .joiningEnd | .stationSample _ => true
  | c => c.empties

/-- Commands that may read a free value. -/
def Instr.readsFree : Instr → Bool
  | .start _ | .clcFall | .releaseTimeExpiry | .readNext _ | .configWrite _ | .commitBegin
  | .supplyWarning _ => true
  | _ => false

/-- Commands that may change whether the line is idle. -/
def Instr.writesLineLevel : Instr → Bool
  | .lineIdle | .lineBusy | .transmitStart _ => true
  | c => c.empties

/-- Commands that may change what the transmitter holds. -/
def Instr.writesTransmitter : Instr → Bool
  | .transmitStart _ | .collision | .transmitComplete => true
  | c => c.empties

/-- Commands that may change a peer entry, time apart. -/
def Instr.writesPeers : Instr → Bool
  | .peerStale _ => true
  | c => c.empties || c.telegram.isSome

/-- Commands that may change the own hazard. -/
def Instr.writesOwnHazard : Instr → Bool
  | .ownHazardChange | .oxygenHigh | .stationSample _ => true
  | c => c.empties

/-- Commands that may change a claim list. -/
def Instr.writesLists : Instr → Bool
  | .status _ | .claim _ | .release _ | .purgeCall _ | .purgeEnd _ | .peerStale _ | .ownHazardChange
  | .oxygenHigh | .transmitComplete => true
  | c => c.empties

/-- Commands that may change the purge-in-progress marks. -/
def Instr.writesMarks : Instr → Bool
  | .status _ | .purgeCall _ | .purgeEnd _ | .peerStale _ => true
  | c => c.empties

/-- Commands that may change the header back-off. -/
def Instr.writesBackoff : Instr → Bool
  | .headerHigh | .headerRecovered | .stationSample _ => true
  | c => c.empties

/-- Commands that may change the own purge call, time apart. -/
def Instr.writesCall : Instr → Bool
  | .purgeNeeded | .purgeClearMet | .purgeCall _ | .purgeClear _ | .purgeWaitExpiry | .peerStale _
  | .transmitComplete => true
  | c => c.empties

/-- Commands that may change the clamp hold. -/
def Instr.writesClampHold : Instr → Bool
  | .clcRise | .clcFall | .clampTimeout | .pulldownTimeout | .holdTimeExpiry | .abandonAccount _
  | .releaseTimeExpiry => true
  | c => c.empties

/-- Commands that may change the repeat counter or the repeats used. -/
def Instr.writesRepeats : Instr → Bool
  | .startEdge | .clcFall | .holdTimeExpiry | .releaseTimeExpiry => true
  | c => c.empties

/-- Commands that may change the chamber class. -/
def Instr.writesClass : Instr → Bool
  | .sweepTimerExpiry => true
  | c => c.empties

/-- Commands that may change the door-open mark. -/
def Instr.writesDoorOpen : Instr → Bool
  | .drcFall | .drcRise => true
  | c => c.empties

/-- Commands that may change the channel values or the discrepancy counters. -/
def Instr.writesChannels : Instr → Bool
  | .stationSample _ => true
  | c => c.empties

/-- Commands that may change a discrete input filter. -/
def Instr.writesFilters : Instr → Bool
  | .stationSample _ | .inputFilterFill _ | .ilkFall | .ilkRise | .startEdge | .clcRise | .clcFall
  | .hcdRise | .drcFall | .drcRise | .srfChange | .faultClearButton => true
  | c => c.empties

/-- Commands that may change the zero in use. -/
def Instr.writesZero : Instr → Bool
  | .zeroWindowComplete => true
  | c => c.empties

/-- Commands that may change the intake list. -/
def Instr.writesIntake : Instr → Bool
  | .offer _ | .drcRise => true
  | c => c.empties

/-- Commands that may change the next origin number. -/
def Instr.writesNumber : Instr → Bool
  | .announce _ | .startEdge => true
  | c => c.empties

/-- Commands that may change a trip source, time apart. -/
def Instr.writesSources : Instr → Bool
  | .stationSample _ | .valveDiscrepancy _ | .tripFilterMet _ | .recoveryTimerExpiry _ | .faultClear _
  | .faultClearButton | .clcFall | .clampTimeout | .zeroWindowComplete => true
  | c => c.empties

/-- Commands that may change the last sequence, the write position or the commit queue's progress. -/
def Instr.writesSequence : Instr → Bool
  | .commitVerify _ | .inputFilterFill _ => true
  | c => c.empties

/-- Commands that may change the commit in progress. -/
def Instr.writesCommit : Instr → Bool
  | .commitBegin | .commitVerify _ | .supplyWarning _ => true
  | c => c.empties

/-- Commands that may change the lock state or the working copy of the configuration. -/
def Instr.writesLock : Instr → Bool
  | .key _ | .configWrite _ | .configCommit _ | .configCommitVerify _ | .supplyWarning _
  | .serviceIdleTimerExpiry | .inputFilterFill _ => true
  | c => c.empties

end Sys2Proof

namespace Sys2Proof.Machine

/-! ### Invariants -/

/-- The record store keeps its canonical form (R168). -/
def State.cellsOk (s : State) : Prop := cellsWf s.nv.slots = true

/-- Ascending without repeats. -/
def ascending : List Nat → Bool
  | [] => true
  | _ :: [] => true
  | a :: b :: r => decide (a < b) && ascending (b :: r)

/-- The twenty-six codes of R147, R152 and R153. -/
def definedCodes : List Nat :=
  [1, 2, 3, 6, 7, 10, 11, 12, 14, 15, 16, 20, 21, 22, 23, 24, 25, 26, 30, 31, 32, 33, 64, 65, 66, 67]

/-- The fault code set is an ascending set of defined codes (R151), and DE agrees with R144. -/
def State.protectionOk (s : State) : Prop :=
  ascending s.pu.codes = true ∧ (∀ c ∈ s.pu.codes, c ∈ definedCodes) ∧ s.pu.de = s.driveRule

/-- A source's code is in the set exactly while the source is TRIPPED or RECOVERING (R149). -/
def State.sourcesOk (s : State) : Prop :=
  ∀ x : TripSource, x.code ∈ s.pu.codes ↔ (s.source x).st ≠ .normal

/-- In each claim list the demands of the seated entries sum to no more than the capacity (R110). Outside
JOINING and RUN there are no lists (R101). -/
def State.seatsOk (s : State) : Prop :=
  (∀ r, seatedSum (s.ms.list r) ≤ s.cfg.cap r) ∧ (s.working = false → s.ms.listA = [] ∧ s.ms.listB = [])

/-- Ranks do not fall along a list (R102). -/
def rankOrdered : List ClaimEntry → Bool
  | [] => true
  | _ :: [] => true
  | a :: b :: r => decide (a.cls.classRank ≤ b.cls.classRank) && rankOrdered (b :: r)

/-- A seated EXCLUSIVE entry is the head of its list and the only seated entry (R110, R112). -/
def exclusiveAlone (l : List ClaimEntry) : Bool :=
  match l with
  | [] => true
  | e :: es =>
    es.all (fun x => !(x.seated && x.cls == .exclusive))
    && (!(e.seated && e.cls == .exclusive) || es.all fun x => !x.seated)

/-- The claim lists: one entry per claimant across both routes, in rank order, every demand 1..1,000, a seated
EXCLUSIVE entry alone (R102, R103, R110). -/
def State.claimsOk (s : State) : Prop :=
  ((s.ms.listA ++ s.ms.listB).map (·.claimant)).Nodup
  ∧ ∀ r, rankOrdered (s.ms.list r) = true ∧ exclusiveAlone (s.ms.list r) = true
    ∧ ∀ e ∈ s.ms.list r, 1 ≤ e.demand ∧ e.demand ≤ 1000

/-- The account lists: at most 4 accounts in the extraction queue, one of them ACTIVE and none in E0; at most 4
in the intake list; at most 3 in the chamber list, fewer while a cabinet may pass the door; at most one
RECEIVING, and one whenever a window is open (R7, R9, R11, R12, R48, R82). -/
def State.accountsOk (s : State) : Prop :=
  s.ac.queue.length ≤ 4
  ∧ (s.ac.queue.filter fun e => e.st == .active).length ≤ 1
  ∧ (s.sq.step = .e0 → s.ac.active = none)
  ∧ s.ac.intake.length ≤ 4
  ∧ s.ac.chamber.length ≤ 3
  ∧ (s.ch.st = .entry ∨ s.ch.doorOpen = true → s.ac.chamber.length < 3)
  ∧ (s.ac.chamber.filter fun e => e.st == .receiving).length ≤ 1
  ∧ ((s.ac.chamber.any ChamberEntry.isOpen) = true → s.ac.receiving.isSome = true)

/-- The order of R163: by class, then by first enqueue moment. -/
def queueOrdered : List Telegram → Bool
  | [] => true
  | _ :: [] => true
  | t :: u :: r =>
    (decide (t.cls < u.cls) || (t.cls == u.cls && decide (t.moment ≤ u.moment))) && queueOrdered (u :: r)

/-- The transmit queue is in its order and holds at most one STATUS (R163, R164). -/
def State.lineOk (s : State) : Prop :=
  queueOrdered s.li.queue = true ∧ (s.li.queue.filter fun t => t.kind == .status).length ≤ 1

/-- The sequences and the own claim. An ACTIVE account in every step but E0 (R9, R48), and E0 with every item at
its start value outside RUN and at a FOAM station (R48). Outside JOINING and RUN no claim, no zero window and the
chamber pending (R73, R101, R175). At an EXTRACTION station in E4 to E6 an own claim on the current route (R58,
R62, R70), in every other step no claim and no starvation timer (R69, R71), a zero window in E2 alone (R55), and
no chamber at work. At a FOAM station an own claim on the chamber route (R77, R85). -/
def State.sequenceOk (s : State) : Prop :=
  (s.isExtraction = false ∨ s.inRun = false → s.sq = {})
  ∧ (s.sq.step = .e0 → s.sq = {})
  ∧ (s.ac.active = none → s.sq.step = .e0)
  ∧ (s.working = false →
      s.ms.own = none ∧ s.mu.window.isOpen = false ∧ s.ch.pending = true ∧ s.ch.st = .inerting)
  ∧ (s.isExtraction = true →
      (s.sq.step = .e4 ∨ s.sq.step = .e5 ∨ s.sq.step = .e6 →
        ∃ c, s.ms.own = some c ∧ c.route = s.currentRoute)
      ∧ (s.sq.step ≠ .e4 ∧ s.sq.step ≠ .e5 ∧ s.sq.step ≠ .e6 →
        s.ms.own = none ∧ s.sq.starve = Timer.stopped)
      ∧ (s.mu.window.isOpen = true → s.sq.step = .e2)
      ∧ s.ch.st = .inerting)
  ∧ (s.isFoam = true → ∀ c, s.ms.own = some c → c.route = s.ch.cls.route)

/-- In E1, E3, E5 and E6 the step timer is HELD at its full time while the drive gate is closed. With the gate open
it is HELD under SUSPEND and RUNNING otherwise (R52, R67). -/
def State.stepTimerOk (s : State) : Prop :=
  s.sq.step = .e1 ∨ s.sq.step = .e3 ∨ s.sq.step = .e5 ∨ s.sq.step = .e6 →
    (s.gate = false → s.sq.timer = Timer.reset (s.cfg.stepTime s.sq.step))
    ∧ (s.gate = true → s.sq.timer.st = if s.suspended = true then .held else .running)

/-! ### The extraction queue -/

/-- The working state of a queue entry (R6, R133) with its key. -/
def QueueEntry.work (e : QueueEntry) : Key × QueueState × Nat × Nat × Bool × Nat :=
  (e.account.key, e.st, e.accA, e.accB, e.abandon, e.unanswered)

/-- The working states of the extraction queue. -/
def State.queueWork (s : State) : List (Key × QueueState × Nat × Nat × Bool × Nat) :=
  s.ac.queue.map QueueEntry.work

/-! ### Telegrams -/

/-- LI accepts the telegram of this frame and PT takes note of its sender (R122, R125, R158): the receiver is
receiving with no telegram of its own on the line, the station in JOINING or RUN, the destination its own address
or all stations, the source another station address. -/
def State.hearsFrom (s : State) (f : Frame) : Bool :=
  s.li.hearing && s.working
  && (f.dst.toNat == s.boot.address || f.dst.toNat == 31)
  && f.src.toNat != s.boot.address && decide (f.src.toNat < 24)

/-- `q` is `rest` with the telegram at the place its class and first enqueue moment give: behind every waiting telegram
of a more urgent class, or of its own class first enqueued no later, and ahead of the next one (R163). -/
def Telegram.placedIn (m : Telegram) (rest q : List Telegram) : Prop :=
  ∃ front back, rest = front ++ back ∧ q = front ++ m :: back
    ∧ (∀ u ∈ front, u.cls < m.cls ∨ (u.cls = m.cls ∧ u.moment ≤ m.moment))
    ∧ (∀ u, back.head? = some u → m.cls < u.cls ∨ (m.cls = u.cls ∧ m.moment < u.moment))

/-- LI hands the telegram to the block that owns its kind as well (R158, R179). -/
def State.takes (s : State) (k : Kind) (f : Frame) : Bool := s.hearsFrom f && s.handsOn k f

/-- The state once LI, PT and AS have taken note of a telegram's sender (R122, R132, R157). -/
def State.noted (s : State) (f : Frame) : State :=
  ((s.endReception).refresh f.src.toNat).downstreamChange s

/-! ### What a command leaves behind -/

/-- A telegram of this kind, destination and payload waits in the transmit queue (R163). -/
def State.waits (s : State) (k : Kind) (dst : Nat) (payload : List Byte) : Prop :=
  ∃ m ∈ s.li.queue, m.kind = k ∧ m.dst = dst ∧ m.payload = payload

/-- The items of the sequence at the entry of E7 RELEASE (R71): the release time runs, the clamp hold is
clear, the starvation timer stopped, and the extraction clock has given its whole seconds. -/
def State.releaseEntered (s : State) : Sequence :=
  { s.sq with
    step := .e7, timer := Timer.start (1000 * s.cfg.releaseTime), clampHold := false
    starve := Timer.stopped, clock := none, finalPressure := none
    seconds := match s.sq.clock with | some ms => min 65535 (ms / 1000) | none => 0 }

/-- What one run of the seating computation makes of a list, with the receiver's state, the purge marks and the
line hazard as this state has them (R108 to R112). -/
def State.seatedNow (s : State) (r : Route) (l : List ClaimEntry) : List ClaimEntry :=
  seatRun r (s.cfg.cap r) (s.accepting r) s.purgeInProgress s.lineHazard l

/-- The account, state and accumulator of every entry of the chamber list, its timer apart. -/
def State.chamberWork (s : State) : List (Account × WindowState × Nat) :=
  s.ac.chamber.map fun e => (e.account, e.st, e.accF)

end Sys2Proof.Machine
end

