-- ==== Sys2Proof/Certificates/Slice0/Obligations.lean ====
section
/-! DEFINITION. The statements for the provers. A statement that rests on a choice of the model names its log
entry. What a command leaves alone is said by the writers' statements, and in each command's own statement. -/

open Sys2Proof Sys2Proof.Machine

/-! ### The machine -/

/-- A step runs the command at the front of the queue on the state with the rest of the queue. -/
def Obligations.StepRunsFrontCommand : Prop :=
  ∀ (c : Instr) (rest : List Instr) (s : State), s.pending = c :: rest →
    step s = exec c { s with pending := rest }

/-- On an empty queue one millisecond passes: every RUNNING timer comes 1 ms nearer its expiry, the carry-over
timers of the chamber list among them, a STOPPED or HELD one keeps its time, the extraction clock counts, and
nothing else changes. Nothing passes in the start hold. The model's choice, log 1. -/
def Obligations.IdleStepCountsRunningTimers : Prop :=
  ∀ s : State, s.pending = [] → ∃ t, step s = .next t
    ∧ (s.phase = .hold → t = s)
    ∧ (s.phase ≠ .hold →
      let ms := fun a : Timer => if a.st = .running then { a with left := a.left - 1 } else a
      t.boot = { s.boot with joining := ms s.boot.joining }
      ∧ t.pt.timer = ms s.pt.timer ∧ t.pt.ownHazard = s.pt.ownHazard
      ∧ t.pt.entries = s.pt.entries.map (fun e => { e with age := ms e.age })
      ∧ t.ms = { s.ms with call := { s.ms.call with wait := ms s.ms.call.wait } }
      ∧ t.sq = { s.sq with
          timer := ms s.sq.timer, starve := ms s.sq.starve, clock := s.sq.clock.map (· + 1) }
      ∧ t.ch = { s.ch with
          door := ms s.ch.door, sweepWait := ms s.ch.sweepWait, sweep := ms s.ch.sweep
          sweepRetry := ms s.ch.sweepRetry }
      ∧ t.ac = { s.ac with
          chamber := s.ac.chamber.map fun e => { e with carry := ms e.carry }
          offer := { s.ac.offer with
            answer := ms s.ac.offer.answer, holdOff := ms s.ac.offer.holdOff } }
      ∧ t.rs = { s.rs with idle := ms s.rs.idle, statusTimer := ms s.rs.statusTimer }
      ∧ (∀ x, t.source x = { s.source x with recovery := ms (s.source x).recovery })
      ∧ t.pu.codes = s.pu.codes ∧ t.pu.de = s.pu.de
      ∧ t.cfg = s.cfg ∧ t.li = s.li ∧ t.mu = s.mu ∧ t.nv = s.nv ∧ t.free = s.free ∧ t.pending = []
      ∧ t.outputs = s.outputs)

/-- After reset the part is held in start by power-on (R175) with every output off, and every block stands at
the after-start values of R48, R73, R101, R121, R133, R149, R151, R163, R168 and R34. That power-on is the cause, the
own CLAIM not heard back, the extraction seconds 0, the lock LOCKED and no command waiting are the model's choices
(log 4). -/
def Obligations.ResetStandsAtStartValues : Prop :=
  State.reset.phase = .hold ∧ State.reset.boot.cause = .power
  ∧ State.reset.outputs = ⟨false, false, false, false, false, false, false, false⟩
  ∧ State.reset.sq = {} ∧ State.reset.sq.step = .e0 ∧ State.reset.sq.timer.st = .stopped
  ∧ State.reset.sq.pStart = none ∧ State.reset.sq.clock = none
  ∧ State.reset.ch.st = .inerting ∧ State.reset.ch.pending = true ∧ State.reset.ch.cls = .hc
  ∧ State.reset.ch.doorOpen = false ∧ State.reset.ch.path = .off
  ∧ State.reset.ms.listA = [] ∧ State.reset.ms.listB = [] ∧ State.reset.ms.own = none
  ∧ State.reset.ms.claimHeard = false ∧ State.reset.ms.marks = [] ∧ State.reset.ms.backoff = false
  ∧ State.reset.ms.call.st = .idle
  ∧ (∀ a, (State.reset.peer a).presence = .absent ∧ (State.reset.peer a).summary = none)
  ∧ State.reset.pt.ownHazard = .noHazard
  ∧ State.reset.ac.queue = [] ∧ State.reset.ac.intake = [] ∧ State.reset.ac.chamber = []
  ∧ State.reset.ac.nextNumber = 1 ∧ State.reset.ac.offer.st = .idle
  ∧ State.reset.pu.de = false ∧ State.reset.pu.codes = []
  ∧ (∀ x, (State.reset.source x).st = .normal)
  ∧ State.reset.li.queue = [] ∧ State.reset.li.transmitter = none
  ∧ (∀ p, (State.reset.filter p).filled = false ∧ State.reset.level p = false)
  ∧ State.reset.rs.readPointer = none ∧ State.reset.rs.target = none ∧ State.reset.rs.lastSequence = 0
  ∧ State.reset.rs.commitQueue = [] ∧ State.reset.rs.lock = .locked ∧ State.reset.pending = []

/-- Every STATUS item that a command changes is reported (R127): at the end of the step a STATUS with the items as
they then stand waits in the transmit queue, of class 1 when the own hazard has risen since the STATUS before
(R128), and the status timer starts again. The bytes of its payload stand in O50. One STATUS for the whole step is
the model's choice (log 12). -/
def Obligations.ItemChangeIsReported : Prop :=
  ∀ (c : Instr) (s t : State), exec c s = .next t → t.working = true → t.items ≠ s.items →
    (∃ m ∈ t.li.queue, m.kind = .status ∧ m.dst = 31 ∧ m.payload = t.statusPayload
      ∧ m.payload.length = 20 ∧ (s.li.lastHazard.rank < t.pt.ownHazard.rank → m.cls = 1))
    ∧ t.pt.timer = Timer.start t.cfg.statusInterval
    ∧ t.li.lastHazard = t.pt.ownHazard

/-- The outputs at the terminals stand exactly as their rows give. EXTRACTION (R50): CLD in E1 to E6 under the clamp
hold or with the gate open, VA and VB in E5 on the current route without SUSPEND, SV in E3, with the gate. FOAM (R75,
R76, R81): DRL in ENTRY until the door opens, the valve of the chamber route, SRP on a seat below oxygen high and
STOP, NV, EV on the purge path VENT, RDY with SRP on and a free chamber place (R74). FLT while a code stands (R155).
In the start hold every output is off (R175). The route valve law (R51): with the sequence's invariant a route valve
is on only while DE is set, ILK is on, the own claim on that route is heard and seated, no foreign purge mark is held
and no back-off is in force. The one exception is a FOAM station's own purge path, which a mark and the back-off leave
on (log 20). At an EXTRACTION station the step is E5. -/
def Obligations.RouteValveAndGateLaw : Prop :=
  (∀ s : State, let o := s.outputs
    let gate := s.pu.de = true ∧ s.level .ilk = true
    let seated := s.ms.claimHeard = true ∧ ∃ c, s.ms.own = some c ∧ ∃ e ∈ s.ms.list c.route,
      e.claimant = s.boot.address ∧ e.cls = c.cls ∧ e.demand = c.demand ∧ e.seated = true
    (s.phase = .hold → o = ⟨false, false, false, false, false, false, false, false⟩)
    ∧ ¬(o.o1 = true ∧ o.o2 = true)
    ∧ (s.phase ≠ .hold → (o.o6 = true ↔ s.pu.codes ≠ []))
    ∧ (s.phase ≠ .hold → s.cfg.role = .extraction →
      let pulls := s.sq.step = .e5 ∧ seated ∧ s.ms.backoff = false ∧ s.ms.marks = [] ∧ gate
      (o.o0 = true ↔ s.sq.step ∈ [Step.e1, Step.e2, Step.e3, Step.e4, Step.e5, Step.e6]
          ∧ (s.sq.clampHold = true ∨ gate))
      ∧ (o.o1 = true ↔ s.sq.routeB = false ∧ pulls) ∧ (o.o2 = true ↔ s.sq.routeB = true ∧ pulls)
      ∧ (o.o3 = true ↔ s.sq.step = .e3 ∧ gate) ∧ o.o4 = false ∧ o.o5 = false)
    ∧ (s.phase ≠ .hold → s.cfg.role = .foam → s.ch.pending = true →
      o = ⟨false, false, false, false, false, false, o.o6, false⟩)
    ∧ (s.phase ≠ .hold → s.cfg.role = .foam → s.ch.pending = false →
      let sweeps := s.ch.st = .sweep ∧ s.ch.sweep.st ≠ .stopped
      let works := s.ch.st = .ready ∨ s.ch.st = .entry
      let draws := gate ∧ ((s.ch.st = .purging ∧ s.ch.path = .manifold)
        ∨ (seated ∧ (works ∨ s.ch.st = .halted ∨ sweeps) ∧ s.ms.marks = [] ∧ s.ms.backoff = false))
      (o.o0 = true ↔ s.ch.st = .entry ∧ s.ch.doorOpen = false ∧ gate)
      ∧ (o.o1 = true ↔ s.ch.cls = .halo ∧ draws) ∧ (o.o2 = true ↔ s.ch.cls = .hc ∧ draws)
      ∧ (o.o3 = true ↔ s.ch.st = .inerting ∨ s.ch.st = .halted ∨ s.ch.st = .purging ∨ sweeps)
      ∧ (o.o4 = true ↔ works ∧ seated ∧ s.mu.cmp.oxygenHigh.met = false ∧ s.pt.ownHazard ≠ .stop ∧ gate)
      ∧ (o.o5 = true ↔ s.ch.st = .purging ∧ s.ch.path = .vent)
      ∧ (o.o7 = true ↔ works ∧ o.o4 = true ∧ s.ac.chamber.length < 3)))
  ∧ (∀ s : State, s.sequenceOk →
    (∀ r : Route, (match r with | .A => s.outputs.o1 | .B => s.outputs.o2) = true →
      s.pu.de = true ∧ s.level .ilk = true
      ∧ (s.isFoam = false → s.isExtraction = true ∧ s.sq.step = .e5)
      ∧ (s.isFoam = true → r = s.ch.cls.route)
      ∧ ((s.isFoam = true ∧ s.ch.st = .purging ∧ s.ch.path = .manifold)
        ∨ (s.purgeInProgress = false ∧ s.ms.backoff = false ∧ s.ms.claimHeard = true
          ∧ ∃ c, s.ms.own = some c ∧ c.route = r
            ∧ ∃ e ∈ s.ms.list r, e.claimant = s.boot.address ∧ e.cls = c.cls ∧ e.demand = c.demand
              ∧ e.seated = true))))

/-! ### Who writes which state -/

/-- No command touches the queue of waiting commands. The nonvolatile memory has few writers (R168 to R174): the
record slots are written by COMMIT_VERIFY, COLLECT_MARK and a start that cuts a commit, the configuration block by
the end of its own write, by a supply warning and by a start that cut it, the start counter at the fill of a filter,
the factory block never. The phase, the address and the configuration in use change at the events of start alone
(R174, R175), a supply warning below the reset threshold among them (R170) and the first station sample after the
configuration check (log 33), the count of free values at the commands that read one. -/
def Obligations.NonvolatileAndPhaseWriters : Prop :=
  ∀ (c : Instr) (s t : State), exec c s = .next t →
    t.pending = s.pending
    ∧ t.nv.factory = s.nv.factory
    ∧ (c.writesSlots = false → t.nv.slots = s.nv.slots)
    ∧ (c.writesBlock = false → t.nv.block = s.nv.block)
    ∧ ((∀ p, c ≠ .inputFilterFill p) → t.nv.startCounter = s.nv.startCounter)
    ∧ (c.writesPhase = false → t.boot = s.boot ∧ t.cfg = s.cfg)
    ∧ (c.readsFree = false → t.free = s.free)

/-- The line's level, the transmitter, the peer entries, the own hazard, the claim lists, the purge marks, the
header back-off and the own purge call change at the commands their rules name, and at no other (R108, R114,
R116 to R123, R129, R156, R163). -/
def Obligations.LineAndManifoldWriters : Prop :=
  ∀ (c : Instr) (s t : State), exec c s = .next t →
    (c.writesLineLevel = false → t.li.idle = s.li.idle)
    ∧ (c.writesTransmitter = false → t.li.transmitter = s.li.transmitter)
    ∧ (c.writesPeers = false → t.pt.entries = s.pt.entries)
    ∧ (c.writesOwnHazard = false → t.pt.ownHazard = s.pt.ownHazard)
    ∧ (c.writesLists = false → t.ms.listA = s.ms.listA ∧ t.ms.listB = s.ms.listB)
    ∧ (c.writesMarks = false → t.ms.marks = s.ms.marks)
    ∧ (c.writesBackoff = false → t.ms.backoff = s.ms.backoff)
    ∧ (c.writesCall = false → t.ms.call = s.ms.call)

/-- The clamp hold, the repeat counter, the chamber class, the door-open mark, the channel values, the input
filters, the zero in use, the intake list, the next origin number, the trip sources, the last sequence and the
write position, the commit in progress, the lock and the working copy change at the commands their rules name, and
at no other (R1, R25, R33, R39, R50, R53, R64, R83, R85, R140, R147 to R150, R154, R169, R176, R177). -/
def Obligations.SequenceAccountAndStoreWriters : Prop :=
  ∀ (c : Instr) (s t : State), exec c s = .next t →
    (c.writesClampHold = false → t.sq.clampHold = s.sq.clampHold)
    ∧ (c.writesRepeats = false → t.sq.repeats = s.sq.repeats ∧ t.sq.used = s.sq.used)
    ∧ (c.writesClass = false → t.ch.cls = s.ch.cls)
    ∧ (c.writesDoorOpen = false → t.ch.doorOpen = s.ch.doorOpen)
    ∧ (c.writesChannels = false → t.mu.ch = s.mu.ch ∧ t.mu.discA = s.mu.discA ∧ t.mu.discB = s.mu.discB)
    ∧ (c.writesFilters = false → t.mu.filters = s.mu.filters)
    ∧ (c.writesZero = false → t.mu.zero = s.mu.zero ∧ t.mu.zeroRejected = s.mu.zeroRejected)
    ∧ (c.writesIntake = false → t.ac.intake = s.ac.intake)
    ∧ (c.writesNumber = false → t.ac.nextNumber = s.ac.nextNumber)
    ∧ (c.writesSources = false → t.pu.sources = s.pu.sources)
    ∧ (c.writesSequence = false →
        t.rs.lastSequence = s.rs.lastSequence ∧ t.rs.writePosition = s.rs.writePosition)
    ∧ (c.writesCommit = false → t.rs.commit = s.rs.commit)
    ∧ (c.writesLock = false → t.rs.lock = s.rs.lock ∧ t.rs.working = s.rs.working)

/-! ### Invariants every step keeps -/

/-- The state after reset meets every invariant stated below. -/
def Obligations.ResetMeetsTheInvariants : Prop :=
  State.reset.cellsOk ∧ State.reset.protectionOk ∧ State.reset.sourcesOk ∧ State.reset.seatsOk
  ∧ State.reset.claimsOk ∧ State.reset.accountsOk ∧ State.reset.lineOk ∧ State.reset.sequenceOk
  ∧ State.reset.stepTimerOk

/-- Every step keeps the record store's canonical form. -/
def Obligations.StepKeepsStoreCanonical : Prop :=
  ∀ s t : State, s.cellsOk → step s = .next t → t.cellsOk

/-- Every step keeps the fault code set an ascending set of defined codes, and DE agreeing with R144. -/
def Obligations.StepKeepsDriveEnableRule : Prop :=
  ∀ s t : State, s.protectionOk → step s = .next t → t.protectionOk

/-- Every step keeps a trip source's code in the set exactly while the source is TRIPPED or RECOVERING. -/
def Obligations.StepKeepsTripStatesMatchingCodes : Prop :=
  ∀ s t : State, s.sourcesOk → step s = .next t → t.sourcesOk

/-- Every step keeps the seated demands of each claim list within the route's capacity. -/
def Obligations.StepKeepsSeatedDemandsInCapacity : Prop :=
  ∀ s t : State, s.seatsOk → step s = .next t → t.seatsOk

/-- Every step keeps one claim entry per claimant over both lists, the rank order, and a seated EXCLUSIVE entry
alone in its list. -/
def Obligations.StepKeepsClaimListsInOrder : Prop :=
  ∀ s t : State, s.claimsOk → step s = .next t → t.claimsOk

/-- Every step keeps the bounds of the account lists, one ACTIVE account and one RECEIVING account. -/
def Obligations.StepKeepsAccountListBounds : Prop :=
  ∀ s t : State, s.accountsOk → step s = .next t → t.accountsOk

/-- Every step keeps the transmit queue in its order with at most one STATUS waiting. -/
def Obligations.StepKeepsTransmitQueueInOrder : Prop :=
  ∀ s t : State, s.lineOk → step s = .next t → t.lineOk

/-- Every step keeps the own claim of an EXTRACTION station on its current route in E4 to E6 and absent in every
other step. With DE as its rule gives (R144), every step keeps the step timer of E1, E3, E5 and E6 reset to its full
time while the gate is closed, held under SUSPEND and running otherwise (R52, R67). -/
def Obligations.StepKeepsOwnClaimWithStep : Prop :=
  (∀ s t : State, s.sequenceOk → step s = .next t → t.sequenceOk)
  ∧ (∀ s t : State, s.sequenceOk → s.protectionOk → s.stepTimerOk → step s = .next t → t.stepTimerOk)


/-! ### Start (10) -/

/-- START loses every volatile state at once and keeps the nonvolatile memory and the waiting queue: R175 empties
the volatile state on leaving the hold, that it is lost at the entry already is read from the hold's outputs (log
23). A commit it cuts off leaves its slot unchanged or fully written (R23), a configuration block write it cuts off
may leave anything in the block (log 8). STARTING leaves the hold: the cause is kept, every volatile state empty,
and code 66 stands when the factory block is invalid. While the supply is known below the reset threshold the hold
goes on, and a START in the hold does not end that (R170, R175). Outside the hold STARTING does nothing (log 2). -/
def Obligations.StartLosesVolatileState : Prop :=
  ∀ s : State,
    (∀ cause, ∃ t, exec (.start cause) s = .next t
      ∧ t = { boot := { phase := .hold, cause := cause }, rs := { supplyBelow := s.rs.supplyBelow }
              nv := t.nv, free := t.free, pending := s.pending }
      ∧ t.nv.startCounter = s.nv.startCounter ∧ t.nv.factory = s.nv.factory
      ∧ (s.rs.commit = none → t.nv.slots = s.nv.slots)
      ∧ (∀ c, s.rs.commit = some c → t.nv.slots = s.nv.slots
          ∨ t.nv.slots = writeCells s.nv.slots (64 * c.slot) (c.bytes.take 64))
      ∧ (s.rs.blockWrite = none → t.nv.block = s.nv.block)
      ∧ t.outputs = ⟨false, false, false, false, false, false, false, false⟩)
    ∧ (s.phase = .hold → s.rs.supplyBelow = false → exec .starting s = .next
        { boot := { phase := .starting, cause := s.boot.cause, factoryOk := factoryValid s.nv.factory }
          pu := { codes := if factoryValid s.nv.factory then [] else [66] }
          nv := s.nv, free := s.free, pending := s.pending })
    ∧ (s.phase ≠ .hold ∨ s.rs.supplyBelow = true → exec .starting s = .next s)

/-- The fill of SVC in STARTING leads on (R175 steps 2 to 6). SVC on: SERVICE, LOCKED, with the working copy of the
block or of the defaults, speaking at the configured address or at 30. SVC off and an invalid block: CONFIG FAULT
with code 64, at address 30. Otherwise the configuration is in use, the continuous comparators begin at a run of 0,
the start counter is one higher, the last sequence is the highest of all records and the write position the slot
after it. JOINING begins with the next station sample, the first that the comparators count (R29), and lasts stale
count times status interval: its first STATUS carries the own hazard of that sample (R129), and a header-high that
needs 20 samples gives no back-off yet (R114). That JOINING begins at that sample is read from R29, R129 and R175
together (log 33), the own demand among the defaults from R181 (log 40). -/
def Obligations.StrapFillLeadsToThePhase : Prop :=
  (∀ s : State, s.phase = .starting → (s.filter .svc).fillDue = true →
    ∃ t, exec (.inputFilterFill .svc) s = .next t
      ∧ t.level .svc = (s.filter .svc).raw ∧ t.nv.slots = s.nv.slots ∧ t.nv.block = s.nv.block
      ∧ t.boot.cause = s.boot.cause ∧ t.li = s.li ∧ t.pt = s.pt ∧ t.ms = s.ms
      ∧ ((s.filter .svc).raw = true →
          t.phase = .service ∧ t.rs.lock = .locked ∧ t.nv.startCounter = s.nv.startCounter
          ∧ t.pu = s.pu
          ∧ t.rs.working = (if blockValid s.nv.block then s.nv.block.take 55
              else (defaultBlock.take 55).set 10 (if s.rs.working.getD 1 0 = 2 then 300 else 120))
          ∧ t.boot.address = (if blockValid s.nv.block then (s.nv.block.getD 0 0).toNat else 30))
      ∧ ((s.filter .svc).raw = false → blockValid s.nv.block = false →
          t.phase = .configFault ∧ 64 ∈ t.pu.codes ∧ t.boot.address = 30
          ∧ t.nv.startCounter = s.nv.startCounter ∧ t.rs.lastSequence = s.rs.lastSequence)
      ∧ ((s.filter .svc).raw = false → blockValid s.nv.block = true →
          t.phase = .starting ∧ t.boot.checked = true ∧ t.cfg = settingsOf s.nv.block
          ∧ t.boot.address = (s.nv.block.getD 0 0).toNat
          ∧ t.nv.startCounter = s.nv.startCounter + 1
          ∧ t.mu.cmp = (if t.cfg.role = .foam then
              let c := Comparator.arm
              { ambientWatch := c, ambientStop := c, headerHigh := c, headerRecovered := c, oxygenUnder := c
                oxygenHigh := c, chamberWatch := c, chamberStop := c, purgeNeeded := c }
            else { ambientWatch := Comparator.arm, ambientStop := Comparator.arm
                   headerHigh := Comparator.arm, headerRecovered := Comparator.arm })
          ∧ (∀ n < 1024, slotState s.nv.slots n ≠ .empty → slotSequence s.nv.slots n ≤ t.rs.lastSequence)
          ∧ ((t.rs.lastSequence = 0 ∧ t.rs.writePosition = 0
                ∧ ∀ n < 1024, slotState s.nv.slots n = .empty)
              ∨ ∃ n < 1024, slotState s.nv.slots n ≠ .empty ∧ slotSequence s.nv.slots n = t.rs.lastSequence
                ∧ t.rs.writePosition = (n + 1) % 1024)
          ∧ (t.rs.full = true ↔
              slotState s.nv.slots t.rs.writePosition = .held ∨ s.rs.fault = true)))
  ∧ (∀ (s : State) (x : Sample), s.phase = .starting → s.boot.checked = true →
      s.mu.cmp = continuousComparators s.isFoam → ∃ t, exec (.stationSample x) s = .next t
      ∧ t.boot = { s.boot with
          phase := .joining, joining := Timer.start (s.cfg.staleCount * s.cfg.statusInterval) }
      ∧ t.pt.timer = Timer.start s.cfg.statusInterval ∧ t.ms.backoff = false
      ∧ t.cfg = s.cfg ∧ t.nv = s.nv ∧ t.rs = s.rs
      ∧ (let c := t.mu.ch
        let foam := s.cfg.role = .foam
        let ha := if foam then c.c5 else c.c3
        t.pt.ownHazard =
          (if s.cfg.ambientStop ≤ ha ∨ (foam ∧ (s.cfg.chamberStop ≤ c.c4
              ∨ (s.cfg.oxygenTrip ≤ c.c3 ∧ s.cfg.chamberWatch ≤ c.c4))) then .stop
          else if s.cfg.ambientWatch ≤ ha ∨ (foam ∧ s.cfg.chamberWatch ≤ c.c4) then .watch
          else .noHazard)
        ∧ t.mu.cmp.headerHigh = ⟨true, if s.cfg.backoffLimit ≤ c.c2 then 1 else 0, false⟩)
      ∧ (∃ m ∈ t.li.queue, m.kind = .status ∧ m.payload = t.statusPayload
          ∧ (s.li.lastHazard.rank < t.pt.ownHazard.rank → m.cls = 1)))

/-- An input filter fills at its fifth equal raw level and takes that level without an edge (R34), and apart from SVC
in STARTING nothing but that filter and what follows its level changes. JOINING ends in RUN (R175): DE is
evaluated (R144), and a FOAM chamber leaves its pending INERTING for the entry of INERTING, or for HALTED when a
halt cause holds (R73, R78, R90). -/
def Obligations.FilterFillAndJoiningEnd : Prop :=
  (∀ (s : State) (p : Pin), s.phase ≠ .hold → (s.filter p).fillDue = true → (p ≠ .svc ∨ s.phase ≠ .starting) →
    ∃ t, exec (.inputFilterFill p) s = .next t
      ∧ t.filter p = { filled := true, level := (s.filter p).raw, raw := (s.filter p).raw, count := 0 }
      ∧ (∀ q, q ≠ p → t.filter q = s.filter q)
      ∧ t.boot = s.boot ∧ t.cfg = s.cfg ∧ t.nv = s.nv ∧ t.pt.entries = s.pt.entries
      ∧ t.ms.listA = s.ms.listA ∧ t.ms.listB = s.ms.listB ∧ t.ac.intake = s.ac.intake
      ∧ t.queueWork = s.queueWork ∧ t.pu.sources = s.pu.sources ∧ t.rs.lastSequence = s.rs.lastSequence
      ∧ (s.working = false → s.isExtraction = true → s.sq = {} → t = s.setFilter p (t.filter p)))
  ∧ (∀ s : State, s.phase = .joining → s.boot.joining.due = true → s.sq = {} →
    ∃ t, exec .joiningEnd s = .next t
      ∧ t.boot = { s.boot with phase := .run, joining := Timer.stopped }
      ∧ t.pu.de = (s.pu.codes.all fun c => !isFatal c && !s.cfg.trips c)
      ∧ t.pu.codes = s.pu.codes
      ∧ (s.isFoam = false → t.sq = {} ∧ t.ms = s.ms ∧ t.ch = s.ch)
      ∧ (s.isFoam = true →
          t.ch.pending = false ∧ t.ms.own = none
          ∧ (t.pu.de = true → s.pt.ownHazard ≠ .stop →
              t.ch.st = .inerting ∧ t.mu.window = Window.opened ∧ t.mu.cmp.inert = Comparator.arm)
          ∧ (t.pu.de = false ∨ s.pt.ownHazard = .stop → t.ch.st = .halted ∧ t.mu.window = {})))

/-! ### Measurement (02) -/

/-- A station sample is delivered channel by channel (R25): a value inside the channel's valid range of the role
as it is, any other value, and every value without a valid factory block, as 65,535. In SERVICE and CONFIG
FAULT the values are discarded (R26). It moves the eight input filters (R33, R34) and the comparators of R30 (R28).
An unfilled filter counts equal raw levels. A filled one counts levels that disagree with its level, up to five: an
edge that a command takes (R35) is then due and the level waits for it, any other edge changes the level at once (log
3). A comparator whose relation fails loses its run and its met state, one whose relation holds counts up to its hold
count, at which its command is due. The levels of hold 0, ambient and chamber, are met at the sample (R129, log 3).
Pulldown, inert and quiet are shown where the sample lets no oxygen high end and no source recover, since SQ may
arm or disarm them there in the same step. The first sample after the configuration check enters JOINING with the own
hazard and back-off (R175, log 33), no other moves phase, hazard or back-off. -/
def Obligations.SampleDeliversAndCounts : Prop :=
  ∀ (s : State) (x : Sample), s.phase ≠ .hold → ∃ t, exec (.stationSample x) s = .next t
    ∧ (let d := fun (top : Nat) (v : Half) =>
        if s.boot.factoryOk = true ∧ v.toNat ≤ top then v.toNat else 65535
      s.working = true ∨ s.phase = .starting →
        t.mu.ch.c0 = d 20000 x.ch0 ∧ t.mu.ch.c1 = d 65534 x.ch1 ∧ t.mu.ch.c2 = d 20000 x.ch2
        ∧ t.mu.ch.c3 = d (if s.isFoam then 250 else 1000) x.ch3
        ∧ t.mu.ch.c4 = d (if s.isFoam then 1000 else 65535) x.ch4
        ∧ t.mu.ch.c5 = d (if s.isFoam then 1000 else 65535) x.ch5
        ∧ t.mu.ch.c6 = d 65535 x.ch6 ∧ t.mu.ch.c7 = d 65535 x.ch7)
    ∧ (s.phase = .service ∨ s.phase = .configFault → t.mu.ch = s.mu.ch)
    ∧ (∀ q ∈ [(Pin.ilk, 0), (.str, 1), (.in2, 2), (.in3, 3), (.vaf, 4), (.vbf, 5), (.fcl, 6), (.svc, 7)],
        let raw := x.levels.getLsbD q.2
        let f := s.filter q.1
        let b := t.filter q.1
        let n := if f.filled then if raw = f.level then 0 else min 5 (f.count + 1)
          else if raw = f.raw ∨ f.count = 0 then min 5 (f.count + 1) else 1
        let taken : Bool := match q.1 with
          | .ilk | .in2 => true
          | .str | .fcl => raw
          | .in3 => raw || (s.isFoam && t.working)
          | .vaf | .vbf | .svc => false
        let five := f.filled = true ∧ 5 ≤ n
        b.filled = f.filled ∧ b.raw = raw
        ∧ (b.edgeDue raw = true ↔ five ∧ taken = true)
        ∧ (five → taken = false → b.level = raw ∧ b.count = 0)
        ∧ (¬(five ∧ taken = false) → b.level = f.level ∧ b.count = n))
    ∧ (s.working = true →
        let moved := fun (a b : Comparator) (hold : Nat) (rel : Bool) =>
          (a.armed = false → b = a)
          ∧ (a.armed = true → rel = false → b = ⟨true, 0, false⟩)
          ∧ (a.armed = true → rel = true →
              b.armed = true ∧ b.met = a.met ∧ b.run = if a.run < max 1 hold then a.run + 1 else a.run)
          ∧ (b.due hold = true ↔ a.armed = true ∧ rel = true ∧ a.met = false ∧ max 1 hold ≤ b.run)
        let level := fun (a b : Comparator) (rel : Bool) =>
          (a.armed = true → b.met = rel) ∧ (a.armed = false → b = a)
        let c := t.mu.ch
        let a := s.mu.cmp
        let b := t.mu.cmp
        let ha := if s.isFoam then c.c5 else c.c3
        moved a.headerHigh b.headerHigh 20 (decide (s.cfg.backoffLimit ≤ c.c2))
        ∧ moved a.headerRecovered b.headerRecovered 20 (decide (c.c2 ≤ s.cfg.backoffLimit - s.cfg.hysteresis))
        ∧ moved a.oxygenHigh b.oxygenHigh 0 (decide (s.cfg.oxygenTrip ≤ c.c3))
        ∧ moved a.oxygenUnder b.oxygenUnder 0 (decide (c.c3 < s.cfg.runLimit))
        ∧ moved a.purgeNeeded b.purgeNeeded 20 (decide (s.cfg.purgeLimit ≤ c.c4))
        ∧ moved a.purgeClear b.purgeClear 1000 (decide (c.c4 < s.cfg.chamberWatch))
        ∧ level a.ambientWatch b.ambientWatch (decide (s.cfg.ambientWatch ≤ ha))
        ∧ level a.ambientStop b.ambientStop (decide (s.cfg.ambientStop ≤ ha))
        ∧ level a.chamberWatch b.chamberWatch (decide (s.cfg.chamberWatch ≤ c.c4))
        ∧ level a.chamberStop b.chamberStop (decide (s.cfg.chamberStop ≤ c.c4))
        ∧ ((a.oxygenHigh.met = true → b.oxygenHigh.met = true) →
            s.cfg.recoveryTime ≠ 0 ∨ (∀ u, (t.source u).st = (s.source u).st) →
          moved a.pulldown b.pulldown 20 (decide (c.c0 ≤ s.cfg.pulldownTarget))
          ∧ moved a.inert b.inert (100 * s.cfg.inertHold) (decide (c.c3 ≤ s.cfg.runLimit))
          ∧ moved a.quiet b.quiet (100 * s.cfg.quietTime) (decide (c.c1 < s.cfg.quietFlow))))
    ∧ t.cfg = s.cfg
    ∧ (s.phase ≠ .starting ∨ s.boot.checked = false →
        t.boot = s.boot ∧ t.pt.ownHazard = s.pt.ownHazard ∧ t.ms.backoff = s.ms.backoff)

/-- A station sample at an EXTRACTION station in work credits the flow to the ACTIVE account alone (R41 to R43):
with valve A on to acc_A, with valve B on to acc_B, the amount by which the flow exceeds the zero in use,
saturating at 4,294,967,295, and nothing while both valves are off. A flow over range adds FLOW OVERRANGE to its
flags while a valve is on. No other account's working state or FLOW OVERRANGE changes. -/
def Obligations.SampleCreditsTheActiveAccount : Prop :=
  ∀ (s : State) (x : Sample), s.working = true → s.isFoam = false → ∃ t, exec (.stationSample x) s = .next t
    ∧ (let q := t.mu.ch.c1
      let d := q - s.mu.zero
      (t.queueWork = s.ac.queue.map fun e =>
        let w := QueueEntry.work e
        if e.st = .active then
          if s.valveA = true then (w.1, w.2.1, min 4294967295 (e.accA + d), w.2.2.2)
          else if s.valveB = true then (w.1, w.2.1, w.2.2.1, min 4294967295 (e.accB + d), w.2.2.2.2)
          else w
        else w)
      ∧ t.ac.queue.map (fun e => e.account.flags.flowOverrange) = s.ac.queue.map fun e =>
          e.account.flags.flowOverrange
            || (e.st == .active && (s.valveA || s.valveB) && decide (q = 65535)))

/-- A station sample in work, with oxygen high not met and a recovery time (the samples with either are left out),
at a FOAM station credits the flow to the RECEIVING account while a route valve is on, with FLOW OVERRANGE in its
foam flags when the flow is over range (R41, R42, R95), and moves the zero window (R37, R38): with both valves off
one more sample is summed, the first sample's CH0 kept and an over-range reading marked, with a valve on the
window begins anew. A closed window stands, and so does one of 32 samples until its own command completes it, which
is the model's choice (log 3). -/
def Obligations.SampleMovesWindowAndFoamAccount : Prop :=
  ∀ (s : State) (x : Sample), s.working = true → s.mu.cmp.oxygenHigh.met = false → s.cfg.recoveryTime ≠ 0 →
    ∃ t, exec (.stationSample x) s = .next t
      ∧ (s.mu.window.isOpen = true → s.mu.window.count < 32 → s.valveA = false → s.valveB = false →
          t.mu.window = ⟨true, s.mu.window.count + 1, s.mu.window.sum + t.mu.ch.c1,
            s.mu.window.overRange || t.mu.ch.c1 == 65535,
            if s.mu.window.count = 0 then t.mu.ch.c0 else s.mu.window.first⟩)
      ∧ (s.mu.window.isOpen = true → s.mu.window.count < 32 → (s.valveA = true ∨ s.valveB = true) →
          t.mu.window = ⟨true, 0, 0, false, 0⟩)
      ∧ (s.mu.window.isOpen = false ∨ 32 ≤ s.mu.window.count → t.mu.window = s.mu.window)
      ∧ (s.isFoam = true →
          let credited := fun e : ChamberEntry => e.st = .receiving ∧ (s.valveA = true ∨ s.valveB = true)
          t.ac.chamber.map (fun e => (e.account.key, e.st, e.carry))
            = s.ac.chamber.map (fun e => (e.account.key, e.st, e.carry))
          ∧ t.ac.chamber.map (·.accF) = (s.ac.chamber.map fun e =>
              if credited e then min 4294967295 (e.accF + (t.mu.ch.c1 - s.mu.zero)) else e.accF)
          ∧ t.ac.chamber.map (fun e => e.account.foam.map (·.flags.flowOverrange))
            = s.ac.chamber.map fun e => e.account.foam.map fun p =>
                p.flags.flowOverrange || decide (credited e ∧ t.mu.ch.c1 = 65535))

/-- A station sample moves each trip source by the table of R149 (R148, R150), where `present` is the condition of
its row of R31 and R147 at this sample. A recovery time of 0 ends a recovery at the sample. The discrepancy of a valve
counts the samples at which its output and feedback differ, at most 101 (log 3), and is present no longer once they
agree (R36). A NORMAL source whose run reaches its width stays NORMAL until TRIP_FILTER_MET, which is the model's
choice (log 3). -/
def Obligations.SampleMovesTripSources : Prop :=
  ∀ (s : State) (x : Sample) (u : TripSource), s.working = true → ∃ t, exec (.stationSample x) s = .next t
    ∧ (let c := t.mu.ch
      let foam := s.cfg.role = .foam
      let differs := fun (output feedback : Bool) (n : Nat) => if output = feedback then 0 else min 101 (n + 1)
      let present : Bool := match u with
        | .clampTimeout | .flowZero => false
        | .valveA => t.mu.presentA
        | .valveB => t.mu.presentB
        | .flowOver => decide (c.c1 = 65535)
        | .channelOver => decide (c.c0 = 65535 ∨ c.c2 = 65535 ∨ (foam ∧ c.c3 = 65535))
        | .circuitHigh => decide (s.cfg.role = .extraction ∧ s.cfg.circuitMaximum ≤ c.c0)
        | .headerSevere => decide (s.cfg.severeLimit ≤ c.c2)
        | .ambientStop => decide (s.cfg.ambientStop ≤ if foam then c.c5 else c.c3)
        | .oxygenHigh => decide (foam ∧ s.cfg.oxygenTrip ≤ c.c3)
        | .chamberStop => decide (foam ∧ s.cfg.chamberStop ≤ c.c4)
      let a := s.source u
      let b := t.source u
      let w := max 1 (s.cfg.source u).width
      t.mu.discA = differs s.valveA (t.level .vaf) s.mu.discA
      ∧ t.mu.discB = differs s.valveB (t.level .vbf) s.mu.discB
      ∧ t.mu.presentA = (s.mu.presentA && decide (100 < t.mu.discA))
      ∧ t.mu.presentB = (s.mu.presentB && decide (100 < t.mu.discB))
      ∧ (a.st = .normal → present = true →
        b.st = .normal ∧ b.run = if a.run < w then a.run + 1 else a.run)
      ∧ (a.st = .normal → present = false → b.st = .normal ∧ b.run = 0)
      ∧ (a.st = .tripped → present = true → b.st = .tripped)
      ∧ (a.st = .tripped → present = false → (s.cfg.source u).mode ≠ .auto → b.st = .tripped)
      ∧ (a.st = .tripped → present = false → (s.cfg.source u).mode = .auto →
          (s.cfg.recoveryTime ≠ 0 →
            b.st = .recovering ∧ b.recovery = Timer.start (1000 * s.cfg.recoveryTime))
          ∧ (s.cfg.recoveryTime = 0 → b.st = .normal ∧ u.code ∉ t.pu.codes))
      ∧ (a.st = .recovering → present = true → b.st = .tripped ∧ b.recovery = Timer.stopped)
      ∧ (a.st = .recovering → present = false →
          (s.cfg.recoveryTime ≠ 0 → b.st = .recovering ∧ b.recovery = a.recovery)
          ∧ (s.cfg.recoveryTime = 0 → b.st = .normal ∧ b.recovery = Timer.stopped ∧ u.code ∉ t.pu.codes))
      ∧ b.present = present)

/-- A completed zero window gives z = floor(S32 / 32) (R39): accepted when no sample was over range and z is at
most 2,000, else 0 and a report of source 14. At an EXTRACTION station the ACTIVE account gets the zero offset,
p0 and their flags, and E3 is entered with its timer from full, running while the gate is open (R55, R56). At a
FOAM station in INERTING the window of R78 has completed. -/
def Obligations.ZeroWindowCompletes : Prop :=
  ∀ s : State, s.working = true → s.mu.window.isOpen = true → 32 ≤ s.mu.window.count →
    ∃ t, exec .zeroWindowComplete s = .next t
      ∧ (let z := s.mu.window.sum / 32
        let ok := s.mu.window.overRange = false ∧ z ≤ 2000
        (ok → t.mu.zero = z ∧ t.mu.zeroRejected = false ∧ t.pu.sources = s.pu.sources)
        ∧ (¬ok → t.mu.zero = 0 ∧ t.mu.zeroRejected = true ∧ (t.source .flowZero).st = .tripped
            ∧ ((s.source .flowZero).st = .normal → 14 ∈ t.pu.codes))
        ∧ (s.isFoam = false → s.cfg.classifyTime ≠ 0 →
            t.sq.step = .e3
            ∧ t.sq.timer = (if t.gate then Timer.start (1000 * s.cfg.classifyTime)
                else Timer.reset (1000 * s.cfg.classifyTime))
            ∧ t.mu.window.isOpen = false
            ∧ t.queueWork = s.queueWork
            ∧ ∀ e ∈ t.ac.queue, e.st = .active →
                e.account.pierce = some s.mu.window.first
                ∧ (ok → e.account.zeroOffset = some z)
                ∧ (¬ok → e.account.zeroOffset = some 0 ∧ e.account.flags.zeroRejected = true)
                ∧ (s.mu.window.first < s.cfg.emptyThreshold → e.account.flags.emptyAtPierce = true))
        ∧ (s.isFoam = true → s.ch.pending = false → s.ch.st = .inerting → s.mu.cmp.inert.met = false →
            t.ch.zeroDone = true ∧ t.mu.window.isOpen = false))

/-! ### Protection (08) -/

/-- A discrepancy that has passed 100 samples is present from now on (R36). In JOINING and RUN the source of that
valve counts it as R148 gives: NORMAL with its filter met it trips and its code enters the set (log 38). A source
whose filter is met trips (R148, R149): its code enters the set, its run count returns to 0, and DE is evaluated. A
recovery timer that expires makes its source NORMAL and takes its code out of the set (R149, R150). -/
def Obligations.TripSourceEvents : Prop :=
  ∀ s : State,
    (∀ r : Route, s.phase ≠ .hold → s.discrepancyDue r = true → ∃ t, exec (.valveDiscrepancy r) s = .next t
      ∧ (match r with | .A => t.mu.presentA | .B => t.mu.presentB) = true
      ∧ (s.working = false → t.pu = s.pu)
      ∧ (s.working = true → (s.source (valveSource r)).st = .normal →
          ((s.cfg.source (valveSource r)).width ≤ (s.source (valveSource r)).run + 1 →
            (t.source (valveSource r)).st = .tripped ∧ (valveSource r).code ∈ t.pu.codes)
          ∧ ((s.source (valveSource r)).run + 1 < (s.cfg.source (valveSource r)).width →
            (t.source (valveSource r)).st = .normal
            ∧ (t.source (valveSource r)).run = (s.source (valveSource r)).run + 1)))
    ∧ (∀ x, s.filterMet x = true → ∃ t, exec (.tripFilterMet x) s = .next t
      ∧ (t.source x).st = .tripped ∧ (t.source x).run = 0 ∧ (∀ y, y ≠ x → t.source y = s.source y)
      ∧ (∀ c, c ∉ [6, 7, 25] → (c ∈ t.pu.codes ↔ c = x.code ∨ c ∈ s.pu.codes))
      ∧ t.pu.de = t.driveRule)
    ∧ (∀ x, (s.source x).st = .recovering → (s.source x).recovery.due = true →
        ∃ t, exec (.recoveryTimerExpiry x) s = .next t
      ∧ (t.source x).st = .normal ∧ (t.source x).run = 0 ∧ (t.source x).recovery = Timer.stopped
      ∧ (∀ y, y ≠ x → t.source y = s.source y)
      ∧ (∀ c, c ∉ [6, 7, 25] → (c ∈ t.pu.codes ↔ c ≠ x.code ∧ c ∈ s.pu.codes))
      ∧ t.pu.de = t.driveRule)

/-- A clear, by the gateway's FAULT CLEAR or by the button (R154), looks at the lowest code alone. A fatal code,
or one whose condition is present, stays. Any other leaves the set, a trip source's own state goes back to
NORMAL with its recovery timer stopped, and DE is evaluated. Codes 6, 7 and 25 are cleared alike. The DE that the
clear sets may lead SQ on to a step that raises one of them, so of these three the statement speaks where no such
step stands: outside an E3 without a classify time, a seated E4 and an own purge path. The button needs its rising
edge, the telegram an accepted frame from the gateway. -/
def Obligations.ClearRemovesLowestCode : Prop :=
  ∀ (s : State) (f : Frame) (c : Nat) (rest : List Nat), s.pu.codes = c :: rest →
    (let still := (s.isFoam = false → (s.sq.step = .e3 → s.cfg.classifyTime ≠ 0)
        ∧ (s.sq.step = .e4 → s.ownSeated = false)) ∧ (s.isFoam = true → s.ownPurgePath = false)
    let cleared := fun u t : State =>
      (64 ≤ c ∨ u.conditionPresent c = true → ∀ a, a ∉ [6, 7, 25] ∨ still →
        (a ∈ t.pu.codes ↔ a ∈ s.pu.codes))
      ∧ (c < 64 → u.conditionPresent c = false →
          (∀ a, a ∉ [6, 7, 25] ∨ still → (a ∈ t.pu.codes ↔ a ≠ c ∧ a ∈ s.pu.codes))
          ∧ (∀ x : TripSource, x.code = c → (t.source x).st = .normal ∧ (t.source x).recovery = Timer.stopped)
          ∧ t.pu.de = t.driveRule)
    (s.phase ≠ .hold → (s.filter .fcl).edgeDue true = true → ∃ t, exec .faultClearButton s = .next t
        ∧ cleared s t ∧ t.level .fcl = true)
    ∧ (s.takes .faultClear f = true → ∃ t, exec (.faultClear f) s = .next t
        ∧ cleared (s.noted f) t ∧ t.li.receiver = .ignoring))


/-! ### The extraction sequence (03) -/

/-- The interlock (R67, R68). Its falling edge closes the drive gate: in E1, E3, E5 and E6 the step timer is reset
to its full time, in E2 the zero window closes with its sum discarded, in E5 the pulldown comparator is disarmed, in
E6 p_start and the count are discarded, and in E4 to E6 a started starvation timer is reset (R69). Lists, repeats,
clamp hold, extraction clock and accounts' work are kept in every step, and claim, seat, route mark and detected
mark too, but that in E3 HCD still sets the detected mark (R56) and a seat found standing in E4 leads to E5 all the
same (R59). Its rising edge with DE set resumes the step timer in E1, E3, E5 and E6 (R52), which is to start it from
full where the closed gate has reset it, as it has in every state that O17 keeps, opens a new window in E2,
arms the comparator in E5, unless SUSPEND applies, and starts the starvation timer of an unseated claim. An E3
without a classify time ends then (log 15). At a FOAM station a MANIFOLD purge path goes to VENT with code 25 when
the gate closes (R93). -/
def Obligations.InterlockResetsAndRestartsTheStep : Prop :=
  ∀ s : State, s.phase ≠ .hold →
    (let seats := s.sq.step = .e4 ∧ s.ownSeated = true
    let limit := 1000 * s.cfg.starvationLimit
    let kept := fun t : State => t.queueWork = s.queueWork ∧ t.ms.listA = s.ms.listA ∧ t.ms.listB = s.ms.listB
      ∧ t.sq.used = s.sq.used ∧ t.sq.repeats = s.sq.repeats ∧ t.sq.clampHold = s.sq.clampHold
      ∧ t.sq.clock = s.sq.clock
    ((s.filter .ilk).edgeDue false = true → ∃ t, exec .ilkFall s = .next t ∧ t.level .ilk = false
      ∧ t.gate = false
      ∧ (s.isFoam = false → kept t
          ∧ t.sq.step = (if seats then .e5 else s.sq.step)
          ∧ (¬seats → t.ms = s.ms ∧ t.ac = s.ac ∧ t.pu = s.pu ∧ t.sq.routeB = s.sq.routeB
              ∧ t.sq.detected = (s.sq.detected || (s.sq.step == .e3 && s.level .in3))
              ∧ (s.sq.step = .e4 ∨ s.sq.step = .e5 ∨ s.sq.step = .e6 →
                  t.sq.starve = if s.ownSeated = true ∨ s.promoted = true then Timer.stopped
                    else if s.sq.starve.st = .stopped then s.sq.starve else Timer.reset limit))
          ∧ (s.sq.step = .e1 ∨ s.sq.step = .e3 ∨ s.sq.step = .e5 ∨ s.sq.step = .e6 →
              s.sq.timer.st ≠ .stopped → t.sq.timer = Timer.reset (s.cfg.stepTime s.sq.step))
          ∧ (s.sq.step = .e2 → t.mu.window = {})
          ∧ (s.sq.step = .e5 → t.mu.cmp.pulldown = Comparator.disarm)
          ∧ (s.sq.step = .e6 → t.sq.riseCount = 0 ∧ t.sq.pStart = none)
          ∧ (s.sq.step = .e7 → t.sq = s.sq))
      ∧ (s.isFoam = true → s.ch.pending = false → s.ownPurgePath = true →
          t.ch.st = .purging ∧ t.ch.path = .vent ∧ 25 ∈ t.pu.codes))
    ∧ ((s.filter .ilk).edgeDue true = true → ∃ t, exec .ilkRise s = .next t ∧ t.level .ilk = true
      ∧ (s.pu.de = true → s.pu.de = s.driveRule → s.isFoam = false → t.gate = true ∧ kept t
          ∧ (¬seats → ¬(s.sq.step = .e3 ∧ s.cfg.classifyTime = 0) →
              t.ms = s.ms ∧ t.ac = s.ac ∧ t.pu = s.pu ∧ t.sq.step = s.sq.step ∧ t.sq.routeB = s.sq.routeB
              ∧ t.sq.detected = (s.sq.detected || (s.sq.step == .e3 && s.level .in3)))
          ∧ (s.sq.step = .e1 → s.sq.timer.st = .held → t.sq.timer = Timer.start s.sq.timer.left)
          ∧ (s.sq.step = .e2 → t.mu.window = if s.mu.window.isOpen then s.mu.window else Window.opened)
          ∧ (s.sq.step = .e3 → s.cfg.classifyTime ≠ 0 → s.sq.timer.st = .held →
              t.sq.timer = Timer.start s.sq.timer.left)
          ∧ (s.sq.step = .e3 → s.cfg.classifyTime = 0 → s.sq.timer = Timer.reset 0 → t.sq.step = .e4)
          ∧ ((s.sq.step = .e1 ∨ (s.sq.step = .e3 ∧ s.cfg.classifyTime ≠ 0)
                ∨ ((s.sq.step = .e5 ∨ s.sq.step = .e6) ∧ s.suspendCause = false)) →
              s.sq.timer = Timer.reset (s.cfg.stepTime s.sq.step) →
              t.sq.timer = Timer.start (s.cfg.stepTime s.sq.step))
          ∧ (s.sq.step = .e4 ∨ s.sq.step = .e5 ∨ s.sq.step = .e6 → s.ownSeated = false →
              s.promoted = false → s.sq.starve.st ≠ .running → t.sq.starve = Timer.start limit)
          ∧ (s.sq.step = .e5 → s.suspendCause = false → s.sq.timer.st = .held →
              t.sq.timer = Timer.start s.sq.timer.left
              ∧ t.mu.cmp.pulldown = (if s.mu.cmp.pulldown.armed then s.mu.cmp.pulldown else Comparator.arm))
          ∧ (s.sq.step = .e5 ∨ s.sq.step = .e6 → s.suspendCause = true → s.sq.timer.st = .held →
              t.sq.timer = s.sq.timer)
          ∧ (s.sq.step = .e6 → s.suspendCause = false → s.sq.timer.st = .held →
              t.sq.timer = Timer.start s.sq.timer.left))))

/-- A start edge at a station that may take one (R15, R53) makes the oldest ANNOUNCED account ACTIVE, or a new
untagged one with the next key (R1), with empty accumulators and no abandon mark, and enters E1 with the clamp
time running, the repeat counter loaded, repeats used 0 and the detected mark clear. Any other start edge changes
its filter alone. RDY is on while a start edge would be taken and every input filter has filled (R16). -/
def Obligations.StartEdgeBeginsExtraction : Prop :=
  ∀ s : State, s.phase ≠ .hold →
    (s.isFoam = false →
      (s.outputs.o7 = true ↔ s.startPermitted = true ∧ ∀ p, (s.filter p).filled = true))
    ∧ (s.startPermitted = true ↔ s.cfg.role = .extraction ∧ s.phase = .run ∧ s.pu.de = true
        ∧ s.level .ilk = true ∧ (∀ e ∈ s.ac.queue, e.st ≠ .active) ∧ s.rs.supplyLow = false
        ∧ ((∃ e ∈ s.ac.queue, e.st = .announced) ∨ s.ac.queue.length < 4))
    ∧ ((s.filter .str).edgeDue true = true → s.startPermitted = true → ∃ t, exec .startEdge s = .next t
      ∧ t.level .str = true
      ∧ t.sq = { s.sq with
          step := .e1, repeats := s.cfg.repeatCount, used := 0, detected := false
          timer := Timer.start (1000 * s.cfg.clampTime) }
      ∧ (∃ e, t.ac.active = some e ∧ e.accA = 0 ∧ e.accB = 0 ∧ e.abandon = false
          ∧ (∀ a, (s.ac.queue.find? fun x => x.st == .announced) = some a →
              e.account = a.account ∧ t.ac.queue.length = s.ac.queue.length
              ∧ t.ac.nextNumber = s.ac.nextNumber)
          ∧ ((s.ac.queue.any fun x => x.st == .announced) = false →
              e.account = { key := ⟨s.cfg.address, s.nv.startCounter.toNat, s.ac.nextNumber⟩ }
              ∧ t.ac.queue.length = s.ac.queue.length + 1
              ∧ t.ac.nextNumber = if s.ac.nextNumber = 65535 then 1 else s.ac.nextNumber + 1))
      ∧ t.ms.own = s.ms.own ∧ t.ch = s.ch ∧ t.pu = s.pu ∧ t.rs = s.rs)
    ∧ ((s.filter .str).edgeDue true = true → s.startPermitted = false →
        exec .startEdge s = .next (s.setFilter .str (s.filter .str).toggle))

/-- A rising CLC in E1 sets the clamp hold and enters E2 with the extraction clock started and, while the gate is
open, the zero window (R53, R55). In any other step it changes its filter alone. -/
def Obligations.ClampClosedEntersZero : Prop :=
  ∀ s : State, s.phase ≠ .hold → s.isExtraction = true → (s.filter .in2).edgeDue true = true →
    (s.sq.step = .e1 → ∃ t, exec .clcRise s = .next t
      ∧ t.level .in2 = true
      ∧ t.sq = { s.sq with step := .e2, timer := Timer.stopped, clampHold := true, clock := some 0 }
      ∧ t.mu.window = (if s.gate then Window.opened else {})
      ∧ t.ac = s.ac ∧ t.ms = s.ms ∧ t.pu = s.pu ∧ t.ch = s.ch ∧ t.rs = s.rs)
    ∧ (s.sq.step ≠ .e1 → exec .clcRise s = .next (s.setFilter .in2 (s.filter .in2).toggle))

/-- The clamp fails: CLAMP_TIMEOUT in E1, or a falling CLC in E2 to E6 with the clamp hold set (R53, R54). The
ACTIVE account is marked abandoned, source 10 reports, and E7 is entered with the clamp hold clear, the own claim
released and the release time running (R71). A falling CLC in E0 changes its filter alone, and so it does in E1,
where the step timer is as the gate has it (R52). -/
def Obligations.ClampFailureAbandonsTheAccount : Prop :=
  ∀ s : State, s.isExtraction = true →
    (∀ c : Instr,
      (c = .clampTimeout ∧ s.stepDue .e1 = true)
        ∨ (c = .clcFall ∧ s.phase ≠ .hold ∧ (s.filter .in2).edgeDue false = true ∧ s.sq.clampHold = true
            ∧ s.sq.step ∈ [Step.e2, Step.e3, Step.e4, Step.e5, Step.e6]) →
      ∃ t, exec c s = .next t
        ∧ t.sq = s.releaseEntered
        ∧ t.ac = { s.ac with
            queue := s.ac.queue.map fun e => if e.st = .active then { e with abandon := true } else e }
        ∧ t.ms = { s.ms with own := none, claimHeard := t.ms.claimHeard }
        ∧ t.mu.window = {} ∧ t.mu.cmp.pulldown = Comparator.disarm
        ∧ (t.source .clampTimeout).st = .tripped
        ∧ (∀ x, x ≠ .clampTimeout → t.source x = s.source x)
        ∧ ((s.source .clampTimeout).st = .normal → ∀ c, c ∈ t.pu.codes ↔ c = 10 ∨ c ∈ s.pu.codes)
        ∧ ((s.source .clampTimeout).st ≠ .normal → t.pu.codes = s.pu.codes)
        ∧ (c = .clcFall → t.level .in2 = false) ∧ t.ch = s.ch ∧ t.rs = s.rs)
    ∧ (s.phase ≠ .hold → (s.filter .in2).edgeDue false = true →
        let u := s.setFilter .in2 (s.filter .in2).toggle
        (s.sq.step = .e0 → exec .clcFall s = .next u)
        ∧ (s.sq.step = .e1 → ∃ t, exec .clcFall s = .next t ∧ t.level .in2 = false
            ∧ t = { u with sq := { s.sq with timer := t.sq.timer } }
            ∧ (s.stepTimer = s.sq.timer → t = u)))


/-- Classification. HCD on in E3 sets the detected mark (R56). At the end of E3 the route follows from the declared
class and the mark: B for HC or a detection, else A. The account gets the route taken, CLASS MISMATCH with code 6
for HALO detected, DECLARED NOT DETECTED for HC undetected (R57). E4 is entered with an ORDINARY claim of that
route raised (R58), unseated until its CLAIM has been heard back (R107), and, with the gate open, the starvation
timer started (R69). -/
def Obligations.RoutingDecisionRaisesTheClaim : Prop :=
  ∀ s : State, s.isExtraction = true →
    (s.stepDue .e3 = true → ∀ a, s.ac.active = some a →
      let cls := a.account.refClass
      let det := s.sq.detected
      let r := if cls = .hc ∨ det = true then Route.B else .A
      let c : Claim := ⟨r, .ordinary, min s.cfg.ownDemand (s.cfg.cap r)⟩
      ∃ t, exec .classifyTimeExpiry s = .next t
        ∧ t.sq.step = .e4 ∧ t.currentRoute = r ∧ t.sq.detected = false ∧ t.sq.timer = Timer.stopped
        ∧ t.ms.own = some c ∧ t.ownSeated = false
        ∧ (s.li.queue.length ≤ 5 → t.waits .claim 31 (claimBytes .extraction c))
        ∧ t.ac.queue = (s.ac.queue.map fun e => if e.st = .active then
            { e with account := { e.account with
                routeTaken := some (if r = .B then .B else .A)
                flags := { e.account.flags with
                  classMismatch := e.account.flags.classMismatch || (cls == .halo && det)
                  declaredNotDetected := e.account.flags.declaredNotDetected || (cls == .hc && !det) } } }
            else e)
        ∧ (∀ n, n ∈ t.pu.codes ↔ n ∈ s.pu.codes ∨ (n = 6 ∧ cls = .halo ∧ det = true))
        ∧ (s.pu.de = s.driveRule → s.gate = true → s.promoted = false → s.sq.starve = Timer.stopped →
            t.sq.starve = Timer.start (1000 * s.cfg.starvationLimit))
        ∧ t.ms.listA = s.ms.listA ∧ t.ms.listB = s.ms.listB ∧ t.rs = s.rs)
    ∧ (s.phase ≠ .hold → (s.filter .in3).edgeDue true = true → ∃ t, exec .hcdRise s = .next t
        ∧ t.level .in3 = true
        ∧ (s.sq.step = .e3 → s.cfg.classifyTime ≠ 0 →
            t.sq.step = .e3 ∧ t.sq.detected = true ∧ t.ac = s.ac ∧ t.pu = s.pu)
        ∧ (s.sq.step ∈ [Step.e0, Step.e1, Step.e2, Step.e6, Step.e7]
              ∨ (s.sq.step = .e4 ∧ s.ownSeated = false) →
            t.sq.step = s.sq.step ∧ t.sq.routeB = s.sq.routeB ∧ t.ms = s.ms ∧ t.ac = s.ac ∧ t.pu = s.pu))

/-- Hydrocarbon seen on route A in E5 changes the route (R62): the current route is B, the account carries A_THEN_B
and MIXED ROUTING, code 7 stands, and the own claim is raised anew on route B in its class, unseated until its
CLAIM has been heard back (R107). A starvation timer that did not run starts from full with the gate open (R69).
The accumulators stay. On route B nothing changes. -/
def Obligations.HydrocarbonOnRouteAChangesTheRoute : Prop :=
  ∀ s : State, s.isExtraction = true → s.phase ≠ .hold → (s.filter .in3).edgeDue true = true →
    s.sq.step = .e5 →
    (s.sq.routeB = false → ∀ c, s.ms.own = some c →
      let c' : Claim := ⟨.B, c.cls, min s.cfg.ownDemand s.cfg.capB⟩
      ∃ t, exec .hcdRise s = .next t
        ∧ t.sq.step = .e5 ∧ t.currentRoute = .B ∧ t.ms.own = some c' ∧ t.ownSeated = false
        ∧ (s.li.queue.length ≤ 5 → t.waits .claim 31 (claimBytes .extraction c'))
        ∧ t.ac.queue = (s.ac.queue.map fun e => if e.st = .active then
            { e with account := { e.account with
                routeTaken := some .AthenB, flags := { e.account.flags with mixedRouting := true } } } else e)
        ∧ (∀ n, n ∈ t.pu.codes ↔ n = 7 ∨ n ∈ s.pu.codes)
        ∧ (s.pu.de = s.driveRule → s.gate = true → s.promoted = false → s.sq.starve.st ≠ .running →
            t.sq.starve = Timer.start (1000 * s.cfg.starvationLimit))
        ∧ t.ms.listA = s.ms.listA ∧ t.ms.listB = s.ms.listB)
    ∧ (s.sq.routeB = true → ∃ t, exec .hcdRise s = .next t
        ∧ t.sq.step = .e5 ∧ t.sq.routeB = true ∧ t.ms = s.ms ∧ t.ac = s.ac ∧ t.pu = s.pu)

/-- PULLDOWN_REACHED enters E6 with the hold time, started when the gate is open and no SUSPEND applies, the rise
count at 0 and p_start absent (R61, R63). While the hold time runs each sample is counted up to 100, and the
100th gives the value P_START takes (log 3). In E7 the first sample gives the final pressure (R71). PULLDOWN_TIMEOUT
flags the account and enters E7 (R61). A hold time that expires without p_start has no effect (log 14). -/
def Obligations.HoldCountsSamplesToThePressureStart : Prop :=
  ∀ s : State, s.isExtraction = true →
    (s.sq.step = .e5 → s.mu.cmp.pulldown.due 20 = true → ∃ t, exec .pulldownReached s = .next t
      ∧ t.sq = { s.sq with
          step := .e6, riseCount := 0, candidate := none, pStart := none, starve := t.sq.starve
          timer := if s.gate = true ∧ s.suspendCause = false then Timer.start (1000 * s.cfg.holdTime)
            else Timer.reset (1000 * s.cfg.holdTime) }
      ∧ t.mu.cmp.pulldown = Comparator.disarm ∧ t.ms = s.ms ∧ t.ac = s.ac ∧ t.pu = s.pu ∧ t.rs = s.rs)
    ∧ (s.stepDue .e5 = true → ∃ t, exec .pulldownTimeout s = .next t
      ∧ t.sq = s.releaseEntered ∧ t.ms.own = none ∧ t.pu = s.pu
      ∧ t.ac.queue = s.ac.queue.map fun e => if e.st = .active then
          { e with account := { e.account with
              flags := { e.account.flags with pulldownTimeout := true } } } else e)
    ∧ (s.stepDue .e6 = true → s.sq.pStart = none → exec .holdTimeExpiry s = .next s)
    ∧ (s.sq.step = .e6 → s.sq.riseCount = 100 → s.sq.pStart = none →
        exec .pStart s = .next { s with sq := { s.sq with pStart := s.sq.candidate } })
    ∧ (∀ x, s.working = true → s.mu.cmp.oxygenHigh.met = false → s.cfg.recoveryTime ≠ 0 →
        ∃ t, exec (.stationSample x) s = .next t
      ∧ (s.sq.step = .e6 → s.sq.timer.st = .running → s.sq.riseCount < 100 →
          t.sq = { s.sq with
            riseCount := s.sq.riseCount + 1
            candidate := if s.sq.riseCount = 99 then some t.mu.ch.c0 else s.sq.candidate })
      ∧ (s.sq.step = .e6 → s.sq.timer.st ≠ .running ∨ 100 ≤ s.sq.riseCount → t.sq = s.sq)
      ∧ (s.sq.step = .e7 → t.sq = { s.sq with
          finalPressure := some (match s.sq.finalPressure with | some p => p | none => t.mu.ch.c0) }))

/-- The rise test at the end of E6 (R64): it passes when neither value is over range and the rise is at or below
the rise limit. Passed: E7. Failed with a repeat left: one repeat is spent and E5 entered again with its time
from full. Failed with none left: OUTGASSING UNFINISHED and E7. The own claim is held into a repeat. -/
def Obligations.RiseTestEndsHold : Prop :=
  ∀ s : State, s.isExtraction = true → s.stepDue .e6 = true →
    ∀ p, s.sq.pStart = some p → ∃ t, exec .holdTimeExpiry s = .next t
      ∧ (let pass := p ≠ 65535 ∧ s.mu.ch.c0 ≠ 65535 ∧ s.mu.ch.c0 ≤ p + s.cfg.riseLimit
        (pass → t.sq = s.releaseEntered ∧ t.ms.own = none ∧ t.ac = s.ac ∧ t.pu = s.pu)
        ∧ (¬pass → s.sq.repeats = 0 → t.sq = s.releaseEntered ∧ t.ms.own = none ∧ t.pu = s.pu
            ∧ t.ac.queue = s.ac.queue.map fun e => if e.st = .active then
                { e with account := { e.account with
                    flags := { e.account.flags with outgassingUnfinished := true } } } else e)
        ∧ (¬pass → s.sq.repeats ≠ 0 →
            t.sq.step = .e5 ∧ t.sq.repeats = s.sq.repeats - 1 ∧ t.sq.used = s.sq.used + 1
            ∧ t.queueWork = s.queueWork
            ∧ (s.sq.routeB = true ∨ s.level .in3 = false →
                t.ms = s.ms ∧ t.ac = s.ac ∧ t.pu = s.pu ∧ t.sq.routeB = s.sq.routeB
                ∧ (s.gate = true ∧ s.suspendCause = false →
                    t.sq.timer = Timer.start (1000 * s.cfg.pulldownTime)
                    ∧ t.mu.cmp.pulldown = Comparator.arm)
                ∧ (s.gate = false ∨ s.suspendCause = true →
                    t.sq.timer = Timer.reset (1000 * s.cfg.pulldownTime)
                    ∧ t.mu.cmp.pulldown = Comparator.disarm))
            ∧ (s.sq.routeB = false → s.level .in3 = true →
                t.sq.routeB = true ∧ 7 ∈ t.pu.codes ∧ ∃ c, t.ms.own = some c ∧ c.route = .B)))

/-- The starvation timer expires (R70): the own claim is raised anew on the current route as PRIORITY, unseated until
its CLAIM has been heard back (R107), the account carries PROMOTED, and the timer stays stopped from then on (R69).
The step is kept. -/
def Obligations.StarvationRaisesPriorityClaim : Prop :=
  ∀ s : State, s.isExtraction = true → s.sq.starve.due = true →
    s.sq.step = .e4 ∨ s.sq.step = .e5 ∨ s.sq.step = .e6 → s.ac.active.isSome = true →
    let c : Claim := ⟨s.currentRoute, .priority, min s.cfg.ownDemand (s.cfg.cap s.currentRoute)⟩
    ∃ t, exec .starvationPromotion s = .next t
      ∧ t.ms.own = some c ∧ t.ownSeated = false
      ∧ (s.li.queue.length ≤ 5 → t.waits .claim 31 (claimBytes .extraction c))
      ∧ t.sq.step = s.sq.step ∧ t.sq.routeB = s.sq.routeB ∧ t.sq.starve = Timer.stopped
      ∧ t.ac.queue = (s.ac.queue.map fun e => if e.st = .active then
          { e with account := { e.account with flags := { e.account.flags with promoted := true } } } else e)
      ∧ t.ms.listA = s.ms.listA ∧ t.ms.listB = s.ms.listB ∧ t.pu = s.pu ∧ t.rs = s.rs

/-- E7 ends at its time or at a falling CLC (R72), and the ACTIVE account is finalized (R19): the masses round half
up to the decigram and stop at 65,535 (R44), the total comes from the saturating sum (R45), the yield is per
mille of the nameplate up to 1,500 (R46), the outcome is the first of the list of R20 that holds. The account is
DONE, the sequence at its start values, and the oldest DONE account is offered (R134). A final pressure that no
sample gave is left open (log 9). -/
def Obligations.ReleaseEndFinalizesTheAccount : Prop :=
  ∀ (s : State) (c : Instr), s.isExtraction = true →
    (c = .releaseTimeExpiry ∧ s.stepDue .e7 = true)
      ∨ (c = .clcFall ∧ s.sq.step = .e7 ∧ s.phase ≠ .hold ∧ (s.filter .in2).edgeDue false = true) →
    ∃ t, exec c s = .next t
      ∧ (∃ p, (∀ v, s.sq.finalPressure = some v → p = v) ∧
        let mass := fun a => min 65535 ((a + 5000) / 10000)
        t.ac.queue = s.ac.queue.map fun e => if e.st = .active then
          let total := mass (min 4294967295 (e.accA + e.accB))
          let y := e.account.nameplate.map fun n => min 1500 (total * 1000 / n)
          { account := { e.account with result := some {
              finalPressure := p, massA := mass e.accA, massB := mass e.accB, massTotal := total, yield := y
              cycles := 1 + s.sq.used, seconds := s.sq.seconds
              outcome := if e.abandon = true then .abandoned
                else if total < 20 ∧ e.account.flags.emptyAtPierce = true then .empty
                else match y with
                  | none => .unrated
                  | some v => if s.cfg.yieldLimit ≤ v then .complete else .short } }
            st := .done } else e)
      ∧ t.ac.active = none ∧ t.sq = {}
      ∧ (s.inRun = true → s.ac.offer.st = .idle → (s.peer s.cfg.downstream).presence = .live →
          ∀ e, t.ac.queue.find? (fun x => x.st == .done) = some e →
            t.ac.offer.st = .queued ∧ t.ac.offer.key = some e.account.key
            ∧ t.waits .offer s.cfg.downstream (e.account.body false))
      ∧ t.ms = s.ms ∧ t.ch = s.ch ∧ t.pu = s.pu ∧ t.rs = s.rs

/-! ### The manifold, the hazard and the purge (05, 06) -/

/-- Header high puts the back-off in force, and no route valve stays on but an own purge path (R114, R65, R76).
Header recovered ends it unless header high is met. The claim lists stay. -/
def Obligations.HeaderBackoffClosesTheRouteValves : Prop :=
  ∀ s : State, s.working = true →
    (s.mu.cmp.headerHigh.due 20 = true → ∃ t, exec .headerHigh s = .next t
      ∧ t.mu.cmp.headerHigh.met = true ∧ t.ms.backoff = true
      ∧ (t.ownPurgePath = false → t.valveA = false ∧ t.valveB = false)
      ∧ t.ms.listA = s.ms.listA ∧ t.ms.listB = s.ms.listB)
    ∧ (s.mu.cmp.headerRecovered.due 20 = true → ∃ t, exec .headerRecovered s = .next t
      ∧ t.mu.cmp.headerRecovered.met = true
      ∧ (s.mu.cmp.headerHigh.met = false → t.ms.backoff = false)
      ∧ (s.mu.cmp.headerHigh.met = true → t.ms.backoff = s.ms.backoff)
      ∧ t.ms.listA = s.ms.listA ∧ t.ms.listB = s.ms.listB)

/-- The own hazard follows the comparators (R129): STOP for ambient STOP, and at FOAM for chamber STOP or oxygen
high with the chamber watch level; else WATCH; else none. When the line hazard differs from before both claim
lists run (R131). At a FOAM station at work STOP, and oxygen high outside INERTING, halt the chamber (R90), and
oxygen high takes the shredder permit away (R81). -/
def Obligations.OwnHazardFollowsComparators : Prop :=
  ∀ s : State,
    (let listsRun := fun t : State => ∀ r, t.ms.list r =
        if t.lineHazard = s.lineHazard then s.ms.list r else t.seatedNow r (s.ms.list r)
    (s.working = true → s.hazardLevel ≠ s.pt.ownHazard → ∃ t, exec .ownHazardChange s = .next t
      ∧ (let c := s.mu.cmp
        let foam := s.isFoam = true
        t.pt.ownHazard =
          if c.ambientStop.met = true
              ∨ (foam ∧ (c.chamberStop.met = true ∨ (c.oxygenHigh.met = true ∧ c.chamberWatch.met = true)))
            then .stop
          else if c.ambientWatch.met = true ∨ (foam ∧ c.chamberWatch.met = true) then .watch else .noHazard)
      ∧ listsRun t
      ∧ (s.isFoam = true → s.ch.pending = false → s.ch.st ≠ .purging → t.pt.ownHazard = .stop →
          t.ch.st = .halted))
    ∧ (s.isFoam = true → s.mu.cmp.oxygenHigh.due 0 = true → ∃ t, exec .oxygenHigh s = .next t
      ∧ t.mu.cmp.oxygenHigh.met = true
      ∧ t.pt.ownHazard =
          { s with mu := { s.mu with cmp := { s.mu.cmp with
              oxygenHigh := { s.mu.cmp.oxygenHigh with met := true } } } }.hazardLevel
      ∧ listsRun t ∧ t.srp = false
      ∧ (s.ch.pending = false → s.ch.st ∈ [ChamberState.ready, ChamberState.entry, ChamberState.sweep] →
          s.mu.cmp.oxygenUnder.met = false → t.ch.st = .halted)))

/-- The purge handshake (R117, R119, R120). A PURGE CALL sets its caller's mark, closes the route valves, is
answered by a PURGE CLEAR, and turns an own call still waiting or on the manifold to VENT with code 25. While a
mark is held no claim is seated anew. A PURGE CLEAR takes its sender out of the awaited set. A heard call with
none awaited gives MANIFOLD, with the gate closed VENT and code 25. The valve of that path is then on, whatever
marks the caller holds (R51, R120, log 20). A PURGE END clears its sender's mark, and both lists run. The expiry of
the purge wait gives VENT with code 25. -/
def Obligations.PurgeHandshake : Prop :=
  ∀ s : State,
    (∀ f, s.takes .purgeCall f = true → ∃ t, exec (.purgeCall f) s = .next t
      ∧ (∀ a, a ∈ t.ms.marks ↔ a = f.src.toNat ∨ a ∈ s.ms.marks)
      ∧ ((∀ m ∈ s.li.queue, m.kind = .purgeClear → m.cls = 0 ∧ m.payload = []) →
          t.waits .purgeClear f.src.toNat [])
      ∧ (s.ms.call.st = .waiting ∨ s.ms.call.st = .manifold ∨ s.ownPurgePath = false →
          t.valveA = false ∧ t.valveB = false)
      ∧ (s.ms.call.st = .waiting ∨ s.ms.call.st = .manifold →
          t.ms.call.st = .vent ∧ t.ch.path = .vent ∧ 25 ∈ t.pu.codes)
      ∧ (s.ms.call.st = .idle ∨ s.ms.call.st = .vent → t.ms.call = s.ms.call)
      ∧ t.ms.listA = s.ms.listA
      ∧ t.ms.listB = if f.src.toNat ∉ s.ms.marks ∧ t.lineHazard = .stop
          then s.ms.listB.map fun e => if e.role = .extraction then { e with seated := false } else e
          else s.ms.listB)
    ∧ (∀ f, s.takes .purgeClear f = true → ∃ t, exec (.purgeClear f) s = .next t
      ∧ (let left := s.ms.call.awaited.filter (· ≠ f.src.toNat)
        (s.ms.call.st ≠ .waiting → t.ms.call = s.ms.call)
        ∧ (s.ms.call.st = .waiting → s.ms.call.heard = false ∨ left ≠ [] →
            t.ms.call = { s.ms.call with awaited := left })
        ∧ (s.ms.call.st = .waiting → s.ms.call.heard = true → left = [] →
            t.ms.call = ⟨.manifold, [], true, Timer.stopped⟩
            ∧ (s.gate = true → t.ch.path = .manifold
                ∧ (s.isFoam = true → s.ch.pending = false → s.ch.st = .purging → t.chamberValve = true))
            ∧ (s.gate = false → t.ch.path = .vent ∧ 25 ∈ t.pu.codes))))
    ∧ (∀ f, s.takes .purgeEnd f = true → ∃ t, exec (.purgeEnd f) s = .next t
      ∧ (∀ a, a ∈ t.ms.marks ↔ a ≠ f.src.toNat ∧ a ∈ s.ms.marks)
      ∧ ∀ r, t.ms.list r =
          if f.src.toNat ∈ s.ms.marks then t.seatedNow r (s.ms.list r) else s.ms.list r)
    ∧ (s.ms.call.st = .waiting → s.ms.call.wait.due = true → ∃ t, exec .purgeWaitExpiry s = .next t
      ∧ t.ms.call = ⟨.vent, [], s.ms.call.heard, Timer.stopped⟩ ∧ t.ch.path = .vent ∧ 25 ∈ t.pu.codes)

/-- A CLAIM replaces the claimant's entry in either list by a new unseated entry at the tail of its rank, with a run
on every list changed (R103), a RELEASE removes it with a run on its list (R104). A CLAIM whose route, class, demand
or role is out of range changes nothing but what PT notes. What a run does, here and wherever `seatedNow` stands
(R108): it changes seated marks alone. With the receiver not accepting, a purge mark held, or on route B a hazard, it
seats none, and STOP unseats the EXTRACTION entries of route B (R109, R110). Else S is the sum of the seated demands,
and the first unseated entry x that is not passed over for a demand above the capacity is taken. Behind an EXCLUSIVE
entry it stays. EXCLUSIVE, it is seated at the head with S at 0 and a demand within the capacity (R112). A demand that
fits is seated and the walk goes on, as a run on that list would. An ORDINARY x that does not fit ends the walk. A
PRIORITY one displaces seated ORDINARY entries from the tail, no more than it needs (R111). With every entry seated or
passed over the list stays. Displacement is shown where no ORDINARY entry stands ahead of x, as O14 keeps it. -/
def Obligations.ClaimAndReleaseRunTheSeating : Prop :=
  (∀ (s : State) (f : Frame),
    (s.takes .claim f = true → ∃ t, exec (.claim f) s = .next t
      ∧ (let role := byteAt f.payload 0
        let demand := half f.payload 3
        let ok := (role = 1 ∨ role = 2) ∧ 1 ≤ demand ∧ demand ≤ 1000
        let put := fun (r o : Route) (c : ClaimClass) => ok →
          routeOfCode (byteAt f.payload 1) = some r → ClaimClass.ofCode (byteAt f.payload 2) = some c →
            t.ms.list r = t.seatedNow r (joinList ⟨f.src.toNat, Role.ofCode role, c, demand, false⟩
              (leaveList f.src.toNat (s.ms.list r)))
            ∧ t.ms.list o = if inList f.src.toNat (s.ms.list o)
                then t.seatedNow o (leaveList f.src.toNat (s.ms.list o)) else s.ms.list o
        (∀ c, put .A .B c ∧ put .B .A c)
        ∧ (¬ok ∨ routeOfCode (byteAt f.payload 1) = none ∨ ClaimClass.ofCode (byteAt f.payload 2) = none →
            t = s.noted f)))
    ∧ (s.takes .release f = true → ∃ t, exec (.release f) s = .next t
      ∧ ∀ r, t.ms.list r = if inList f.src.toNat (s.ms.list r)
          then t.seatedNow r (leaveList f.src.toNat (s.ms.list r)) else s.ms.list r))
  ∧ (∀ (s : State) (r : Route) (l : List ClaimEntry),
    let run := s.seatedNow r
    let cap := match r with | .A => s.cfg.capA | .B => s.cfg.capB
    let unseat := fun e : ClaimEntry => { e with seated := false }
    let demands := fun es : List ClaimEntry => (es.map ClaimEntry.demand).sum
    let S := demands (l.filter fun e => e.seated)
    let ordinary := fun e : ClaimEntry => e.seated && e.cls == .ordinary
    let shut := s.accepting r = false ∨ s.ms.marks ≠ [] ∨ (r = .B ∧ s.lineHazard ≠ .noHazard)
    let passed := fun e : ClaimEntry => e.seated = true ∨ (e.cls ≠ .exclusive ∧ cap < e.demand)
    (run l).map unseat = l.map unseat
    ∧ (shut → run l = if r = .B ∧ s.lineHazard = .stop
        then l.map (fun e => if e.role = .extraction then unseat e else e) else l)
    ∧ (¬shut →
      ((∀ e ∈ l, passed e) → run l = l)
      ∧ ∀ pre x post, l = pre ++ x :: post → (∀ e ∈ pre, passed e) → x.seated = false →
        ((∃ e ∈ pre, e.cls = .exclusive) → run l = l)
        ∧ ((∀ e ∈ pre, e.cls ≠ .exclusive) →
          (x.cls = .exclusive →
            run l = pre ++ { x with seated := decide (pre = [] ∧ S = 0 ∧ x.demand ≤ cap) } :: post)
          ∧ (x.cls ≠ .exclusive → S + x.demand ≤ cap →
            run l = run (pre ++ { x with seated := true } :: post))
          ∧ (x.cls = .ordinary → x.demand ≤ cap → cap < S + x.demand → run l = l)
          ∧ (x.cls = .priority → x.demand ≤ cap → cap < S + x.demand → (∀ e ∈ pre, e.cls ≠ .ordinary) →
            ∃ kept gone, post = kept ++ gone
              ∧ (let left := S - demands (gone.filter ordinary)
                run l = pre ++ { x with seated := decide (left + x.demand ≤ cap) } ::
                  (kept ++ gone.map fun e => if ordinary e then unseat e else e)
                ∧ (cap < left + x.demand → ∀ e ∈ kept, ordinary e = false)
                ∧ (∀ g rest, gone = g :: rest →
                    ordinary g = true ∧ cap < S - demands (rest.filter ordinary) + x.demand))))))

/-! ### The foam chamber (04) -/

/-- INERTING ends in READY once both the zero window has completed and inert has been reached (R78, R80): the
PRIORITY claim of the chamber route is raised if no own claim is held, unseated until its CLAIM has been heard back
(R77, R107). Shown with an empty intake list and no halt cause, and with oxygen high met but under the run limit,
where the chamber comes back to INERTING within the step and a STATUS still tells of it (R74, log 12). HALTED ends
in INERTING when oxygen is under the run limit, DE set and the own hazard not STOP (R91), with its zero window open
and the comparator armed. -/
def Obligations.InertReachedLeadsToReady : Prop :=
  ∀ s : State, s.isFoam = true → s.ch.pending = false →
    (s.ch.st = .inerting → s.mu.cmp.inert.due (100 * s.cfg.inertHold) = true → s.pu.de = true →
      s.pt.ownHazard ≠ .stop → ∃ t, exec .inertReached s = .next t
      ∧ (s.ch.zeroDone = false → t.ch.st = .inerting ∧ t.mu.cmp.inert.met = true)
      ∧ (s.ch.zeroDone = true → s.mu.cmp.oxygenHigh.met = false → s.ac.intake = [] →
          t.ch.st = .ready ∧ t.mu.cmp.inert = Comparator.disarm
          ∧ t.ms.own = some (match s.ms.own with
              | some c => c
              | none => ⟨s.ch.cls.route, .priority, min s.cfg.ownDemand (s.cfg.cap s.ch.cls.route)⟩)
          ∧ (s.ms.own = none → t.ownSeated = false))
      ∧ (s.ch.zeroDone = true → s.mu.cmp.oxygenHigh.met = true → s.mu.cmp.oxygenUnder.met = true →
          t.ch.st = .inerting ∧ t.ch.zeroDone = false ∧ t.ms.own = none
          ∧ (s.working = true → t.waits .status 31 t.statusPayload)))
    ∧ (s.mu.cmp.oxygenUnder.due 0 = true → ∃ t, exec .oxygenUnderRunLimit s = .next t
      ∧ t.mu.cmp.oxygenUnder.met = true
      ∧ (s.ch.st = .halted → s.pu.de = true ∧ s.pt.ownHazard ≠ .stop →
          t.ch.st = .inerting ∧ t.ch.zeroDone = false ∧ t.mu.window = Window.opened
          ∧ t.mu.cmp.inert = Comparator.arm ∧ t.ms.own = none)
      ∧ (s.ch.st = .halted → s.pu.de = false ∨ s.pt.ownHazard = .stop → t.ch.st = .halted))

/-- Purge needed takes the chamber to PURGING from any other state (R92): the own claim is released, every open
account carries PURGED DURING WINDOW, the purge is called of all LIVE peers of a role (R116), and purge clear is
armed. Purge clear met ends it (R94): PURGE END, or the PURGE CALL not yet sent withdrawn (R165), and INERTING,
from which a halt cause leads on to HALTED (R90). R165 speaks of one waiting CALL: that of two none remains is the
model's choice (log 46). -/
def Obligations.PurgingBeginsAndEnds : Prop :=
  ∀ s : State, s.isFoam = true → s.ch.pending = false →
    (s.ch.st ≠ .purging → s.mu.cmp.purgeNeeded.due 20 = true → ∃ t, exec .purgeNeeded s = .next t
      ∧ t.ch.st = .purging ∧ t.ch.path = .awaiting ∧ t.ms.own = none
      ∧ t.ch.sweepWait = (if s.ch.st = .sweep then Timer.stopped else s.ch.sweepWait)
      ∧ t.chamberWork = (s.ac.chamber.map fun e =>
          (if e.st = .closed then e.account else
            { e.account with foam := e.account.foam.map fun p =>
                { p with flags := { p.flags with purgedDuringWindow := true } } }, e.st, e.accF))
      ∧ t.ms.call.st = .waiting ∧ t.ms.call.heard = false
      ∧ t.ms.call.wait = Timer.start (1000 * s.cfg.purgeWait)
      ∧ (∀ a, a ∈ t.ms.call.awaited ↔ a < 24 ∧ a ≠ s.boot.address ∧ (s.peer a).presence = .live
            ∧ (s.peer a).role ≠ .unconfigured)
      ∧ t.waits .purgeCall 31 [] ∧ t.mu.cmp.purgeClear = Comparator.arm
      ∧ t.valveA = false ∧ t.valveB = false)
    ∧ (s.ch.st = .purging → s.mu.cmp.purgeClear.due 1000 = true → ∃ t, exec .purgeClearMet s = .next t
      ∧ t.ch.path = .off ∧ t.ms.call = {} ∧ t.mu.cmp.purgeClear = Comparator.disarm
      ∧ ((s.li.queue.any fun m => m.kind == .purgeCall) = false → t.waits .purgeEnd 31 [])
      ∧ (∀ m ∈ t.li.queue, (s.li.queue.any fun m => m.kind == .purgeCall) = true → m.kind ≠ .purgeCall)
      ∧ (s.pu.de = true → s.pt.ownHazard ≠ .stop →
          t.ch.st = .inerting ∧ t.ch.zeroDone = false ∧ t.mu.window = Window.opened
          ∧ t.mu.cmp.inert = Comparator.arm ∧ t.ms.own = none)
      ∧ (s.pu.de = false ∨ s.pt.ownHazard = .stop → t.ch.st = .halted))

/-- QUIET closes the RECEIVING account, a carry-over expiry the account it names (R96 to R98). The account gets its
foam mass and PASSED (R21, R44), joins the commit queue at its tail, and the oldest account still open is
RECEIVING (R11). With a carry-over of 0 a further account may close in the same step (log 15). -/
def Obligations.WindowCloseFinalizesTheAccount : Prop :=
  ∀ s : State, s.isFoam = true → s.cfg.carryOver ≠ 0 →
    (let closes := fun (k : Key) (t : State) =>
      (t.chamberWork = (nameReceiving (s.ac.chamber.map fun e =>
          if e.account.key = k ∧ e.st ≠ .closed then
            { account := { e.account with
                foam := e.account.foam.map fun p =>
                  { p with mass := some (min 65535 ((e.accF + 5000) / 10000)) }
                handoff := some .passed }
              st := .closed }
          else e)).map fun e => (e.account, e.st, e.accF))
      ∧ t.rs.commitQueue = s.rs.commitQueue ++ [k] ∧ t.ac.intake = s.ac.intake ∧ t.nv = s.nv
    (s.mu.cmp.quiet.due (100 * s.cfg.quietTime) = true → ∀ e, s.ac.receiving = some e →
      ∃ t, exec .quiet s = .next t ∧ closes e.account.key t)
    ∧ (∀ k, (∃ e ∈ s.ac.chamber, e.account.key = k ∧ e.st ≠ .closed ∧ e.carry.due = true) →
      ∃ t, exec (.carryOverExpiry k) s = .next t ∧ closes k t))

/-- The door (R82 to R84). DRC falling in ENTRY stops the door timer and sets the door-open mark. DRC rising with
the mark set moves the intake head to the tail of the chamber list with its window open, starts the carry-over of
the newest open account before it (held while the valve is off), clears the mark, and an ENTRY passes to READY.
In READY a rising SRF under the conditions of R82 begins ENTRY with the door time. In ENTRY before the door has
opened a falling SRF, or the expiry of the door timer, leads back to READY, from which ENTRY may follow at once. -/
def Obligations.DoorCycleMovesTheCabinet : Prop :=
  ∀ s : State, s.isFoam = true → s.phase ≠ .hold → s.ch.pending = false →
    ((s.filter .in2).edgeDue false = true → ∃ t, exec .drcFall s = .next t
      ∧ (s.ch.st = .entry → s.ch.doorOpen = false →
          t.ch.doorOpen = true ∧ t.ch.door = Timer.stopped ∧ t.outputs.o0 = false)
      ∧ (s.ch.st ≠ .entry ∨ s.ch.doorOpen = true → t.ch.doorOpen = s.ch.doorOpen)
      ∧ t.ac.intake = s.ac.intake)
    ∧ ((s.filter .in2).edgeDue true = true → ∃ t, exec .drcRise s = .next t
      ∧ t.ch.doorOpen = false
      ∧ (s.ch.doorOpen = false → t.ac.intake = s.ac.intake)
      ∧ (s.ch.doorOpen = true → ∀ a rest, s.ac.intake = a :: rest →
          t.ac.intake = rest
          ∧ (s.cfg.carryOver ≠ 0 →
            t.chamberWork = s.chamberWork ++ [({ a with foam := some {
                station := s.cfg.address, route := s.ch.cls.route, mass := none
                flags := ⟨false, s.mu.zeroRejected, s.ch.st == .purging⟩ } },
              if (s.ac.chamber.any fun e => e.st != .closed) = true then .waiting else .receiving, 0)]
            ∧ ∀ e, s.ac.chamber.getLast? = some e → e.st ≠ .closed →
              ∃ x ∈ t.ac.chamber, x.account = e.account ∧ x.carry =
                if t.chamberValve = true then Timer.start (1000 * s.cfg.carryOver)
                else Timer.reset (1000 * s.cfg.carryOver))
          ∧ (s.ch.st = .entry → rest = [] → s.haltCause .ready = false → t.ch.st = .ready)))
    ∧ ((s.filter .in3).edgeDue (!s.level .in3) = true → ∃ t, exec .srfChange s = .next t
      ∧ t.level .in3 = !s.level .in3
      ∧ (s.ch.st = .entry → s.ch.doorOpen = false → s.level .in3 = true → s.haltCause .entry = false →
          (∀ c, s.headClass = some c → c = s.ch.cls) →
          t.ch.st = .ready ∧ t.ch.door = Timer.stopped ∧ t.outputs.o0 = false)
      ∧ (s.ch.st = .ready → s.level .in3 = false → s.srp = true → s.ch.doorOpen = false →
          s.ac.chamber.length < 3 → s.headClass = some s.ch.cls →
          s.ch.cls ≠ .hc ∨ s.lineHazard ≠ .stop →
          t.ch.st = .entry ∧ t.ch.door = Timer.start (1000 * s.cfg.doorTime)))
    ∧ (s.ch.st = .entry → s.ch.door.due = true → s.ch.doorOpen = false → s.haltCause .entry = false →
        s.ms.own.isSome = true → s.headClass = some s.ch.cls → ∃ t, exec .doorTimerExpiry s = .next t
      ∧ (s.entryConditions = true →
          t.ch.st = .entry ∧ t.ch.door = Timer.start (1000 * s.cfg.doorTime))
      ∧ (s.entryConditions = false → t.ch.st = .ready ∧ t.ch.door = Timer.stopped)
      ∧ t.ms.own = s.ms.own ∧ t.ac.intake = s.ac.intake)

/-- The sweep (R86, R87). The expiry of its timer changes the chamber class, releases the claim and enters INERTING.
The expiry of its wait releases the EXCLUSIVE claim, reports code 26, starts the retry time and enters READY with
a PRIORITY claim. When the retry time expires in READY and the conditions of SWEEP hold, the wait begins anew
with the EXCLUSIVE claim. A claim raised is unseated until its CLAIM has been heard back (R107). Whatever command
seats the EXCLUSIVE claim of a SWEEP that waits stops the wait and starts the sweep timer from full, running while the
route valve is on and held while it is off (R86). A peer's RELEASE is such a command. -/
def Obligations.SweepChangesTheChamberClass : Prop :=
  ∀ s : State, s.isFoam = true → s.ch.pending = false → s.pu.de = true → s.pu.de = s.driveRule →
    s.pt.ownHazard ≠ .stop →
    (let claim := fun cls => (⟨s.ch.cls.route, cls, min s.cfg.ownDemand (s.cfg.cap s.ch.cls.route)⟩ : Claim)
    (s.ch.st = .sweep → s.ch.sweep.due = true → ∃ t, exec .sweepTimerExpiry s = .next t
      ∧ t.ch.cls = s.ch.cls.other ∧ t.ch.st = .inerting ∧ t.ch.zeroDone = false ∧ t.ms.own = none
      ∧ t.ch.sweep = Timer.stopped ∧ t.mu.window = Window.opened ∧ t.mu.cmp.inert = Comparator.arm)
    ∧ (s.ch.st = .sweep → s.ch.sweepWait.due = true → s.mu.cmp.oxygenHigh.met = false →
        (∀ c, s.headClass = some c → c ≠ s.ch.cls) → ∃ t, exec .sweepWaitExpiry s = .next t
      ∧ t.ch.st = .ready ∧ t.ch.cls = s.ch.cls ∧ t.ch.sweepWait = Timer.stopped
      ∧ t.ch.sweepRetry = Timer.start (1000 * s.cfg.sweepRetry)
      ∧ (∀ n, n ∈ t.pu.codes ↔ n = 26 ∨ n ∈ s.pu.codes) ∧ t.ms.own = some (claim .priority)
      ∧ (s.ms.own.isSome = true → t.ownSeated = false)
      ∧ (s.li.queue.length ≤ 4 → t.waits .claim 31 (claimBytes .foam (claim .priority))
          ∧ (s.ms.own.isSome = true → t.waits .release 31 [])))
    ∧ (s.ch.sweepRetry.due = true → ∃ t, exec .sweepRetryExpiry s = .next t
      ∧ t.ch.sweepRetry = Timer.stopped
      ∧ (s.ch.st = .ready → s.headClass = some s.ch.cls.other → s.ac.chamber = [] →
          s.mu.cmp.oxygenHigh.met = false →
          t.ch.st = .sweep ∧ t.ch.sweepWait = Timer.start (1000 * s.cfg.sweepWait)
          ∧ t.ms.own = some (claim .exclusive) ∧ t.ownSeated = false
          ∧ (s.li.queue.length ≤ 4 → t.waits .claim 31 (claimBytes .foam (claim .exclusive)))))
    ∧ (s.ch.st = .sweep → s.ch.sweepWait.st ≠ .stopped → s.ownSeated = false →
      (let begun := fun t : State => t.ownSeated = true → t.ch.st = .sweep → t.ch.sweepWait = Timer.stopped
          ∧ t.ch.sweep = if t.valveA = true ∨ t.valveB = true then Timer.start (1000 * s.cfg.sweepTime)
              else Timer.reset (1000 * s.cfg.sweepTime)
      (∀ c t, exec c s = .next t → begun t)
      ∧ ∀ f, s.takes .release f = true → s.mu.cmp.oxygenHigh.met = false → ∃ t, exec (.release f) s = .next t
        ∧ t.ch.st = .sweep ∧ begun t)))

/-! ### Telegrams and peers (06, 09) -/

/-- Which telegrams act (R122, R125, R157, R158, R159). A telegram the receiver was not following does nothing (log
18), nor does one while the part's own goes on uncollided (log 42). In JOINING and RUN one for another address or
from a source above 23 is only over (from 32 on log 39), one with the station's own address as source raises code
67, which clears DE. CERTIFICATE, READ DATA, CHECK RESULT, CONFIG ANSWER, a kind code outside the table, and outside
SERVICE KEY, CONFIG WRITE and CONFIG COMMIT, are signs of life of their sender alone: its entry is LIVE with its age
from full, an ABSENT one anew. So is a telegram that R158 hands to PT alone: one whose length is not that of its kind,
a gateway kind from another address than the gateway's, and an OFFER while an ACCEPT or REFUSE waits or is sent.
Every other telegram of the table is handed to its block. -/
def Obligations.TelegramsRefreshTheirSender : Prop :=
  ∀ (s : State) (c : Instr) (f : Frame), c.telegram = some f → c.wf = true →
    (s.li.receiver ≠ .receiving ∨ s.li.transmitter ≠ none → exec c s = .next s)
    ∧ (s.li.hearing = true → s.working = true → f.dst.toNat ≠ s.boot.address → f.dst.toNat ≠ 31 →
        exec c s = .next s.endReception)
    ∧ (s.li.hearing = true → s.working = true → f.dst.toNat = s.boot.address ∨ f.dst.toNat = 31 →
        f.src.toNat = s.boot.address → ∃ t, exec c s = .next t
          ∧ 67 ∈ t.pu.codes ∧ t.pu.de = false ∧ t.pt.entries = s.pt.entries ∧ t.li.receiver = .ignoring)
    ∧ (s.li.hearing = true → s.working = true → f.src.toNat ≠ s.boot.address → 24 ≤ f.src.toNat →
        exec c s = .next s.endReception)
    ∧ (s.hearsFrom f = true →
        (c ∈ [.certificate f, .readData f, .checkResult f, .configAnswer f, .key f, .configWrite f,
              .configCommit f] ∨ (∃ k, c = .kindCodeNotInTable k f)) →
        exec c s = .next (s.noted f))
    ∧ (∀ k, c.kind = some k →
      (let lengths : List Nat := match k with
        | .status | .announce => [20]
        | .claim | .refuse => [5]
        | .release | .purgeCall | .purgeClear | .purgeEnd | .readNext | .faultClear | .configCommit => [0]
        | .closeAccount | .abandonAccount | .accept | .read | .collect | .checkRange => [4]
        | .offer | .certificate => [48]
        | .readData => [48, 4]
        | .checkResult => [7]
        | .key => [1]
        | .configWrite => [3]
        | .configAnswer => [6]
      let gateway := k ∈ [Kind.announce, .closeAccount, .abandonAccount, .read, .readNext, .collect, .checkRange,
        .faultClear, .key, .configWrite, .configCommit]
      let answers := ∃ m ∈ s.li.queue ++ s.li.transmitter.toList, m.kind = .accept ∨ m.kind = .refuse
      (s.takes k f = true ↔ s.hearsFrom f = true ∧ f.payload.length ∈ lengths
        ∧ (gateway → f.src.toNat = s.cfg.gateway) ∧ (k = .offer → ¬answers))
      ∧ (s.hearsFrom f = true → s.takes k f = false → exec c s = .next (s.noted f))))
    ∧ (s.pt.entries.length = 24 → s.hearsFrom f = true →
        (s.noted f).peer f.src.toNat =
          (let age := Timer.start (s.cfg.staleCount * s.cfg.statusInterval)
          if (s.peer f.src.toNat).presence = .absent then { presence := .live, age := age }
          else { s.peer f.src.toNat with presence := .live, age := age })
        ∧ (∀ b, b ≠ f.src.toNat → (s.noted f).peer b = s.peer b)
        ∧ (s.isExtraction = false → s.noted f =
            { s with li := { s.li with receiver := .ignoring }, pt := (s.noted f).pt }))

/-- A STATUS writes its sender's entry (R123) and compares the claim echo with the sender's claim entry (R106): no
claim leaves no entry, a claim leaves one of that route, class and demand. A sender not PURGING holds no purge
mark (R119). That no claim beside a role that may claim nothing leaves no entry too is the model's
reading (log 44). At an EXTRACTION station a changed intake space above 0 of the downstream peer brings every HELD
account back to DONE (R139). -/
def Obligations.StatusWritesThePeerEntry : Prop :=
  ∀ (s : State) (f : Frame), s.pt.entries.length = 24 → s.takes .status f = true →
    ∃ t, exec (.status f) s = .next t
      ∧ (let p := f.payload
        let a := f.src.toNat
        t.peer a = {
          presence := .live
          role := Role.ofCode (byteAt p 0), summary := some ⟨p.getD 1 0, p.getD 2 0, p.getD 3 0⟩
          hazard := Hazard.ofCode (byteAt p 4), intake := min 4 (byteAt p 6)
          receiverA := (byteAt p 7).testBit 0, receiverB := (byteAt p 7).testBit 1
          storeFull := (byteAt p 7).testBit 2, echo := echoOf p
          age := Timer.start (s.cfg.staleCount * s.cfg.statusInterval) }
        ∧ (∀ b, b ≠ a → t.peer b = s.peer b)
        ∧ (byteAt p 8 = 0 → ∀ r, inList a (t.ms.list r) = false)
        ∧ (∀ c, echoOf p = .claim c →
            ∃ e ∈ t.ms.list c.route, e.claimant = a ∧ e.cls = c.cls ∧ e.demand = c.demand)
        ∧ (∀ b, b ∈ t.ms.marks ↔ b ∈ s.ms.marks ∧ (b = a → byteAt p 2 = 21))
        ∧ (s.isExtraction = true → a = s.cfg.downstream → 0 < byteAt p 6 →
            min 4 (byteAt p 6) ≠ (s.peer a).intake →
            t.queueWork = s.queueWork.map fun w => if w.2.1 = .held then (w.1, .done, w.2.2.1, w.2.2.2.1,
              w.2.2.2.2.1, 0) else w))

/-- A LIVE entry whose age timer expires becomes STALE (R124): no intake space, no receivers, no claim, hazard STOP
for a FOAM peer and none for others, the other items kept. Its claim leaves the lists (R105), its mark is cleared
(R119), it is no longer awaited (R117), and a FOAM peer is reported with code 32. -/
def Obligations.StalePeerLosesItsClaims : Prop :=
  ∀ (s : State) (a : Fin 24), s.pt.entries.length = 24 → s.working = true →
    (s.peer a).presence = .live → (s.peer a).age.due = true →
    ∃ t, exec (.peerStale a) s = .next t
      ∧ t.peer a = { s.peer a with
          presence := .stale, intake := 0, receiverA := false, receiverB := false, echo := .noClaim
          hazard := if (s.peer a).role = .foam then .stop else .noHazard, age := Timer.stopped }
      ∧ (∀ b, b ≠ a.val → t.peer b = s.peer b)
      ∧ (∀ r, inList a (t.ms.list r) = false)
      ∧ (∀ b, b ∈ t.ms.marks ↔ b ≠ a.val ∧ b ∈ s.ms.marks)
      ∧ (s.ms.call.st = .waiting → a.val ∉ t.ms.call.awaited)
      ∧ ((s.peer a).role = .foam → 32 ∈ t.pu.codes)

/-- The status timers. In JOINING and RUN the expiry sends a STATUS of the items as they stand and starts the timer
again (R127). Its twenty bytes are those of R126 and R179, with the step or chamber state, the suspended mark or purge
path (R49, R74) and the intake space (R12) in RUN, and a line hazard that is the highest of the own one and those of
the LIVE and STALE entries (R130). In SERVICE and CONFIG FAULT one goes every 500 ms with role UNCONFIGURED and that
phase (R175, R176). After 30 s without a KEY, CONFIG WRITE or CONFIG COMMIT the lock is LOCKED and the working copy
reloaded (R176), over an invalid block from the defaults, with the own demand of the role held before (R181, log
40). -/
def Obligations.StatusAndIdleTimers : Prop :=
  ∀ s : State,
    (let level : Hazard → Byte := fun h => match h with | .noHazard => 0 | .watch => 1 | .stop => 2
    let tail : List Byte := [BitVec.ofNat 8 (s.pu.codes.headD 0),
      match s.boot.cause with | .power => 1 | .supply => 2 | .pin => 3,
      s.nv.startCounter, BitVec.ofNat 8 s.pu.codes.length] ++ be32 s.rs.lastSequence
    let run := s.phase = .run
    let foam := s.cfg.role = .foam
    let suspended := s.sq.step ∈ [Step.e4, Step.e5, Step.e6]
      ∧ (s.ownSeated = false ∨ s.ms.backoff = true ∨ s.ms.marks ≠ [])
    let bytes : List Byte :=
      [match s.cfg.role with
        | .unconfigured => 0 | .extraction => 1 | .foam => 2 | .condenser => 3 | .gateway => 4,
       if run then 1 else 0,
       if ¬run then 255
        else if foam then match s.ch.st with
          | .inerting => 16 | .ready => 17 | .entry => 18 | .sweep => 19 | .halted => 20 | .purging => 21
        else match s.sq.step with
          | .e0 => 0 | .e1 => 1 | .e2 => 2 | .e3 => 3 | .e4 => 4 | .e5 => 5 | .e6 => 6 | .e7 => 7,
       if ¬run then 0
        else if foam then if s.ch.st = .purging then match s.ch.path with
            | .off => 0 | .awaiting => 1 | .manifold => 2 | .vent => 3 else 0
        else if suspended then 128 else 0,
       level s.pt.ownHazard, level s.lineHazard,
       if run ∧ foam ∧ s.rs.full = false then BitVec.ofNat 8 (4 - s.ac.intake.length) else 0,
       (if s.rs.full then 4 else 0) + (if s.pu.de then 8 else 0) + (if s.rs.supplyLow then 16 else 0)]
      ++ (match s.ms.own with
        | none => [0, 0, 0, 0]
        | some c => [match c.route with | .A => 1 | .B => 2,
            match c.cls with | .ordinary => 0 | .priority => 1 | .exclusive => 2,
            BitVec.ofNat 8 (c.demand / 256), BitVec.ofNat 8 c.demand])
      ++ tail
    let counted := fun e : Peer => e.presence ≠ .absent
    (s.pt.ownHazard.rank ≤ s.lineHazard.rank
      ∧ (∀ e ∈ s.pt.entries, counted e → e.hazard.rank ≤ s.lineHazard.rank)
      ∧ (s.lineHazard = s.pt.ownHazard ∨ ∃ e ∈ s.pt.entries, counted e ∧ e.hazard = s.lineHazard))
    ∧ (s.working = true → s.statusPayload = bytes)
    ∧ (s.working = true → s.pt.timer.due = true → ∃ t, exec .statusTimerExpiry s = .next t
      ∧ t.waits .status 31 bytes ∧ t.pt.timer = Timer.start s.cfg.statusInterval
      ∧ t.li.lastHazard = s.pt.ownHazard ∧ t = { s with li := t.li, pt := { s.pt with timer := t.pt.timer } })
    ∧ (s.phase = .service ∨ s.phase = .configFault → s.rs.statusTimer.due = true →
        ∃ t, exec .serviceStatusExpiry s = .next t
      ∧ t.waits .status 31 ([0, if s.phase = .service then 2 else 3, 255, 0, 0, 0, 0, 0, 0, 0, 0, 0] ++ tail)
      ∧ t = { s with li := t.li, rs := { s.rs with statusTimer := Timer.start 500 } })
    ∧ (s.rs.idle.due = true → exec .serviceIdleTimerExpiry s = .next { s with rs := { s.rs with
        lock := .locked, idle := Timer.stopped
        working := if blockValid s.nv.block = true then s.nv.block.take 55
          else (defaultBlock.take 55).set 10 (if s.rs.working.getD 1 0 = 2 then 300 else 120) } }))

/-- The line and the transmitter (R156, R157, R160, R161). A recessive line is idle and the receiver hunts, a start
bit makes it busy. A run of characters that is no valid telegram is ignored until the next idle. The head telegram
is attempted 8 times its class plus its backoff bit times after idle, never in STARTING or with code 67. A
collision counts, sets the backoff, returns the telegram to its place, and the 16th reports code 33. A STATUS is not
returned while another waits (R164). What the same step enqueues after it may merge with a returned STATUS or take the
place of a returned CLAIM, RELEASE or class 3 telegram, so these are shown where it enqueues nothing. Bit times and
the receiver's states are the model's reading (logs 17, 18, 42). How a telegram of the station enters the queue: in
the class of its kind (R167), a STATUS in the place of a waiting one, whose class 1 it keeps (R164), a PURGE CLEAR not
beside one to the same caller, a PURGE END not at all while the own CALL waits, which it removes (R165, of two both,
log 46), any other at its place when 8 do not wait, or 7 with one in the transmitter (R163). A full queue drops a new
class 3 telegram, else the class 3 one enqueued last, else for a CLAIM or RELEASE all waiting ones, else all of them
but the last (R166). -/
def Obligations.TransmitterFollowsTheLine : Prop :=
  ∀ s : State,
    (s.phase ≠ .hold → s.li.transmitter = none →
      exec .lineIdle s = .next { s with li := { s.li with idle := true, receiver := .hunting } })
    ∧ (s.phase ≠ .hold → s.li.idle = true →
      exec .lineBusy s = .next { s with li := { s.li with idle := false, receiver := .receiving } })
    ∧ (∀ r, s.phase ≠ .hold → s.li.receiver = .receiving → s.li.transmitter = none →
      (byteAt r.bytes 0 ≠ 0xC9 ∨ 48 < byteAt r.bytes 4 ∨ r.stopDominant = true ∨ r.cutShort = true
        ∨ r.bytes.length < byteAt r.bytes 4 + 7
        ∨ half r.bytes (byteAt r.bytes 4 + 5)
            ≠ checkWord ((r.bytes.drop 1).take (byteAt r.bytes 4 + 4))) →
      exec (.telegramDiscard r) s = .next { s with li := { s.li with receiver := .ignoring } })
    ∧ (∀ n m q, s.li.queue = m :: q →
      (s.li.idle = true → s.li.transmitter = none → s.phase ≠ .hold → s.phase ≠ .starting →
        67 ∉ s.pu.codes → 8 * m.cls + m.backoff ≤ n →
        exec (.transmitStart n) s = .next { s with li := { s.li with
          idle := false, receiver := .receiving, queue := q, transmitter := some m } })
      ∧ (s.li.idle = false ∨ s.li.transmitter ≠ none ∨ s.phase = .starting ∨ 67 ∈ s.pu.codes
          ∨ n < 8 * m.cls + m.backoff → exec (.transmitStart n) s = .next s))
    ∧ (∀ m, s.li.transmitter = some m → ∃ t, exec .collision s = .next t
      ∧ (let k := min 255 (m.collisions + 1)
        t.li.transmitter = none
        ∧ (m.kind ≠ .status → m.kind ≠ .claim → m.kind ≠ .release → m.cls ≠ 3 →
            { m with collisions := k, backoff := 2 * (1 + (s.boot.address + k) % 8) } ∈ t.li.queue)
        ∧ (t.li.moment = s.li.moment →
          (let twice := m.kind = .status ∧ ∃ u ∈ s.li.queue, u.kind = .status
          (twice → t.li.queue = s.li.queue)
          ∧ (¬twice → ({ m with collisions := k, backoff := 2 * (1 + (s.boot.address + k) % 8) } : Telegram).placedIn
              s.li.queue t.li.queue)))
        ∧ (k = 16 → 33 ∈ t.pu.codes) ∧ t.pt.entries = s.pt.entries ∧ t.ms.marks = s.ms.marks))
    ∧ (∀ k dst p, s.send k dst p = { s with li := s.li.enqueue { kind := k, dst := dst, payload := p, cls :=
        if k ∈ [Kind.purgeCall, .purgeClear, .purgeEnd] then 0
        else if k ∈ [Kind.accept, .refuse] then 1
        else if k ∈ [Kind.certificate, .readData, .checkResult, .configAnswer] then 3 else 2 } })
    ∧ (∀ m : Telegram,
      (let t := s.li.enqueue m
      let new := { m with moment := s.li.moment }
      let own := fun u : Telegram => u.kind = .claim ∨ u.kind = .release
      let sameClear := m.kind = .purgeClear ∧ ∃ u ∈ s.li.queue, u.kind = .purgeClear ∧ u.dst = m.dst
      let unsentCall := m.kind = .purgeEnd ∧ ∃ u ∈ s.li.queue, u.kind = .purgeCall
      let full := (if s.li.transmitter = none then 8 else 7) ≤ s.li.queue.length
      let plain := (m.kind = .status → ∀ u ∈ s.li.queue, u.kind ≠ .status) ∧ ¬sameClear ∧ ¬unsentCall
      let third := ∃ u ∈ s.li.queue, u.cls = 3
      t = { s.li with queue := t.queue, moment := s.li.moment + 1 }
      ∧ (m.kind = .status → ∀ old, s.li.queue.find? (fun u => u.kind == .status) = some old →
          ({ m with
              cls := if old.cls = 1 then 1 else m.cls
              moment := old.moment, collisions := old.collisions, backoff := old.backoff } : Telegram).placedIn
            (s.li.queue.filter fun u => u.kind != .status) t.queue)
      ∧ (sameClear → t.queue = s.li.queue)
      ∧ (unsentCall → t.queue = s.li.queue.filter fun u => u.kind != .purgeCall)
      ∧ (plain → ¬full → new.placedIn s.li.queue t.queue)
      ∧ (plain → full → m.cls = 3 → t.queue = s.li.queue)
      ∧ (plain → full → m.cls ≠ 3 → third → ∃ u ∈ s.li.queue, u.cls = 3
          ∧ (∀ v ∈ s.li.queue, v.cls = 3 → v.moment ≤ u.moment)
          ∧ new.placedIn (s.li.queue.filter fun v => !(v.cls == 3 && v.moment == u.moment)) t.queue)
      ∧ (plain → full → m.cls ≠ 3 → ¬third → own m →
          new.placedIn (s.li.queue.filter fun v => decide (¬own v)) t.queue)
      ∧ (plain → full → m.cls ≠ 3 → ¬third → ¬own m → ∀ u ∈ s.li.queue, own u →
          (∀ v ∈ s.li.queue, own v → v.moment ≤ u.moment) →
          new.placedIn (s.li.queue.filter fun v => decide (own v → v.moment = u.moment)) t.queue)))

/-- A telegram sent whole empties the transmitter, ends code 33 and is heard by its own station (R101, R135, R159,
R162). The own CLAIM enters the list with a run, counts as heard when no later CLAIM waits (R107, log 27), and at
an EXTRACTION station in E4 a seat leads to E5 (R59). Where hydrocarbon then changes the route, the starvation
timer of the claim raised anew starts from full, whatever the seat's own spell had left (R62, R69, R70). The own
RELEASE leaves the lists. The own PURGE CALL is heard, with none awaited it gives the outcome (R117). An OFFER
of an account still DONE starts the answer time of 250 ms. One whose account has left the queue ends the offer, and
the next DONE account is offered where R134 allows. A CLAIM also leaves the list of the other route (R103). -/
def Obligations.OwnTelegramIsHeardWhenSent : Prop :=
  ∀ (s : State) (m : Telegram), s.li.transmitter = some m →
    ∃ t, exec .transmitComplete s = .next t
      ∧ t.li.transmitter = none ∧ t.li.receiver = .ignoring ∧ 33 ∉ t.pu.codes
      ∧ (s.working = true →
        (m.kind = .claim → ∀ role c, claimPayload m.payload = some (role, c) →
          t.ms.list c.route = t.seatedNow c.route (joinList ⟨s.boot.address, role, c.cls, c.demand, false⟩
            (leaveList s.boot.address (s.ms.list c.route)))
          ∧ (∀ o, o ≠ c.route → t.ms.list o = if inList s.boot.address (s.ms.list o) = true
              then t.seatedNow o (leaveList s.boot.address (s.ms.list o)) else s.ms.list o)
          ∧ (s.isExtraction = true → s.sq.step = .e4 → s.sq.routeB = true ∨ s.level .in3 = false →
              t.ms.own = s.ms.own
              ∧ t.ms.claimHeard = (s.li.queue.all fun u => u.kind != .claim)
              ∧ t.sq.step = if t.ownSeated = true then .e5 else .e4)
          ∧ (s.isExtraction = true → s.sq.step = .e4 → s.sq.routeB = false → s.level .in3 = true →
              s.pu.de = s.driveRule → s.gate = true → s.promoted = false → t.sq.step = .e5 →
              t.currentRoute = .B ∧ t.ownSeated = false
              ∧ t.sq.starve = Timer.start (1000 * s.cfg.starvationLimit)))
        ∧ (m.kind = .release → ∀ r, t.ms.list r = if inList s.boot.address (s.ms.list r) = true
            then t.seatedNow r (leaveList s.boot.address (s.ms.list r)) else s.ms.list r)
        ∧ (m.kind = .purgeCall → s.ms.call.st = .waiting →
            (s.ms.call.awaited ≠ [] → t.ms.call = { s.ms.call with heard := true })
            ∧ (s.ms.call.awaited = [] → t.ms.call = ⟨.manifold, [], true, Timer.stopped⟩))
        ∧ (m.kind = .offer → s.ac.offer.st = .queued → ∀ k, s.ac.offer.key = some k →
            (∃ e ∈ s.ac.queue, e.st = .done ∧ e.account.key = k) →
            t.ac.offer = { s.ac.offer with st := .awaiting, answer := Timer.start 250 })
        ∧ (m.kind = .offer → s.ac.offer.st = .queued →
            (∀ e ∈ s.ac.queue, e.st = .done → s.ac.offer.key ≠ some e.account.key) →
            (let live := s.isExtraction = true ∧ s.inRun = true ∧ (s.peer s.cfg.downstream).presence = .live
            let next := s.ac.queue.find? fun e => e.st == .done
            (∀ e, next = some e → live →
              t.ac.offer = { s.ac.offer with st := .queued, key := some e.account.key }
              ∧ t.waits .offer s.cfg.downstream (e.account.body false))
            ∧ (next = none ∨ ¬live → t.ac.offer = { s.ac.offer with st := .idle, key := none })))
        ∧ (m.kind ≠ .claim → m.kind ≠ .release → t.ms.listA = s.ms.listA ∧ t.ms.listB = s.ms.listB))

/-! ### Accounts and the exchange (01, 07) -/

/-- ANNOUNCE by the first case of R14 that applies: an empty or ill-formed tag is ignored, the tag of an ANNOUNCED
account updates its declared fields and nothing else of it, any other account with the tag gives code 2, a queue of
fewer than 4 takes a new ANNOUNCED account with the next key, a full queue gives code 1. Where no case says so no
account's declared fields change, the queue keeps its accounts and no code is raised (6 and 7 apart, which SQ may
raise in the same step from a state that stands before a step of its own). DE stays as it is. -/
def Obligations.AnnounceTakesTheFirstCase : Prop :=
  ∀ (s : State) (f : Frame), s.isExtraction = true → s.takes .announce f = true →
    ∃ t, exec (.announce f) s = .next t
      ∧ (let u := s.noted f
        let p := f.payload
        let tag := tagChars (p.take 16)
        let good := tag ≠ [] ∧ tagWellFormed (p.take 16) = true
        let mine := fun e : QueueEntry => e.account.tag = some tag
        let idle := fun l : List QueueEntry => l.filter fun e => e.st != .active
        let said := fun l : List QueueEntry => l.map fun e =>
          (e.account.tag, e.account.refClass, e.account.foamClass, e.account.nameplate)
        let declared := fun a : Account => { a with
          tag := some tag
          refClass := GasClass.ofCode (byteAt p 16), foamClass := GasClass.ofCode (byteAt p 17)
          nameplate := if half p 18 = 0 then none else some (half p 18) }
        let update := fun e : QueueEntry =>
          if mine e ∧ e.st = .announced then { e with account := declared e.account } else e
        let ignored := t.queueWork = u.queueWork ∧ idle t.ac.queue = idle u.ac.queue
          ∧ said t.ac.queue = said u.ac.queue ∧ t.ac.nextNumber = s.ac.nextNumber
        let raises := fun new : List Nat =>
          ∀ c, c ∉ [6, 7] → (c ∈ t.pu.codes ↔ c ∈ new ∨ c ∈ s.pu.codes)
        let fresh := good ∧ ∀ e ∈ u.ac.queue, ¬mine e
        (s.pu.de = s.driveRule → t.pu.de = s.pu.de)
        ∧ (¬good → ignored ∧ raises [])
        ∧ (good → (∃ e ∈ u.ac.queue, mine e ∧ e.st = .announced) →
            t.queueWork = u.queueWork ∧ t.ac.nextNumber = s.ac.nextNumber ∧ raises []
            ∧ idle t.ac.queue = (idle u.ac.queue).map update
            ∧ said t.ac.queue = said (u.ac.queue.map update))
        ∧ (good → (∃ e ∈ u.ac.queue, mine e) → (∀ e ∈ u.ac.queue, mine e → e.st ≠ .announced) →
            ignored ∧ raises [2])
        ∧ (fresh → u.ac.queue.length < 4 →
            let key : Key := ⟨s.cfg.address, s.nv.startCounter.toNat, s.ac.nextNumber⟩
            t.queueWork = u.queueWork ++ [(key, .announced, 0, 0, false, 0)]
            ∧ idle t.ac.queue = idle u.ac.queue ++ [{ account := declared { key := key }, st := .announced }]
            ∧ said t.ac.queue = said (u.ac.queue ++ [{ account := declared { key := key }, st := .announced }])
            ∧ raises []
            ∧ t.ac.nextNumber = if s.ac.nextNumber = 65535 then 1 else s.ac.nextNumber + 1)
        ∧ (fresh → 4 ≤ u.ac.queue.length → ignored ∧ raises [1]))

/-- CLOSE ACCOUNT by the state of the account it names (R17): ANNOUNCED leaves the queue, HELD and a DONE one with
no offer outstanding become CLOSING with CLOSED AT ORIGIN and join the commit queue, the rest ignore it, and no row
raises a code (6 and 7 apart, which SQ may raise in the same step from a state that stands before a step of its
own). ABANDON ACCOUNT of the ACTIVE account sets its abandon mark and enters E7, an E7 under way keeps its time
(R18). -/
def Obligations.CloseAndAbandonByState : Prop :=
  ∀ (s : State) (f : Frame), s.isExtraction = true →
    (let u := s.noted f
    let k := keyAt f.payload 0
    (s.takes .closeAccount f = true → ∃ t, exec (.closeAccount f) s = .next t
      ∧ (let closing := ∀ e, u.findQueue k = some e →
            (e.st = .held ∨ (e.st = .done
              ∧ ¬((u.ac.offer.st = .queued ∨ u.ac.offer.st = .awaiting) ∧ u.ac.offer.key = some k))) →
          t.queueWork = u.queueWork.modify (u.queueWork.findIdx fun w => w.1 == k)
            (fun w => (w.1, .closing, w.2.2))
          ∧ (∃ x ∈ t.ac.queue, x.account = { e.account with handoff := some .closedAtOrigin }
              ∧ x.st = .closing)
          ∧ t.rs.commitQueue = s.rs.commitQueue ++ [k]
        closing
        ∧ (∀ c, c ∉ [6, 7] → (c ∈ t.pu.codes ↔ c ∈ s.pu.codes))
        ∧ (∀ e, u.findQueue k = some e → e.st = .announced →
            t.queueWork = (u.queueWork.eraseP fun w => w.1 == k) ∧ t.rs.commitQueue = s.rs.commitQueue)
        ∧ ((∀ e, u.findQueue k = some e → e.st = .active ∨ e.st = .closing
              ∨ (e.st = .done ∧ (u.ac.offer.st = .queued ∨ u.ac.offer.st = .awaiting)
                  ∧ u.ac.offer.key = some k)) →
            t.queueWork = u.queueWork ∧ t.rs.commitQueue = s.rs.commitQueue)))
    ∧ (s.takes .abandonAccount f = true → ∃ t, exec (.abandonAccount f) s = .next t
      ∧ (let named := ∃ e, u.ac.active = some e ∧ e.account.key = k
        (named → t.queueWork = (u.queueWork.map fun w => if w.2.1 = .active then
            (w.1, w.2.1, w.2.2.1, w.2.2.2.1, true, w.2.2.2.2.2) else w) ∧ t.pu = s.pu)
        ∧ (named → s.sq.step ≠ .e0 → s.sq.step ≠ .e7 → t.sq = s.releaseEntered ∧ t.ms.own = none)
        ∧ (named → s.sq.step = .e7 → t.sq = s.sq ∧ t.ms = s.ms)
        ∧ (¬named → t.queueWork = u.queueWork))))

/-- The offer machine (R134 to R139). ACCEPT from the downstream station of an account still DONE or HELD takes it
out of the queue, and the offer of that account ends with the next DONE account offered. REFUSE of the offer
awaited sets the unanswered count to 0 and a hold-off of 5 s. An answer time that expires counts one more
unanswered offer, the third makes the account HELD with code 3, and a hold-off of 1 s follows. When the hold-off
expires the next DONE account is offered. Another station's answer changes nothing but what PT notes. -/
def Obligations.OfferMachineFollowsTheAnswers : Prop :=
  ∀ s : State, s.isExtraction = true →
    (let offered := fun t : State => s.inRun = true → (t.peer s.cfg.downstream).presence = .live →
      ∀ e, t.ac.queue.find? (fun x => x.st == .done) = some e →
        t.ac.offer.st = .queued ∧ t.ac.offer.key = some e.account.key
    let none' := fun t : State => t.ac.queue.find? (fun x => x.st == .done) = none →
        t.ac.offer.st = .idle
    (∀ f, s.takes .accept f = true → ∃ t, exec (.accept f) s = .next t
      ∧ (let u := s.noted f
        let k := keyAt f.payload 0
        (f.src.toNat ≠ s.cfg.downstream → t = u)
        ∧ (f.src.toNat = s.cfg.downstream →
          (∀ e, u.findQueue k = some e → (e.st = .done ∨ e.st = .held) →
            t.queueWork = (u.queueWork.eraseP fun w => w.1 == k)
            ∧ (u.ac.offer.key = some k → u.ac.offer.st = .awaiting →
                t.ac.offer.answer = Timer.stopped ∧ offered t ∧ none' t)
            ∧ (u.ac.offer.key ≠ some k → t.ac.offer = u.ac.offer))
          ∧ ((∀ e, u.findQueue k = some e → e.st ≠ .done ∧ e.st ≠ .held) →
              t.queueWork = u.queueWork ∧ t.ac.offer = u.ac.offer))))
    ∧ (∀ f, s.takes .refuse f = true → ∃ t, exec (.refuse f) s = .next t
      ∧ (let u := s.noted f
        let k := keyAt f.payload 0
        let mine := f.src.toNat = s.cfg.downstream ∧ u.ac.offer.st = .awaiting ∧ u.ac.offer.key = some k
        (mine → t.ac.offer = { st := .holdOff, key := none, answer := Timer.stopped
                               holdOff := Timer.start 5000, kind := .refused }
            ∧ t.queueWork = u.queueWork.map fun w => if w.1 = k then
                (w.1, w.2.1, w.2.2.1, w.2.2.2.1, w.2.2.2.2.1, 0) else w)
        ∧ (¬mine → t.ac.offer = u.ac.offer ∧ t.queueWork = u.queueWork)))
    ∧ (s.ac.offer.st = .awaiting → s.ac.offer.answer.due = true → ∀ k, s.ac.offer.key = some k →
        ∃ t, exec .answerTimerExpiry s = .next t
      ∧ t.ac.offer = { st := .holdOff, key := none, answer := Timer.stopped
                       holdOff := Timer.start 1000, kind := .unanswered }
      ∧ (t.queueWork = s.queueWork.map fun w => if w.1 = k ∧ w.2.1 = .done then
          (if w.2.2.2.2.2 + 1 < 3 then
            (w.1, w.2.1, w.2.2.1, w.2.2.2.1, w.2.2.2.2.1, w.2.2.2.2.2 + 1)
          else (w.1, .held, w.2.2.1, w.2.2.2.1, w.2.2.2.2.1, 3)) else w)
      ∧ ((∃ e ∈ s.ac.queue, e.account.key = k ∧ e.st = .done ∧ 2 ≤ e.unanswered) → 3 ∈ t.pu.codes))
    ∧ (s.ac.offer.st = .holdOff → s.ac.offer.holdOff.due = true → ∃ t, exec .holdOffExpiry s = .next t
      ∧ t.ac.offer.holdOff = Timer.stopped ∧ t.queueWork = s.queueWork ∧ offered t ∧ none' t))

/-- OFFER by the first case of R140 that applies: an account already held is accepted again, a station not in RUN
refuses NOT READY, a full intake list or store refuses FULL, any other account joins the intake list and is
accepted, with the body it arrived with (R141). The chamber list stays as it is, but for what a carry-over of 0 may
close (log 15). A body that fails one of the checks of R180 is not answered, nor is any OFFER by an EXTRACTION
station or outside JOINING and RUN. The account that joins has the fields of R180 at their bytes, and its own body is
the one that came, but for the bytes after an empty tag and bits 1..0 of byte 21, which no check reads (log 36). The
body of a finalized account passes the checks of its origin and gives the account back. -/
def Obligations.OfferIsAnsweredByTheFirstCase : Prop :=
  (∀ (s : State) (f : Frame),
    (s.isFoam = false → s.takes .offer f = true → exec (.offer f) s = .next (s.noted f))
    ∧ (s.working = false → s.li.hearing = true → exec (.offer f) s = .next s.endReception)
    ∧ (s.isFoam = true → s.takes .offer f = true → ∃ t, exec (.offer f) s = .next t
      ∧ (let p := f.payload
        let a := f.src.toNat
        let k := keyAt p 0
        let held := (∃ x ∈ s.ac.intake, x.key = k) ∨ ∃ e ∈ s.ac.chamber, e.account.key = k
        let isFull := 4 ≤ s.ac.intake.length ∨ s.rs.full = true
        let outcome := byteAt p 21 / 32
        let cycles := byteAt p 21 / 4 % 8
        let route := byteAt p 20 / 4 % 4
        let tagged := ∃ n, 1 ≤ n ∧ n ≤ 16 ∧ (∀ i < n, 0x20 ≤ byteAt p (4 + i) ∧ byteAt p (4 + i) ≤ 0x7E)
          ∧ ∀ i < 16, n ≤ i → byteAt p (4 + i) = 0
        let good := byteAt p 0 ≤ 23 ∧ byteAt p 0 = a ∧ half p 2 ≠ 0 ∧ (byteAt p 4 = 0 ∨ tagged)
          ∧ byteAt p 20 / 64 ≤ 2 ∧ byteAt p 20 / 16 % 4 ≤ 2 ∧ (route ≠ 0 ∨ outcome = 5)
          ∧ 1 ≤ outcome ∧ outcome ≤ 5 ∧ 1 ≤ cycles ∧ cycles ≤ 4
          ∧ (half p 24 ≤ 20000 ∨ half p 24 = 65534 ∨ half p 24 = 65535)
          ∧ (half p 26 ≤ 2000 ∨ half p 26 = 65535) ∧ (half p 28 ≤ 20000 ∨ half p 28 = 65535)
          ∧ (half p 22 ≠ 0 → half p 36 ≤ 1500) ∧ (half p 22 = 0 → half p 36 = 65535)
          ∧ half p 40 < 512 ∧ byteAt p 20 % 4 = 0 ∧ half p 42 = 0 ∧ full p 44 = 0
        let cls := fun n => if n = 0 then GasClass.halo else if n = 1 then .hc else .unknown
        let bit := fun i => (half p 40).testBit i
        let joined : Account := {
          key := ⟨byteAt p 0, byteAt p 1, half p 2⟩
          tag := if byteAt p 4 = 0 then none else some (((p.drop 4).take 16).takeWhile (· ≠ 0))
          refClass := cls (byteAt p 20 / 64), foamClass := cls (byteAt p 20 / 16 % 4)
          routeTaken := match route with | 1 => some .A | 2 => some .B | 3 => some .AthenB | _ => none
          nameplate := if half p 22 = 0 then none else some (half p 22)
          pierce := if half p 24 = 65534 then none else some (half p 24)
          zeroOffset := if half p 26 = 65535 then none else some (half p 26)
          flags := ⟨bit 0, bit 1, bit 2, bit 3, bit 4, bit 5, bit 6, bit 7, bit 8⟩
          result := some {
            finalPressure := half p 28, massA := half p 30, massB := half p 32, massTotal := half p 34
            yield := if half p 22 = 0 then none else some (half p 36)
            cycles := cycles, seconds := half p 38
            outcome := match outcome with
              | 1 => .complete | 2 => .short | 3 => .unrated | 4 => .empty | _ => .abandoned } }
        let q := p.set 21 (BitVec.ofNat 8 (byteAt p 21 / 4 * 4))
        (s.cfg.carryOver ≠ 0 → t.chamberWork = s.chamberWork)
        ∧ (¬good → t = s.noted f)
        ∧ (good → held → t.ac.intake = s.ac.intake ∧ t.waits .accept a (keyBytes k))
        ∧ (good → ¬held → s.inRun = false →
            t.ac.intake = s.ac.intake ∧ t.waits .refuse a (keyBytes k ++ [2]))
        ∧ (good → ¬held → s.inRun = true → isFull →
            t.ac.intake = s.ac.intake ∧ t.waits .refuse a (keyBytes k ++ [1]))
        ∧ (good → ¬held → s.inRun = true → ¬isFull →
            t.ac.intake = s.ac.intake ++ [joined] ∧ t.waits .accept a (keyBytes k))
        ∧ (good → accountOf p = joined ∧ joined.body false =
            if byteAt p 4 = 0 then q.take 4 ++ List.replicate 16 0 ++ q.drop 20 else q))))
  ∧ (∀ (x : Account) (r : ExtractionResult),
    x.foam = none → x.handoff = none → x.sequence = none → x.result = some r →
    x.key.origin ≤ 23 → x.key.count ≤ 255 → 1 ≤ x.key.number → x.key.number ≤ 65535 →
    (∀ cs, x.tag = some cs → 1 ≤ cs.length ∧ cs.length ≤ 16 ∧ ∀ c ∈ cs, 0x20 ≤ c.toNat ∧ c.toNat ≤ 0x7E) →
    (∀ n, x.nameplate = some n → 1 ≤ n ∧ n ≤ 65535) → (∀ n, x.pierce = some n → n ≤ 20000 ∨ n = 65535) →
    (∀ n, x.zeroOffset = some n → n ≤ 2000) → (x.routeTaken = none → r.outcome = .abandoned) →
    r.finalPressure ≤ 20000 ∨ r.finalPressure = 65535 →
    r.massA ≤ 65535 → r.massB ≤ 65535 → r.massTotal ≤ 65535 → r.seconds ≤ 65535 →
    1 ≤ r.cycles → r.cycles ≤ 4 → (x.nameplate = none ↔ r.yield = none) → (∀ n, r.yield = some n → n ≤ 1500) →
    offerOk x.key.origin (x.body false) = true ∧ accountOf (x.body false) = x)

/-! ### The record store, the configuration and the supply (10) -/

/-- The gateway's reads, with room for an answer. READ answers the record of that sequence, bit 15 of its flags word
1 for a COLLECTED slot and 0 for a HELD one (R180), or ABSENT with the sequence, and sets the read pointer (R171).
READ NEXT answers the sequence above the pointer and moves it when found, without a pointer the sequence 0. The slot
of a commit in progress holds no sequence for either (log 16). CHECK RANGE answers the check word over the stored
bytes of the clamped range (R173). No slot is written. -/
def Obligations.ReadsAnswerFromTheStore : Prop :=
  ∀ (s : State) (f : Frame), (s.noted f).li.room = true →
    (let u := s.noted f
    let holds := fun (n seq : Nat) => n < 1024 ∧ slotState s.nv.slots n ≠ .empty
      ∧ slotSequence s.nv.slots n = seq ∧ ∀ c, s.rs.commit = some c → c.slot ≠ n
    let answers := fun (t : State) (seq : Nat) =>
      ((∃ n, holds n seq) → ∃ n, holds n seq ∧
        (let bs := slotBytes s.nv.slots n
        let high := bs.getD 40 0 &&& 0x7F
        t.waits .readData f.src.toNat ((bs.take 48).set 40
          (if slotState s.nv.slots n = .collected then high ||| 0x80 else high))))
      ∧ ((¬∃ n, holds n seq) → t.waits .readData f.src.toNat (be32 seq))
    (s.takes .read f = true → ∃ t, exec (.read f) s = .next t
      ∧ t = { u with li := t.li, rs := { u.rs with readPointer := some (full f.payload 0) } }
      ∧ answers t (full f.payload 0))
    ∧ (s.takes .readNext f = true → ∃ t, exec (.readNext f) s = .next t
      ∧ (s.rs.readPointer = none → t = { u with li := t.li } ∧ t.waits .readData f.src.toNat [0, 0, 0, 0])
      ∧ (∀ q, s.rs.readPointer = some q → q < 4294967295 →
          answers t (q + 1)
          ∧ ((∃ n, holds n (q + 1)) →
              t = { u with li := t.li, rs := { u.rs with readPointer := some (q + 1) } })
          ∧ ((¬∃ n, holds n (q + 1)) → t = { u with li := t.li })))
    ∧ (s.takes .checkRange f = true → ∃ t, exec (.checkRange f) s = .next t ∧ t = { u with li := t.li }
      ∧ (let first := half f.payload 0
        let n := min (max 1 (min 1024 (half f.payload 2))) (1024 - first)
        (1023 < first → t.waits .checkResult f.src.toNat ([1] ++ be16 first ++ [0, 0, 0, 0]))
        ∧ (first ≤ 1023 → s.rs.commit = none →
            t.waits .checkResult f.src.toNat ([0] ++ be16 first ++ be16 n ++ be16 (checkWord
              ((List.range n).flatMap fun i => slotBytes s.nv.slots (first + i))))))))

/-- COLLECT raises the collect target to the named sequence, at most the last sequence (R172). The mark is then
written into the HELD slot of the lowest sequence at or below the target: one byte of that slot changes, and the
slot is COLLECTED. With no such slot, in a commit or at supply low nothing changes. -/
def Obligations.CollectMarksTheLowestHeldRecord : Prop :=
  ∀ s : State,
    (∀ f, s.takes .collect f = true → ∃ t, exec (.collect f) s = .next t
      ∧ (let seq := min (full f.payload 0) s.rs.lastSequence
        t = { s.noted f with rs := { (s.noted f).rs with
          target := some (match s.rs.target with | none => seq | some g => max g seq) } }))
    ∧ (s.cellsOk →
      let due := fun n => n < 1024 ∧ slotState s.nv.slots n = .held
        ∧ ∃ g, s.rs.target = some g ∧ slotSequence s.nv.slots n ≤ g
      ((∃ n, due n) → s.working = true → s.rs.commit = none → s.rs.supplyLow = false →
        ∃ t, exec .collectMark s = .next t ∧ ∃ n, due n
          ∧ (∀ m, due m → slotSequence s.nv.slots n ≤ slotSequence s.nv.slots m)
          ∧ (∀ a, readCell t.nv.slots a = if a = 64 * n + 48 then 0 else readCell s.nv.slots a)
          ∧ slotState t.nv.slots n = .collected ∧ slotSequence t.nv.slots n = slotSequence s.nv.slots n)
      ∧ ((¬∃ n, due n) ∨ s.working = false ∨ s.rs.commit ≠ none ∨ s.rs.supplyLow = true →
        exec .collectMark s = .next s))

/-- A commit and the supply (R168 to R170). It begins with the head of the commit queue when none is in progress,
supply is not low, no fault is present and the slot at the write position is not HELD: the record carries the next
sequence. Verified, its 64 bytes and no others are in that slot, the sequence is the last one, the write position
moves on, and the account leaves its list. A mismatch is a store fault with code 65 (the slot then holds what was
read back, log 30). Supply low aborts it with code 31 and its slot unchanged, and ends 0.5 V above the threshold.
Below the reset threshold of 18.0 V the part enters start with cause SUPPLY, every output off, and STARTING does not
end the hold before the supply has risen again (R170, R175, logs 22 and 23). A supply found below it in the hold is
kept and writes no cause, which is the model's choice (log 22). -/
def Obligations.CommitWritesTheRecord : Prop :=
  ∀ s : State,
    (∀ k rest a, s.rs.commitQueue = k :: rest → s.accountFor k = some a → s.working = true →
      s.rs.commit = none → s.rs.supplyLow = false → s.rs.fault = false →
      slotState s.nv.slots s.rs.writePosition ≠ .held → s.rs.lastSequence < 4294967295 →
      exec .commitBegin s = .next { s with rs := { s.rs with commit := some {
        key := k, slot := s.rs.writePosition, sequence := s.rs.lastSequence + 1
        bytes := recordBytes { a with sequence := some (s.rs.lastSequence + 1) } } } })
    ∧ (s.rs.supplyLow = true ∨ s.rs.fault = true ∨ s.rs.commit ≠ none
        ∨ slotState s.nv.slots s.rs.writePosition = .held → exec .commitBegin s = .next s)
    ∧ (∀ c bs, s.rs.commit = some c → c.bytes.length = 64 → bs.length = 64 → s.cellsOk →
      ∃ t, exec (.commitVerify bs) s = .next t
        ∧ t.rs.commit = none
        ∧ (∀ a, readCell t.nv.slots a = if 64 * c.slot ≤ a ∧ a < 64 * c.slot + 64
            then bs.getD (a - 64 * c.slot) 0 else readCell s.nv.slots a)
        ∧ (bs = c.bytes →
            t.rs.lastSequence = c.sequence ∧ t.rs.writePosition = (s.rs.writePosition + 1) % 1024
            ∧ t.rs.full = (slotState t.nv.slots t.rs.writePosition == .held || s.rs.fault)
            ∧ (s.isFoam = false → s.li.queue.length ≤ 4 → t.waits .certificate 31 (bs.take 48))
            ∧ t.queueWork = (s.queueWork.filter fun w => !(w.1 == c.key && w.2.1 == .closing))
            ∧ (s.cfg.carryOver ≠ 0 → t.rs.commitQueue = s.rs.commitQueue.tail
                ∧ t.chamberWork = (s.ac.chamber.filter fun e =>
                    !(e.account.key == c.key && e.st == .closed)).map fun e => (e.account, e.st, e.accF)))
        ∧ (bs ≠ c.bytes →
            t.rs.fault = true ∧ t.rs.full = true ∧ 65 ∈ t.pu.codes ∧ t.pu.de = false
            ∧ t.rs.lastSequence = s.rs.lastSequence ∧ t.rs.writePosition = s.rs.writePosition
            ∧ t.queueWork = s.queueWork))
    ∧ (∀ d, s.phase ≠ .hold → s.rs.supplyLow = false → d < s.cfg.supplyWarning → 180 ≤ d →
      ∃ t, exec (.supplyWarning d) s = .next t
        ∧ t.rs.supplyLow = true ∧ t.rs.commit = none ∧ t.rs.blockWrite = none
        ∧ (s.rs.commit ≠ none → 31 ∈ t.pu.codes) ∧ t.nv.slots = s.nv.slots
        ∧ (s.rs.blockWrite = none → t.nv = s.nv))
    ∧ (∀ d, s.phase ≠ .hold → s.rs.supplyLow = true → s.cfg.supplyWarning + 5 ≤ d →
      ∃ t, exec (.supplyWarningEnd d) s = .next t ∧ t.rs.supplyLow = false)
    ∧ (∀ d, s.phase ≠ .hold → s.rs.supplyLow = false ∨ d < s.cfg.supplyWarning + 5 →
      exec (.supplyWarningEnd d) s = .next s)
    ∧ (∀ d, s.phase ≠ .hold → d < 180 → ∃ t, exec (.supplyWarning d) s = .next t
      ∧ t = { boot := { phase := .hold, cause := .supply }, rs := { supplyBelow := true }
              nv := t.nv, free := t.free, pending := s.pending }
      ∧ t.outputs = ⟨false, false, false, false, false, false, false, false⟩
      ∧ (s.rs.supplyLow = false → d < s.cfg.supplyWarning → t.nv.slots = s.nv.slots)
      ∧ exec .starting t = .next t)
    ∧ (∀ d, s.phase = .hold →
      let t := { s with rs := { s.rs with supplyBelow := decide (d < 180) } }
      exec (.supplyWarning d) s = .next t ∧ exec (.supplyWarningEnd d) s = .next t)

/-- SERVICE (R176, R177), with room for an answer. KEY 0x3C then 0xA7 unlock, any other key freezes, each with its
CONFIG ANSWER. CONFIG WRITE while UNLOCKED stores a ranged value clamped and a listed value as it is, and refuses
any other with the value held, a number the block does not hold is unknown. CONFIG COMMIT while UNLOCKED begins the
write of the working copy with its check word, or at supply low is answered FAILED. A commit taken during a write
begins it anew, and its verify answers both (R176, log 19). The verify leaves what was read back in the block,
answers each commit OK or FAILED, and the state becomes LOCKED after the answer (logs 19, 30). While not UNLOCKED
both are answered LOCKED. Any of the three not addressed to the part, not of its length or not from a source 0..23
does nothing. -/
def Obligations.ServiceUnlocksWritesAndCommits : Prop :=
  ∀ s : State, s.phase = .service → s.li.hearing = true → s.li.room = true →
    (let heard := fun (k : Kind) (f : Frame) => k.lengthOk f.payload.length = true
      ∧ f.dst.toNat = s.boot.address ∧ f.src.toNat ≤ 23
    let idle := fun l : Lock => if l = .half ∨ l = .unlocked then Timer.start 30000 else Timer.stopped
    let code : Lock → Byte := fun l => match l with | .locked => 0 | .half => 1 | .unlocked => 2 | .frozen => 3
    (∀ f, ¬heard .key f → exec (.key f) s = .next s.endReception)
    ∧ (∀ f, ¬heard .configWrite f → exec (.configWrite f) s = .next s.endReception)
    ∧ (∀ f, ¬heard .configCommit f → exec (.configCommit f) s = .next s.endReception)
    ∧ (∀ f, heard .key f → ∃ t, exec (.key f) s = .next t
      ∧ (let key := byteAt f.payload 0
        t.rs.lock = (if s.rs.lock = .locked ∧ key = 0x3C then .half
          else if s.rs.lock = .half ∧ key = 0xA7 then .unlocked else .frozen)
        ∧ t = { s with li := t.li, rs := { s.rs with lock := t.rs.lock, idle := idle t.rs.lock } }
        ∧ t.waits .configAnswer f.src.toNat
            [0x7C, if t.rs.lock = .frozen then 1 else 0, code t.rs.lock, 0, 0, 0]))
    ∧ (∀ f, heard .configWrite f → ∃ t, exec (.configWrite f) s = .next t
      ∧ (let n := byteAt f.payload 0
        let v := half f.payload 1
        let stored := fun w => t.rs.working = s.rs.working.set n (BitVec.ofNat 16 w)
          ∧ t.waits .configAnswer f.src.toNat ([0x7D, 0, 2, BitVec.ofNat 8 n] ++ be16 w)
        let refused := fun status : Byte => t.rs.working = s.rs.working
          ∧ ∃ w, (n < 55 → w = (s.rs.working.getD n 0).toNat)
            ∧ t.waits .configAnswer f.src.toNat ([0x7D, status, code s.rs.lock, BitVec.ofNat 8 n] ++ be16 w)
        t.nv = s.nv ∧ t.rs = { s.rs with working := t.rs.working, idle := idle s.rs.lock }
        ∧ (s.rs.lock = .unlocked →
          (∀ lo hi, paramRange n = some (lo, hi) → stored (max lo (min hi v)))
          ∧ (paramRange n = none → paramInSet n v = true → stored v)
          ∧ (paramRange n = none → paramInSet n v = false → refused (if 55 ≤ n ∧ n < 128 then 3 else 2)))
        ∧ (s.rs.lock ≠ .unlocked → refused 1)))
    ∧ (∀ f, heard .configCommit f → ∃ t, exec (.configCommit f) s = .next t ∧ t.nv = s.nv
      ∧ (let answered := fun status : Byte =>
          t.waits .configAnswer f.src.toNat [0x7E, status, code s.rs.lock, 0, 0, 0]
        (s.rs.lock ≠ .unlocked → t.rs = { s.rs with idle := idle s.rs.lock } ∧ answered 1)
        ∧ (s.rs.lock = .unlocked → s.rs.supplyLow = true →
            t.rs = { s.rs with lock := .locked, idle := Timer.stopped } ∧ answered 4)
        ∧ (s.rs.lock = .unlocked → s.rs.supplyLow = false →
            t.rs = { s.rs with
              idle := Timer.start 30000
              blockWrite := some ⟨(match s.rs.blockWrite with | some w => w.srcs | none => []) ++ [f.src.toNat],
                s.rs.working ++ [BitVec.ofNat 16 (checkWord (wordBytes s.rs.working))]⟩ })))
    ∧ (∀ w ws, s.rs.blockWrite = some w → ∃ t, exec (.configCommitVerify ws) s = .next t
      ∧ t.nv = { s.nv with block := ws }
      ∧ t.rs = { s.rs with
          blockWrite := none, idle := Timer.stopped
          lock := if s.rs.lock = .frozen then .frozen else .locked }
      ∧ (w.srcs.length = 1 ∨ s.li.queue.length + w.srcs.length ≤ 7 → ∀ a ∈ w.srcs,
          t.waits .configAnswer a [0x7E, if ws = w.words then 0 else 4, code s.rs.lock, 0, 0, 0]))
    ∧ (∀ ws, s.rs.blockWrite = none → exec (.configCommitVerify ws) s = .next s))
end

