-- ==== Sys2Proof/Laws/State.lean ====
section
/-! SUPPORT. One lemma per field per update of the state: what replacing one block leaves of every other. -/

namespace Sys2Proof.Machine

section
variable (s : State) (x : Boot)
@[simp] theorem State.setBoot_boot : (s.setBoot x).boot = x := rfl
@[simp] theorem State.setBoot_cfg : (s.setBoot x).cfg = s.cfg := rfl
@[simp] theorem State.setBoot_li : (s.setBoot x).li = s.li := rfl
@[simp] theorem State.setBoot_pt : (s.setBoot x).pt = s.pt := rfl
@[simp] theorem State.setBoot_ms : (s.setBoot x).ms = s.ms := rfl
@[simp] theorem State.setBoot_sq : (s.setBoot x).sq = s.sq := rfl
@[simp] theorem State.setBoot_ch : (s.setBoot x).ch = s.ch := rfl
@[simp] theorem State.setBoot_mu : (s.setBoot x).mu = s.mu := rfl
@[simp] theorem State.setBoot_ac : (s.setBoot x).ac = s.ac := rfl
@[simp] theorem State.setBoot_pu : (s.setBoot x).pu = s.pu := rfl
@[simp] theorem State.setBoot_rs : (s.setBoot x).rs = s.rs := rfl
@[simp] theorem State.setBoot_nv : (s.setBoot x).nv = s.nv := rfl
@[simp] theorem State.setBoot_free : (s.setBoot x).free = s.free := rfl
@[simp] theorem State.setBoot_pending : (s.setBoot x).pending = s.pending := rfl
end

section
variable (s : State) (x : Settings)
@[simp] theorem State.setCfg_boot : (s.setCfg x).boot = s.boot := rfl
@[simp] theorem State.setCfg_cfg : (s.setCfg x).cfg = x := rfl
@[simp] theorem State.setCfg_li : (s.setCfg x).li = s.li := rfl
@[simp] theorem State.setCfg_pt : (s.setCfg x).pt = s.pt := rfl
@[simp] theorem State.setCfg_ms : (s.setCfg x).ms = s.ms := rfl
@[simp] theorem State.setCfg_sq : (s.setCfg x).sq = s.sq := rfl
@[simp] theorem State.setCfg_ch : (s.setCfg x).ch = s.ch := rfl
@[simp] theorem State.setCfg_mu : (s.setCfg x).mu = s.mu := rfl
@[simp] theorem State.setCfg_ac : (s.setCfg x).ac = s.ac := rfl
@[simp] theorem State.setCfg_pu : (s.setCfg x).pu = s.pu := rfl
@[simp] theorem State.setCfg_rs : (s.setCfg x).rs = s.rs := rfl
@[simp] theorem State.setCfg_nv : (s.setCfg x).nv = s.nv := rfl
@[simp] theorem State.setCfg_free : (s.setCfg x).free = s.free := rfl
@[simp] theorem State.setCfg_pending : (s.setCfg x).pending = s.pending := rfl
end

section
variable (s : State) (x : Line)
@[simp] theorem State.setLi_boot : (s.setLi x).boot = s.boot := rfl
@[simp] theorem State.setLi_cfg : (s.setLi x).cfg = s.cfg := rfl
@[simp] theorem State.setLi_li : (s.setLi x).li = x := rfl
@[simp] theorem State.setLi_pt : (s.setLi x).pt = s.pt := rfl
@[simp] theorem State.setLi_ms : (s.setLi x).ms = s.ms := rfl
@[simp] theorem State.setLi_sq : (s.setLi x).sq = s.sq := rfl
@[simp] theorem State.setLi_ch : (s.setLi x).ch = s.ch := rfl
@[simp] theorem State.setLi_mu : (s.setLi x).mu = s.mu := rfl
@[simp] theorem State.setLi_ac : (s.setLi x).ac = s.ac := rfl
@[simp] theorem State.setLi_pu : (s.setLi x).pu = s.pu := rfl
@[simp] theorem State.setLi_rs : (s.setLi x).rs = s.rs := rfl
@[simp] theorem State.setLi_nv : (s.setLi x).nv = s.nv := rfl
@[simp] theorem State.setLi_free : (s.setLi x).free = s.free := rfl
@[simp] theorem State.setLi_pending : (s.setLi x).pending = s.pending := rfl
end

section
variable (s : State) (x : Peers)
@[simp] theorem State.setPt_boot : (s.setPt x).boot = s.boot := rfl
@[simp] theorem State.setPt_cfg : (s.setPt x).cfg = s.cfg := rfl
@[simp] theorem State.setPt_li : (s.setPt x).li = s.li := rfl
@[simp] theorem State.setPt_pt : (s.setPt x).pt = x := rfl
@[simp] theorem State.setPt_ms : (s.setPt x).ms = s.ms := rfl
@[simp] theorem State.setPt_sq : (s.setPt x).sq = s.sq := rfl
@[simp] theorem State.setPt_ch : (s.setPt x).ch = s.ch := rfl
@[simp] theorem State.setPt_mu : (s.setPt x).mu = s.mu := rfl
@[simp] theorem State.setPt_ac : (s.setPt x).ac = s.ac := rfl
@[simp] theorem State.setPt_pu : (s.setPt x).pu = s.pu := rfl
@[simp] theorem State.setPt_rs : (s.setPt x).rs = s.rs := rfl
@[simp] theorem State.setPt_nv : (s.setPt x).nv = s.nv := rfl
@[simp] theorem State.setPt_free : (s.setPt x).free = s.free := rfl
@[simp] theorem State.setPt_pending : (s.setPt x).pending = s.pending := rfl
end

section
variable (s : State) (x : Manifold)
@[simp] theorem State.setMs_boot : (s.setMs x).boot = s.boot := rfl
@[simp] theorem State.setMs_cfg : (s.setMs x).cfg = s.cfg := rfl
@[simp] theorem State.setMs_li : (s.setMs x).li = s.li := rfl
@[simp] theorem State.setMs_pt : (s.setMs x).pt = s.pt := rfl
@[simp] theorem State.setMs_ms : (s.setMs x).ms = x := rfl
@[simp] theorem State.setMs_sq : (s.setMs x).sq = s.sq := rfl
@[simp] theorem State.setMs_ch : (s.setMs x).ch = s.ch := rfl
@[simp] theorem State.setMs_mu : (s.setMs x).mu = s.mu := rfl
@[simp] theorem State.setMs_ac : (s.setMs x).ac = s.ac := rfl
@[simp] theorem State.setMs_pu : (s.setMs x).pu = s.pu := rfl
@[simp] theorem State.setMs_rs : (s.setMs x).rs = s.rs := rfl
@[simp] theorem State.setMs_nv : (s.setMs x).nv = s.nv := rfl
@[simp] theorem State.setMs_free : (s.setMs x).free = s.free := rfl
@[simp] theorem State.setMs_pending : (s.setMs x).pending = s.pending := rfl
end

section
variable (s : State) (x : Sequence)
@[simp] theorem State.setSq_boot : (s.setSq x).boot = s.boot := rfl
@[simp] theorem State.setSq_cfg : (s.setSq x).cfg = s.cfg := rfl
@[simp] theorem State.setSq_li : (s.setSq x).li = s.li := rfl
@[simp] theorem State.setSq_pt : (s.setSq x).pt = s.pt := rfl
@[simp] theorem State.setSq_ms : (s.setSq x).ms = s.ms := rfl
@[simp] theorem State.setSq_sq : (s.setSq x).sq = x := rfl
@[simp] theorem State.setSq_ch : (s.setSq x).ch = s.ch := rfl
@[simp] theorem State.setSq_mu : (s.setSq x).mu = s.mu := rfl
@[simp] theorem State.setSq_ac : (s.setSq x).ac = s.ac := rfl
@[simp] theorem State.setSq_pu : (s.setSq x).pu = s.pu := rfl
@[simp] theorem State.setSq_rs : (s.setSq x).rs = s.rs := rfl
@[simp] theorem State.setSq_nv : (s.setSq x).nv = s.nv := rfl
@[simp] theorem State.setSq_free : (s.setSq x).free = s.free := rfl
@[simp] theorem State.setSq_pending : (s.setSq x).pending = s.pending := rfl
end

section
variable (s : State) (x : Chamber)
@[simp] theorem State.setCh_boot : (s.setCh x).boot = s.boot := rfl
@[simp] theorem State.setCh_cfg : (s.setCh x).cfg = s.cfg := rfl
@[simp] theorem State.setCh_li : (s.setCh x).li = s.li := rfl
@[simp] theorem State.setCh_pt : (s.setCh x).pt = s.pt := rfl
@[simp] theorem State.setCh_ms : (s.setCh x).ms = s.ms := rfl
@[simp] theorem State.setCh_sq : (s.setCh x).sq = s.sq := rfl
@[simp] theorem State.setCh_ch : (s.setCh x).ch = x := rfl
@[simp] theorem State.setCh_mu : (s.setCh x).mu = s.mu := rfl
@[simp] theorem State.setCh_ac : (s.setCh x).ac = s.ac := rfl
@[simp] theorem State.setCh_pu : (s.setCh x).pu = s.pu := rfl
@[simp] theorem State.setCh_rs : (s.setCh x).rs = s.rs := rfl
@[simp] theorem State.setCh_nv : (s.setCh x).nv = s.nv := rfl
@[simp] theorem State.setCh_free : (s.setCh x).free = s.free := rfl
@[simp] theorem State.setCh_pending : (s.setCh x).pending = s.pending := rfl
end

section
variable (s : State) (x : Measure)
@[simp] theorem State.setMu_boot : (s.setMu x).boot = s.boot := rfl
@[simp] theorem State.setMu_cfg : (s.setMu x).cfg = s.cfg := rfl
@[simp] theorem State.setMu_li : (s.setMu x).li = s.li := rfl
@[simp] theorem State.setMu_pt : (s.setMu x).pt = s.pt := rfl
@[simp] theorem State.setMu_ms : (s.setMu x).ms = s.ms := rfl
@[simp] theorem State.setMu_sq : (s.setMu x).sq = s.sq := rfl
@[simp] theorem State.setMu_ch : (s.setMu x).ch = s.ch := rfl
@[simp] theorem State.setMu_mu : (s.setMu x).mu = x := rfl
@[simp] theorem State.setMu_ac : (s.setMu x).ac = s.ac := rfl
@[simp] theorem State.setMu_pu : (s.setMu x).pu = s.pu := rfl
@[simp] theorem State.setMu_rs : (s.setMu x).rs = s.rs := rfl
@[simp] theorem State.setMu_nv : (s.setMu x).nv = s.nv := rfl
@[simp] theorem State.setMu_free : (s.setMu x).free = s.free := rfl
@[simp] theorem State.setMu_pending : (s.setMu x).pending = s.pending := rfl
end

section
variable (s : State) (x : Accounts)
@[simp] theorem State.setAc_boot : (s.setAc x).boot = s.boot := rfl
@[simp] theorem State.setAc_cfg : (s.setAc x).cfg = s.cfg := rfl
@[simp] theorem State.setAc_li : (s.setAc x).li = s.li := rfl
@[simp] theorem State.setAc_pt : (s.setAc x).pt = s.pt := rfl
@[simp] theorem State.setAc_ms : (s.setAc x).ms = s.ms := rfl
@[simp] theorem State.setAc_sq : (s.setAc x).sq = s.sq := rfl
@[simp] theorem State.setAc_ch : (s.setAc x).ch = s.ch := rfl
@[simp] theorem State.setAc_mu : (s.setAc x).mu = s.mu := rfl
@[simp] theorem State.setAc_ac : (s.setAc x).ac = x := rfl
@[simp] theorem State.setAc_pu : (s.setAc x).pu = s.pu := rfl
@[simp] theorem State.setAc_rs : (s.setAc x).rs = s.rs := rfl
@[simp] theorem State.setAc_nv : (s.setAc x).nv = s.nv := rfl
@[simp] theorem State.setAc_free : (s.setAc x).free = s.free := rfl
@[simp] theorem State.setAc_pending : (s.setAc x).pending = s.pending := rfl
end

section
variable (s : State) (x : Protection)
@[simp] theorem State.setPu_boot : (s.setPu x).boot = s.boot := rfl
@[simp] theorem State.setPu_cfg : (s.setPu x).cfg = s.cfg := rfl
@[simp] theorem State.setPu_li : (s.setPu x).li = s.li := rfl
@[simp] theorem State.setPu_pt : (s.setPu x).pt = s.pt := rfl
@[simp] theorem State.setPu_ms : (s.setPu x).ms = s.ms := rfl
@[simp] theorem State.setPu_sq : (s.setPu x).sq = s.sq := rfl
@[simp] theorem State.setPu_ch : (s.setPu x).ch = s.ch := rfl
@[simp] theorem State.setPu_mu : (s.setPu x).mu = s.mu := rfl
@[simp] theorem State.setPu_ac : (s.setPu x).ac = s.ac := rfl
@[simp] theorem State.setPu_pu : (s.setPu x).pu = x := rfl
@[simp] theorem State.setPu_rs : (s.setPu x).rs = s.rs := rfl
@[simp] theorem State.setPu_nv : (s.setPu x).nv = s.nv := rfl
@[simp] theorem State.setPu_free : (s.setPu x).free = s.free := rfl
@[simp] theorem State.setPu_pending : (s.setPu x).pending = s.pending := rfl
end

section
variable (s : State) (x : Store)
@[simp] theorem State.setRs_boot : (s.setRs x).boot = s.boot := rfl
@[simp] theorem State.setRs_cfg : (s.setRs x).cfg = s.cfg := rfl
@[simp] theorem State.setRs_li : (s.setRs x).li = s.li := rfl
@[simp] theorem State.setRs_pt : (s.setRs x).pt = s.pt := rfl
@[simp] theorem State.setRs_ms : (s.setRs x).ms = s.ms := rfl
@[simp] theorem State.setRs_sq : (s.setRs x).sq = s.sq := rfl
@[simp] theorem State.setRs_ch : (s.setRs x).ch = s.ch := rfl
@[simp] theorem State.setRs_mu : (s.setRs x).mu = s.mu := rfl
@[simp] theorem State.setRs_ac : (s.setRs x).ac = s.ac := rfl
@[simp] theorem State.setRs_pu : (s.setRs x).pu = s.pu := rfl
@[simp] theorem State.setRs_rs : (s.setRs x).rs = x := rfl
@[simp] theorem State.setRs_nv : (s.setRs x).nv = s.nv := rfl
@[simp] theorem State.setRs_free : (s.setRs x).free = s.free := rfl
@[simp] theorem State.setRs_pending : (s.setRs x).pending = s.pending := rfl
end

section
variable (s : State) (x : Nonvolatile)
@[simp] theorem State.setNv_boot : (s.setNv x).boot = s.boot := rfl
@[simp] theorem State.setNv_cfg : (s.setNv x).cfg = s.cfg := rfl
@[simp] theorem State.setNv_li : (s.setNv x).li = s.li := rfl
@[simp] theorem State.setNv_pt : (s.setNv x).pt = s.pt := rfl
@[simp] theorem State.setNv_ms : (s.setNv x).ms = s.ms := rfl
@[simp] theorem State.setNv_sq : (s.setNv x).sq = s.sq := rfl
@[simp] theorem State.setNv_ch : (s.setNv x).ch = s.ch := rfl
@[simp] theorem State.setNv_mu : (s.setNv x).mu = s.mu := rfl
@[simp] theorem State.setNv_ac : (s.setNv x).ac = s.ac := rfl
@[simp] theorem State.setNv_pu : (s.setNv x).pu = s.pu := rfl
@[simp] theorem State.setNv_rs : (s.setNv x).rs = s.rs := rfl
@[simp] theorem State.setNv_nv : (s.setNv x).nv = x := rfl
@[simp] theorem State.setNv_free : (s.setNv x).free = s.free := rfl
@[simp] theorem State.setNv_pending : (s.setNv x).pending = s.pending := rfl
end

section
variable (s : State) (x : List Instr)
@[simp] theorem State.setPending_boot : (s.setPending x).boot = s.boot := rfl
@[simp] theorem State.setPending_cfg : (s.setPending x).cfg = s.cfg := rfl
@[simp] theorem State.setPending_li : (s.setPending x).li = s.li := rfl
@[simp] theorem State.setPending_pt : (s.setPending x).pt = s.pt := rfl
@[simp] theorem State.setPending_ms : (s.setPending x).ms = s.ms := rfl
@[simp] theorem State.setPending_sq : (s.setPending x).sq = s.sq := rfl
@[simp] theorem State.setPending_ch : (s.setPending x).ch = s.ch := rfl
@[simp] theorem State.setPending_mu : (s.setPending x).mu = s.mu := rfl
@[simp] theorem State.setPending_ac : (s.setPending x).ac = s.ac := rfl
@[simp] theorem State.setPending_pu : (s.setPending x).pu = s.pu := rfl
@[simp] theorem State.setPending_rs : (s.setPending x).rs = s.rs := rfl
@[simp] theorem State.setPending_nv : (s.setPending x).nv = s.nv := rfl
@[simp] theorem State.setPending_free : (s.setPending x).free = s.free := rfl
@[simp] theorem State.setPending_pending : (s.setPending x).pending = x := rfl
end

@[simp] theorem State.nextFree_boot (s : State) : s.nextFree.boot = s.boot := rfl
@[simp] theorem State.nextFree_cfg (s : State) : s.nextFree.cfg = s.cfg := rfl
@[simp] theorem State.nextFree_li (s : State) : s.nextFree.li = s.li := rfl
@[simp] theorem State.nextFree_pt (s : State) : s.nextFree.pt = s.pt := rfl
@[simp] theorem State.nextFree_ms (s : State) : s.nextFree.ms = s.ms := rfl
@[simp] theorem State.nextFree_sq (s : State) : s.nextFree.sq = s.sq := rfl
@[simp] theorem State.nextFree_ch (s : State) : s.nextFree.ch = s.ch := rfl
@[simp] theorem State.nextFree_mu (s : State) : s.nextFree.mu = s.mu := rfl
@[simp] theorem State.nextFree_ac (s : State) : s.nextFree.ac = s.ac := rfl
@[simp] theorem State.nextFree_pu (s : State) : s.nextFree.pu = s.pu := rfl
@[simp] theorem State.nextFree_rs (s : State) : s.nextFree.rs = s.rs := rfl
@[simp] theorem State.nextFree_nv (s : State) : s.nextFree.nv = s.nv := rfl
@[simp] theorem State.nextFree_free (s : State) : s.nextFree.free = s.free + 1 := rfl
@[simp] theorem State.nextFree_pending (s : State) : s.nextFree.pending = s.pending := rfl

end Sys2Proof.Machine
end

