-- ==== Sys2Proof/Laws/Frames.lean ====
section
/-! SUPPORT. What each shared operation leaves unchanged: one conjunction per operation, from which simp reads
the operation of one field. -/

namespace Sys2Proof.Machine

/-- What enqueueing a telegram leaves unchanged in the line interface. -/
@[simp] theorem Line.enqueue_frame (l : Line) (t : Telegram) :
    (l.enqueue t).idle = l.idle ∧ (l.enqueue t).receiver = l.receiver ∧
    (l.enqueue t).transmitter = l.transmitter ∧ (l.enqueue t).lastHazard = l.lastHazard ∧
    (l.enqueue t).moment = l.moment + 1 := by
  unfold Line.enqueue
  simp only []
  (repeat' split) <;> simp

/-- What replacing the claim list of a route leaves unchanged. -/
@[simp] theorem Manifold.setList_frame (m : Manifold) (r : Route) (l : List ClaimEntry) :
    (m.setList r l).own = m.own ∧ (m.setList r l).claimHeard = m.claimHeard ∧ (m.setList r l).marks = m.marks ∧
    (m.setList r l).backoff = m.backoff ∧ (m.setList r l).call = m.call := by
  cases r <;> simp [Manifold.setList]

/-- What `State.send` leaves unchanged. -/
@[simp] theorem State.send_frame (s : State) (k : Kind) (dst : Nat) (p : List Byte) :
    (s.send k dst p).boot = s.boot ∧ (s.send k dst p).cfg = s.cfg ∧ (s.send k dst p).li.idle = s.li.idle ∧
    (s.send k dst p).li.receiver = s.li.receiver ∧ (s.send k dst p).li.transmitter = s.li.transmitter ∧
    (s.send k dst p).li.lastHazard = s.li.lastHazard ∧ (s.send k dst p).pt = s.pt ∧
    (s.send k dst p).ms = s.ms ∧ (s.send k dst p).sq = s.sq ∧ (s.send k dst p).ch = s.ch ∧
    (s.send k dst p).mu = s.mu ∧ (s.send k dst p).ac = s.ac ∧ (s.send k dst p).pu = s.pu ∧
    (s.send k dst p).rs = s.rs ∧ (s.send k dst p).nv = s.nv ∧ (s.send k dst p).free = s.free ∧
    (s.send k dst p).pending = s.pending := by
  simp [State.send]

/-- What `State.sendStatus` leaves unchanged. -/
@[simp] theorem State.sendStatus_frame (s : State) :
    (s.sendStatus).boot = s.boot ∧ (s.sendStatus).cfg = s.cfg ∧ (s.sendStatus).li.idle = s.li.idle ∧
    (s.sendStatus).li.receiver = s.li.receiver ∧ (s.sendStatus).li.transmitter = s.li.transmitter ∧
    (s.sendStatus).pt.entries = s.pt.entries ∧ (s.sendStatus).pt.ownHazard = s.pt.ownHazard ∧
    (s.sendStatus).ms = s.ms ∧ (s.sendStatus).sq = s.sq ∧ (s.sendStatus).ch = s.ch ∧
    (s.sendStatus).mu = s.mu ∧ (s.sendStatus).ac = s.ac ∧ (s.sendStatus).pu = s.pu ∧
    (s.sendStatus).rs = s.rs ∧ (s.sendStatus).nv = s.nv ∧ (s.sendStatus).free = s.free ∧
    (s.sendStatus).pending = s.pending := by
  simp [State.sendStatus]

/-- What `State.announceIf` leaves unchanged. -/
@[simp] theorem State.announceIf_frame (s : State) (b : Bool) (old : State) :
    (s.announceIf b old).boot = s.boot ∧ (s.announceIf b old).cfg = s.cfg ∧
    (s.announceIf b old).li.idle = s.li.idle ∧ (s.announceIf b old).li.receiver = s.li.receiver ∧
    (s.announceIf b old).li.transmitter = s.li.transmitter ∧
    (s.announceIf b old).pt.entries = s.pt.entries ∧ (s.announceIf b old).pt.ownHazard = s.pt.ownHazard ∧
    (s.announceIf b old).ms = s.ms ∧ (s.announceIf b old).sq = s.sq ∧ (s.announceIf b old).ch = s.ch ∧
    (s.announceIf b old).mu = s.mu ∧ (s.announceIf b old).ac = s.ac ∧ (s.announceIf b old).pu = s.pu ∧
    (s.announceIf b old).rs = s.rs ∧ (s.announceIf b old).nv = s.nv ∧ (s.announceIf b old).free = s.free ∧
    (s.announceIf b old).pending = s.pending := by
  dsimp only [State.announceIf]; (repeat' split) <;> simp

/-- What `State.evalDe` leaves unchanged. -/
@[simp] theorem State.evalDe_frame (s : State) :
    (s.evalDe).boot = s.boot ∧ (s.evalDe).cfg = s.cfg ∧ (s.evalDe).li = s.li ∧ (s.evalDe).pt = s.pt ∧
    (s.evalDe).ms = s.ms ∧ (s.evalDe).sq = s.sq ∧ (s.evalDe).ch = s.ch ∧ (s.evalDe).mu = s.mu ∧
    (s.evalDe).ac = s.ac ∧ (s.evalDe).pu.codes = s.pu.codes ∧ (s.evalDe).pu.sources = s.pu.sources ∧
    (s.evalDe).rs = s.rs ∧ (s.evalDe).nv = s.nv ∧ (s.evalDe).free = s.free ∧
    (s.evalDe).pending = s.pending := by
  simp [State.evalDe]

/-- What `State.addCode` leaves unchanged. -/
@[simp] theorem State.addCode_frame (s : State) (c : Nat) :
    (s.addCode c).boot = s.boot ∧ (s.addCode c).cfg = s.cfg ∧ (s.addCode c).li = s.li ∧
    (s.addCode c).pt = s.pt ∧ (s.addCode c).ms = s.ms ∧ (s.addCode c).sq = s.sq ∧ (s.addCode c).ch = s.ch ∧
    (s.addCode c).mu = s.mu ∧ (s.addCode c).ac = s.ac ∧ (s.addCode c).pu.sources = s.pu.sources ∧
    (s.addCode c).rs = s.rs ∧ (s.addCode c).nv = s.nv ∧ (s.addCode c).free = s.free ∧
    (s.addCode c).pending = s.pending := by
  simp [State.addCode]

/-- What `State.removeCode` leaves unchanged. -/
@[simp] theorem State.removeCode_frame (s : State) (c : Nat) :
    (s.removeCode c).boot = s.boot ∧ (s.removeCode c).cfg = s.cfg ∧ (s.removeCode c).li = s.li ∧
    (s.removeCode c).pt = s.pt ∧ (s.removeCode c).ms = s.ms ∧ (s.removeCode c).sq = s.sq ∧
    (s.removeCode c).ch = s.ch ∧ (s.removeCode c).mu = s.mu ∧ (s.removeCode c).ac = s.ac ∧
    (s.removeCode c).pu.sources = s.pu.sources ∧ (s.removeCode c).rs = s.rs ∧ (s.removeCode c).nv = s.nv ∧
    (s.removeCode c).free = s.free ∧ (s.removeCode c).pending = s.pending := by
  simp [State.removeCode]

/-- What `State.setSource` leaves unchanged. -/
@[simp] theorem State.setSource_frame (s : State) (t : TripSource) (x : Source) :
    (s.setSource t x).boot = s.boot ∧ (s.setSource t x).cfg = s.cfg ∧ (s.setSource t x).li = s.li ∧
    (s.setSource t x).pt = s.pt ∧ (s.setSource t x).ms = s.ms ∧ (s.setSource t x).sq = s.sq ∧
    (s.setSource t x).ch = s.ch ∧ (s.setSource t x).mu = s.mu ∧ (s.setSource t x).ac = s.ac ∧
    (s.setSource t x).pu.de = s.pu.de ∧ (s.setSource t x).pu.codes = s.pu.codes ∧
    (s.setSource t x).rs = s.rs ∧ (s.setSource t x).nv = s.nv ∧ (s.setSource t x).free = s.free ∧
    (s.setSource t x).pending = s.pending := by
  simp [State.setSource]

/-- What `State.trip` leaves unchanged. -/
@[simp] theorem State.trip_frame (s : State) (t : TripSource) (b : Bool) :
    (s.trip t b).boot = s.boot ∧ (s.trip t b).cfg = s.cfg ∧ (s.trip t b).li = s.li ∧
    (s.trip t b).pt = s.pt ∧ (s.trip t b).ms = s.ms ∧ (s.trip t b).sq = s.sq ∧ (s.trip t b).ch = s.ch ∧
    (s.trip t b).mu = s.mu ∧ (s.trip t b).ac = s.ac ∧ (s.trip t b).rs = s.rs ∧ (s.trip t b).nv = s.nv ∧
    (s.trip t b).free = s.free ∧ (s.trip t b).pending = s.pending := by
  simp [State.trip]

/-- What `State.reportEvent` leaves unchanged. -/
@[simp] theorem State.reportEvent_frame (s : State) (t : TripSource) :
    (s.reportEvent t).boot = s.boot ∧ (s.reportEvent t).cfg = s.cfg ∧ (s.reportEvent t).li = s.li ∧
    (s.reportEvent t).pt = s.pt ∧ (s.reportEvent t).ms = s.ms ∧ (s.reportEvent t).sq = s.sq ∧
    (s.reportEvent t).ch = s.ch ∧ (s.reportEvent t).mu = s.mu ∧ (s.reportEvent t).ac = s.ac ∧
    (s.reportEvent t).rs = s.rs ∧ (s.reportEvent t).nv = s.nv ∧ (s.reportEvent t).free = s.free ∧
    (s.reportEvent t).pending = s.pending := by
  dsimp only [State.reportEvent]; (repeat' split) <;> simp

/-- What `State.recover` leaves unchanged. -/
@[simp] theorem State.recover_frame (s : State) (t : TripSource) :
    (s.recover t).boot = s.boot ∧ (s.recover t).cfg = s.cfg ∧ (s.recover t).li = s.li ∧
    (s.recover t).pt = s.pt ∧ (s.recover t).ms = s.ms ∧ (s.recover t).sq = s.sq ∧ (s.recover t).ch = s.ch ∧
    (s.recover t).mu = s.mu ∧ (s.recover t).ac = s.ac ∧ (s.recover t).rs = s.rs ∧ (s.recover t).nv = s.nv ∧
    (s.recover t).free = s.free ∧ (s.recover t).pending = s.pending := by
  simp [State.recover]

/-- What `State.clearLowest` leaves unchanged. -/
@[simp] theorem State.clearLowest_frame (s : State) :
    (s.clearLowest).boot = s.boot ∧ (s.clearLowest).cfg = s.cfg ∧ (s.clearLowest).li = s.li ∧
    (s.clearLowest).pt = s.pt ∧ (s.clearLowest).ms = s.ms ∧ (s.clearLowest).sq = s.sq ∧
    (s.clearLowest).ch = s.ch ∧ (s.clearLowest).mu = s.mu ∧ (s.clearLowest).ac = s.ac ∧
    (s.clearLowest).rs = s.rs ∧ (s.clearLowest).nv = s.nv ∧ (s.clearLowest).free = s.free ∧
    (s.clearLowest).pending = s.pending := by
  dsimp only [State.clearLowest]; (repeat' split) <;> simp

/-- What `State.evalFull` leaves unchanged. -/
@[simp] theorem State.evalFull_frame (s : State) :
    (s.evalFull).boot = s.boot ∧ (s.evalFull).cfg = s.cfg ∧ (s.evalFull).li = s.li ∧
    (s.evalFull).pt = s.pt ∧ (s.evalFull).ms = s.ms ∧ (s.evalFull).sq = s.sq ∧ (s.evalFull).ch = s.ch ∧
    (s.evalFull).mu = s.mu ∧ (s.evalFull).ac = s.ac ∧ (s.evalFull).pu.sources = s.pu.sources ∧
    (s.evalFull).rs.lastSequence = s.rs.lastSequence ∧ (s.evalFull).rs.writePosition = s.rs.writePosition ∧
    (s.evalFull).rs.fault = s.rs.fault ∧ (s.evalFull).rs.commitQueue = s.rs.commitQueue ∧
    (s.evalFull).rs.commit = s.rs.commit ∧ (s.evalFull).rs.readPointer = s.rs.readPointer ∧
    (s.evalFull).rs.target = s.rs.target ∧ (s.evalFull).rs.supplyLow = s.rs.supplyLow ∧
    (s.evalFull).rs.supplyBelow = s.rs.supplyBelow ∧
    (s.evalFull).rs.lock = s.rs.lock ∧ (s.evalFull).rs.working = s.rs.working ∧
    (s.evalFull).rs.idle = s.rs.idle ∧ (s.evalFull).rs.statusTimer = s.rs.statusTimer ∧
    (s.evalFull).rs.blockWrite = s.rs.blockWrite ∧ (s.evalFull).nv = s.nv ∧ (s.evalFull).free = s.free ∧
    (s.evalFull).pending = s.pending := by
  dsimp only [State.evalFull]; (repeat' split) <;> simp

/-- What `State.setFilter` leaves unchanged. -/
@[simp] theorem State.setFilter_frame (s : State) (p : Pin) (f : Filter) :
    (s.setFilter p f).boot = s.boot ∧ (s.setFilter p f).cfg = s.cfg ∧ (s.setFilter p f).li = s.li ∧
    (s.setFilter p f).pt = s.pt ∧ (s.setFilter p f).ms = s.ms ∧ (s.setFilter p f).sq = s.sq ∧
    (s.setFilter p f).ch = s.ch ∧ (s.setFilter p f).mu.ch = s.mu.ch ∧ (s.setFilter p f).mu.cmp = s.mu.cmp ∧
    (s.setFilter p f).mu.discA = s.mu.discA ∧ (s.setFilter p f).mu.discB = s.mu.discB ∧
    (s.setFilter p f).mu.presentA = s.mu.presentA ∧ (s.setFilter p f).mu.presentB = s.mu.presentB ∧
    (s.setFilter p f).mu.window = s.mu.window ∧ (s.setFilter p f).mu.zero = s.mu.zero ∧
    (s.setFilter p f).mu.zeroRejected = s.mu.zeroRejected ∧ (s.setFilter p f).ac = s.ac ∧
    (s.setFilter p f).pu = s.pu ∧ (s.setFilter p f).rs = s.rs ∧ (s.setFilter p f).nv = s.nv ∧
    (s.setFilter p f).free = s.free ∧ (s.setFilter p f).pending = s.pending := by
  simp [State.setFilter]

/-- What `State.seat` leaves unchanged. -/
@[simp] theorem State.seat_frame (s : State) (r : Route) :
    (s.seat r).boot = s.boot ∧ (s.seat r).cfg = s.cfg ∧ (s.seat r).li = s.li ∧ (s.seat r).pt = s.pt ∧
    (s.seat r).ms.own = s.ms.own ∧ (s.seat r).ms.marks = s.ms.marks ∧ (s.seat r).ms.backoff = s.ms.backoff ∧
    (s.seat r).ms.call = s.ms.call ∧ (s.seat r).sq = s.sq ∧ (s.seat r).ch = s.ch ∧ (s.seat r).mu = s.mu ∧
    (s.seat r).ac = s.ac ∧ (s.seat r).pu = s.pu ∧ (s.seat r).rs = s.rs ∧ (s.seat r).nv = s.nv ∧
    (s.seat r).free = s.free ∧ (s.seat r).pending = s.pending := by
  simp [State.seat]

/-- What `State.seatBoth` leaves unchanged. -/
@[simp] theorem State.seatBoth_frame (s : State) :
    (s.seatBoth).boot = s.boot ∧ (s.seatBoth).cfg = s.cfg ∧ (s.seatBoth).li = s.li ∧
    (s.seatBoth).pt = s.pt ∧ (s.seatBoth).ms.own = s.ms.own ∧ (s.seatBoth).ms.marks = s.ms.marks ∧
    (s.seatBoth).ms.backoff = s.ms.backoff ∧ (s.seatBoth).ms.call = s.ms.call ∧ (s.seatBoth).sq = s.sq ∧
    (s.seatBoth).ch = s.ch ∧ (s.seatBoth).mu = s.mu ∧ (s.seatBoth).ac = s.ac ∧ (s.seatBoth).pu = s.pu ∧
    (s.seatBoth).rs = s.rs ∧ (s.seatBoth).nv = s.nv ∧ (s.seatBoth).free = s.free ∧
    (s.seatBoth).pending = s.pending := by
  simp [State.seatBoth]

/-- What `State.hazardRuns` leaves unchanged. -/
@[simp] theorem State.hazardRuns_frame (s : State) (old : State) :
    (s.hazardRuns old).boot = s.boot ∧ (s.hazardRuns old).cfg = s.cfg ∧ (s.hazardRuns old).li = s.li ∧
    (s.hazardRuns old).pt = s.pt ∧ (s.hazardRuns old).ms.own = s.ms.own ∧
    (s.hazardRuns old).ms.marks = s.ms.marks ∧ (s.hazardRuns old).ms.backoff = s.ms.backoff ∧
    (s.hazardRuns old).ms.call = s.ms.call ∧ (s.hazardRuns old).sq = s.sq ∧ (s.hazardRuns old).ch = s.ch ∧
    (s.hazardRuns old).mu = s.mu ∧ (s.hazardRuns old).ac = s.ac ∧ (s.hazardRuns old).pu = s.pu ∧
    (s.hazardRuns old).rs = s.rs ∧ (s.hazardRuns old).nv = s.nv ∧ (s.hazardRuns old).free = s.free ∧
    (s.hazardRuns old).pending = s.pending := by
  dsimp only [State.hazardRuns]; (repeat' split) <;> simp

/-- What `State.receiverRuns` leaves unchanged. -/
@[simp] theorem State.receiverRuns_frame (s : State) (old : State) :
    (s.receiverRuns old).boot = s.boot ∧ (s.receiverRuns old).cfg = s.cfg ∧ (s.receiverRuns old).li = s.li ∧
    (s.receiverRuns old).pt = s.pt ∧ (s.receiverRuns old).ms.own = s.ms.own ∧
    (s.receiverRuns old).ms.marks = s.ms.marks ∧ (s.receiverRuns old).ms.backoff = s.ms.backoff ∧
    (s.receiverRuns old).ms.call = s.ms.call ∧ (s.receiverRuns old).sq = s.sq ∧
    (s.receiverRuns old).ch = s.ch ∧ (s.receiverRuns old).mu = s.mu ∧ (s.receiverRuns old).ac = s.ac ∧
    (s.receiverRuns old).pu = s.pu ∧ (s.receiverRuns old).rs = s.rs ∧ (s.receiverRuns old).nv = s.nv ∧
    (s.receiverRuns old).free = s.free ∧ (s.receiverRuns old).pending = s.pending := by
  dsimp only [State.receiverRuns]; (repeat' split) <;> simp

/-- What `State.dropClaim` leaves unchanged. -/
@[simp] theorem State.dropClaim_frame (s : State) (a : Nat) :
    (s.dropClaim a).boot = s.boot ∧ (s.dropClaim a).cfg = s.cfg ∧ (s.dropClaim a).li = s.li ∧
    (s.dropClaim a).pt = s.pt ∧ (s.dropClaim a).ms.own = s.ms.own ∧ (s.dropClaim a).ms.marks = s.ms.marks ∧
    (s.dropClaim a).ms.backoff = s.ms.backoff ∧ (s.dropClaim a).ms.call = s.ms.call ∧
    (s.dropClaim a).sq = s.sq ∧ (s.dropClaim a).ch = s.ch ∧ (s.dropClaim a).mu = s.mu ∧
    (s.dropClaim a).ac = s.ac ∧ (s.dropClaim a).pu = s.pu ∧ (s.dropClaim a).rs = s.rs ∧
    (s.dropClaim a).nv = s.nv ∧ (s.dropClaim a).free = s.free ∧ (s.dropClaim a).pending = s.pending := by
  dsimp only [State.dropClaim]; (repeat' split) <;> simp

/-- What `State.putClaim` leaves unchanged. -/
@[simp] theorem State.putClaim_frame (s : State) (a : Nat) (role : Role) (c : Claim) :
    (s.putClaim a role c).boot = s.boot ∧ (s.putClaim a role c).cfg = s.cfg ∧
    (s.putClaim a role c).li = s.li ∧ (s.putClaim a role c).pt = s.pt ∧
    (s.putClaim a role c).ms.own = s.ms.own ∧ (s.putClaim a role c).ms.marks = s.ms.marks ∧
    (s.putClaim a role c).ms.backoff = s.ms.backoff ∧ (s.putClaim a role c).ms.call = s.ms.call ∧
    (s.putClaim a role c).sq = s.sq ∧ (s.putClaim a role c).ch = s.ch ∧ (s.putClaim a role c).mu = s.mu ∧
    (s.putClaim a role c).ac = s.ac ∧ (s.putClaim a role c).pu = s.pu ∧ (s.putClaim a role c).rs = s.rs ∧
    (s.putClaim a role c).nv = s.nv ∧ (s.putClaim a role c).free = s.free ∧
    (s.putClaim a role c).pending = s.pending := by
  dsimp only [State.putClaim]; (repeat' split) <;> simp

/-- What `State.compareEcho` leaves unchanged. -/
@[simp] theorem State.compareEcho_frame (s : State) (a : Nat) (role : Role) (e : Echo) :
    (s.compareEcho a role e).boot = s.boot ∧ (s.compareEcho a role e).cfg = s.cfg ∧
    (s.compareEcho a role e).li = s.li ∧ (s.compareEcho a role e).pt = s.pt ∧
    (s.compareEcho a role e).ms.own = s.ms.own ∧ (s.compareEcho a role e).ms.marks = s.ms.marks ∧
    (s.compareEcho a role e).ms.backoff = s.ms.backoff ∧ (s.compareEcho a role e).ms.call = s.ms.call ∧
    (s.compareEcho a role e).sq = s.sq ∧ (s.compareEcho a role e).ch = s.ch ∧
    (s.compareEcho a role e).mu = s.mu ∧ (s.compareEcho a role e).ac = s.ac ∧
    (s.compareEcho a role e).pu = s.pu ∧ (s.compareEcho a role e).rs = s.rs ∧
    (s.compareEcho a role e).nv = s.nv ∧ (s.compareEcho a role e).free = s.free ∧
    (s.compareEcho a role e).pending = s.pending := by
  dsimp only [State.compareEcho]; (repeat' split) <;> simp

/-- What `State.raiseClaim` leaves unchanged. -/
@[simp] theorem State.raiseClaim_frame (s : State) (r : Route) (c : ClaimClass) :
    (s.raiseClaim r c).boot = s.boot ∧ (s.raiseClaim r c).cfg = s.cfg ∧
    (s.raiseClaim r c).li.idle = s.li.idle ∧ (s.raiseClaim r c).li.receiver = s.li.receiver ∧
    (s.raiseClaim r c).li.transmitter = s.li.transmitter ∧
    (s.raiseClaim r c).li.lastHazard = s.li.lastHazard ∧ (s.raiseClaim r c).pt = s.pt ∧
    (s.raiseClaim r c).ms.listA = s.ms.listA ∧ (s.raiseClaim r c).ms.listB = s.ms.listB ∧
    (s.raiseClaim r c).ms.marks = s.ms.marks ∧ (s.raiseClaim r c).ms.backoff = s.ms.backoff ∧
    (s.raiseClaim r c).ms.call = s.ms.call ∧ (s.raiseClaim r c).sq = s.sq ∧ (s.raiseClaim r c).ch = s.ch ∧
    (s.raiseClaim r c).mu = s.mu ∧ (s.raiseClaim r c).ac = s.ac ∧ (s.raiseClaim r c).pu = s.pu ∧
    (s.raiseClaim r c).rs = s.rs ∧ (s.raiseClaim r c).nv = s.nv ∧ (s.raiseClaim r c).free = s.free ∧
    (s.raiseClaim r c).pending = s.pending := by
  simp [State.raiseClaim]

/-- The own claim once it has been raised (R99): it is held, and unseated until its CLAIM is heard (R107). -/
@[simp] theorem State.raiseClaim_own (s : State) (r : Route) (c : ClaimClass) :
    (s.raiseClaim r c).ms.own = some ⟨r, c, min s.cfg.ownDemand (s.cfg.cap r)⟩ ∧
    (s.raiseClaim r c).ms.claimHeard = false ∧ (s.raiseClaim r c).ownSeated = false := by
  simp [State.raiseClaim, State.ownSeated]

/-- What `State.releaseClaim` leaves unchanged. -/
@[simp] theorem State.releaseClaim_frame (s : State) :
    (s.releaseClaim).boot = s.boot ∧ (s.releaseClaim).cfg = s.cfg ∧ (s.releaseClaim).li.idle = s.li.idle ∧
    (s.releaseClaim).li.receiver = s.li.receiver ∧ (s.releaseClaim).li.transmitter = s.li.transmitter ∧
    (s.releaseClaim).li.lastHazard = s.li.lastHazard ∧ (s.releaseClaim).pt = s.pt ∧
    (s.releaseClaim).ms.listA = s.ms.listA ∧ (s.releaseClaim).ms.listB = s.ms.listB ∧
    (s.releaseClaim).ms.marks = s.ms.marks ∧ (s.releaseClaim).ms.backoff = s.ms.backoff ∧
    (s.releaseClaim).ms.call = s.ms.call ∧ (s.releaseClaim).sq = s.sq ∧ (s.releaseClaim).ch = s.ch ∧
    (s.releaseClaim).mu = s.mu ∧ (s.releaseClaim).ac = s.ac ∧ (s.releaseClaim).pu = s.pu ∧
    (s.releaseClaim).rs = s.rs ∧ (s.releaseClaim).nv = s.nv ∧ (s.releaseClaim).free = s.free ∧
    (s.releaseClaim).pending = s.pending := by
  dsimp only [State.releaseClaim]; (repeat' split) <;> simp

/-- No own claim is left once it has been released (R100). -/
@[simp] theorem State.releaseClaim_own (s : State) :
    s.releaseClaim.ms.own = none ∧ s.releaseClaim.ownSeated = false := by
  unfold State.releaseClaim
  split <;> simp_all [State.ownSeated]

/-- What `State.callPurge` leaves unchanged. -/
@[simp] theorem State.callPurge_frame (s : State) :
    (s.callPurge).boot = s.boot ∧ (s.callPurge).cfg = s.cfg ∧ (s.callPurge).li.idle = s.li.idle ∧
    (s.callPurge).li.receiver = s.li.receiver ∧ (s.callPurge).li.transmitter = s.li.transmitter ∧
    (s.callPurge).li.lastHazard = s.li.lastHazard ∧ (s.callPurge).pt = s.pt ∧
    (s.callPurge).ms.listA = s.ms.listA ∧ (s.callPurge).ms.listB = s.ms.listB ∧
    (s.callPurge).ms.own = s.ms.own ∧ (s.callPurge).ms.marks = s.ms.marks ∧
    (s.callPurge).ms.backoff = s.ms.backoff ∧ (s.callPurge).sq = s.sq ∧ (s.callPurge).ch = s.ch ∧
    (s.callPurge).mu = s.mu ∧ (s.callPurge).ac = s.ac ∧ (s.callPurge).pu = s.pu ∧ (s.callPurge).rs = s.rs ∧
    (s.callPurge).nv = s.nv ∧ (s.callPurge).free = s.free ∧ (s.callPurge).pending = s.pending := by
  simp [State.callPurge]

/-- What `State.endPurge` leaves unchanged. -/
@[simp] theorem State.endPurge_frame (s : State) :
    (s.endPurge).boot = s.boot ∧ (s.endPurge).cfg = s.cfg ∧ (s.endPurge).li.idle = s.li.idle ∧
    (s.endPurge).li.receiver = s.li.receiver ∧ (s.endPurge).li.transmitter = s.li.transmitter ∧
    (s.endPurge).li.lastHazard = s.li.lastHazard ∧ (s.endPurge).pt = s.pt ∧
    (s.endPurge).ms.listA = s.ms.listA ∧ (s.endPurge).ms.listB = s.ms.listB ∧
    (s.endPurge).ms.own = s.ms.own ∧ (s.endPurge).ms.marks = s.ms.marks ∧
    (s.endPurge).ms.backoff = s.ms.backoff ∧ (s.endPurge).sq = s.sq ∧ (s.endPurge).ch = s.ch ∧
    (s.endPurge).mu = s.mu ∧ (s.endPurge).ac = s.ac ∧ (s.endPurge).pu = s.pu ∧ (s.endPurge).rs = s.rs ∧
    (s.endPurge).nv = s.nv ∧ (s.endPurge).free = s.free ∧ (s.endPurge).pending = s.pending := by
  simp [State.endPurge]

/-- What `State.pathToVent` leaves unchanged. -/
@[simp] theorem State.pathToVent_frame (s : State) :
    (s.pathToVent).boot = s.boot ∧ (s.pathToVent).cfg = s.cfg ∧ (s.pathToVent).li = s.li ∧
    (s.pathToVent).pt = s.pt ∧ (s.pathToVent).ms = s.ms ∧ (s.pathToVent).sq = s.sq ∧
    (s.pathToVent).ch.st = s.ch.st ∧ (s.pathToVent).ch.pending = s.ch.pending ∧
    (s.pathToVent).ch.cls = s.ch.cls ∧ (s.pathToVent).ch.door = s.ch.door ∧
    (s.pathToVent).ch.doorOpen = s.ch.doorOpen ∧ (s.pathToVent).ch.sweepWait = s.ch.sweepWait ∧
    (s.pathToVent).ch.sweep = s.ch.sweep ∧ (s.pathToVent).ch.sweepRetry = s.ch.sweepRetry ∧
    (s.pathToVent).ch.zeroDone = s.ch.zeroDone ∧ (s.pathToVent).mu = s.mu ∧ (s.pathToVent).ac = s.ac ∧
    (s.pathToVent).pu.sources = s.pu.sources ∧ (s.pathToVent).rs = s.rs ∧ (s.pathToVent).nv = s.nv ∧
    (s.pathToVent).free = s.free ∧ (s.pathToVent).pending = s.pending := by
  simp [State.pathToVent]

/-- What `State.callToVent` leaves unchanged. -/
@[simp] theorem State.callToVent_frame (s : State) :
    (s.callToVent).boot = s.boot ∧ (s.callToVent).cfg = s.cfg ∧ (s.callToVent).li = s.li ∧
    (s.callToVent).pt = s.pt ∧ (s.callToVent).ms.listA = s.ms.listA ∧ (s.callToVent).ms.listB = s.ms.listB ∧
    (s.callToVent).ms.own = s.ms.own ∧ (s.callToVent).ms.marks = s.ms.marks ∧
    (s.callToVent).ms.backoff = s.ms.backoff ∧ (s.callToVent).sq = s.sq ∧ (s.callToVent).ch.st = s.ch.st ∧
    (s.callToVent).ch.pending = s.ch.pending ∧ (s.callToVent).ch.cls = s.ch.cls ∧
    (s.callToVent).ch.door = s.ch.door ∧ (s.callToVent).ch.doorOpen = s.ch.doorOpen ∧
    (s.callToVent).ch.sweepWait = s.ch.sweepWait ∧ (s.callToVent).ch.sweep = s.ch.sweep ∧
    (s.callToVent).ch.sweepRetry = s.ch.sweepRetry ∧ (s.callToVent).ch.zeroDone = s.ch.zeroDone ∧
    (s.callToVent).mu = s.mu ∧ (s.callToVent).ac = s.ac ∧ (s.callToVent).pu.sources = s.pu.sources ∧
    (s.callToVent).rs = s.rs ∧ (s.callToVent).nv = s.nv ∧ (s.callToVent).free = s.free ∧
    (s.callToVent).pending = s.pending := by
  simp [State.callToVent]

/-- What `State.checkCall` leaves unchanged. -/
@[simp] theorem State.checkCall_frame (s : State) :
    (s.checkCall).boot = s.boot ∧ (s.checkCall).cfg = s.cfg ∧ (s.checkCall).li = s.li ∧
    (s.checkCall).pt = s.pt ∧ (s.checkCall).ms.listA = s.ms.listA ∧ (s.checkCall).ms.listB = s.ms.listB ∧
    (s.checkCall).ms.own = s.ms.own ∧ (s.checkCall).ms.marks = s.ms.marks ∧
    (s.checkCall).ms.backoff = s.ms.backoff ∧ (s.checkCall).sq = s.sq ∧ (s.checkCall).ch.st = s.ch.st ∧
    (s.checkCall).ch.pending = s.ch.pending ∧ (s.checkCall).ch.cls = s.ch.cls ∧
    (s.checkCall).ch.door = s.ch.door ∧ (s.checkCall).ch.doorOpen = s.ch.doorOpen ∧
    (s.checkCall).ch.sweepWait = s.ch.sweepWait ∧ (s.checkCall).ch.sweep = s.ch.sweep ∧
    (s.checkCall).ch.sweepRetry = s.ch.sweepRetry ∧ (s.checkCall).ch.zeroDone = s.ch.zeroDone ∧
    (s.checkCall).mu = s.mu ∧ (s.checkCall).ac = s.ac ∧ (s.checkCall).pu.sources = s.pu.sources ∧
    (s.checkCall).rs = s.rs ∧ (s.checkCall).nv = s.nv ∧ (s.checkCall).free = s.free ∧
    (s.checkCall).pending = s.pending := by
  dsimp only [State.checkCall]; (repeat' split) <;> simp

/-- What `State.dropAwaited` leaves unchanged. -/
@[simp] theorem State.dropAwaited_frame (s : State) (a : Nat) :
    (s.dropAwaited a).boot = s.boot ∧ (s.dropAwaited a).cfg = s.cfg ∧ (s.dropAwaited a).li = s.li ∧
    (s.dropAwaited a).pt = s.pt ∧ (s.dropAwaited a).ms.listA = s.ms.listA ∧
    (s.dropAwaited a).ms.listB = s.ms.listB ∧ (s.dropAwaited a).ms.own = s.ms.own ∧
    (s.dropAwaited a).ms.marks = s.ms.marks ∧ (s.dropAwaited a).ms.backoff = s.ms.backoff ∧
    (s.dropAwaited a).sq = s.sq ∧ (s.dropAwaited a).ch.st = s.ch.st ∧
    (s.dropAwaited a).ch.pending = s.ch.pending ∧ (s.dropAwaited a).ch.cls = s.ch.cls ∧
    (s.dropAwaited a).ch.door = s.ch.door ∧ (s.dropAwaited a).ch.doorOpen = s.ch.doorOpen ∧
    (s.dropAwaited a).ch.sweepWait = s.ch.sweepWait ∧ (s.dropAwaited a).ch.sweep = s.ch.sweep ∧
    (s.dropAwaited a).ch.sweepRetry = s.ch.sweepRetry ∧ (s.dropAwaited a).ch.zeroDone = s.ch.zeroDone ∧
    (s.dropAwaited a).mu = s.mu ∧ (s.dropAwaited a).ac = s.ac ∧
    (s.dropAwaited a).pu.sources = s.pu.sources ∧ (s.dropAwaited a).rs = s.rs ∧
    (s.dropAwaited a).nv = s.nv ∧ (s.dropAwaited a).free = s.free ∧ (s.dropAwaited a).pending = s.pending := by
  dsimp only [State.dropAwaited]; (repeat' split) <;> simp

/-- What `State.setMark` leaves unchanged. -/
@[simp] theorem State.setMark_frame (s : State) (a : Nat) :
    (s.setMark a).boot = s.boot ∧ (s.setMark a).cfg = s.cfg ∧ (s.setMark a).li = s.li ∧
    (s.setMark a).pt = s.pt ∧ (s.setMark a).ms.own = s.ms.own ∧ (s.setMark a).ms.backoff = s.ms.backoff ∧
    (s.setMark a).ms.call = s.ms.call ∧ (s.setMark a).sq = s.sq ∧ (s.setMark a).ch = s.ch ∧
    (s.setMark a).mu = s.mu ∧ (s.setMark a).ac = s.ac ∧ (s.setMark a).pu = s.pu ∧ (s.setMark a).rs = s.rs ∧
    (s.setMark a).nv = s.nv ∧ (s.setMark a).free = s.free ∧ (s.setMark a).pending = s.pending := by
  dsimp only [State.setMark]; (repeat' split) <;> simp

/-- What `State.clearMark` leaves unchanged. -/
@[simp] theorem State.clearMark_frame (s : State) (a : Nat) :
    (s.clearMark a).boot = s.boot ∧ (s.clearMark a).cfg = s.cfg ∧ (s.clearMark a).li = s.li ∧
    (s.clearMark a).pt = s.pt ∧ (s.clearMark a).ms.own = s.ms.own ∧
    (s.clearMark a).ms.backoff = s.ms.backoff ∧ (s.clearMark a).ms.call = s.ms.call ∧
    (s.clearMark a).sq = s.sq ∧ (s.clearMark a).ch = s.ch ∧ (s.clearMark a).mu = s.mu ∧
    (s.clearMark a).ac = s.ac ∧ (s.clearMark a).pu = s.pu ∧ (s.clearMark a).rs = s.rs ∧
    (s.clearMark a).nv = s.nv ∧ (s.clearMark a).free = s.free ∧ (s.clearMark a).pending = s.pending := by
  dsimp only [State.clearMark]; (repeat' split) <;> simp

/-- What `State.setWindow` leaves unchanged. -/
@[simp] theorem State.setWindow_frame (s : State) (w : Window) :
    (s.setWindow w).boot = s.boot ∧ (s.setWindow w).cfg = s.cfg ∧ (s.setWindow w).li = s.li ∧
    (s.setWindow w).pt = s.pt ∧ (s.setWindow w).ms = s.ms ∧ (s.setWindow w).sq = s.sq ∧
    (s.setWindow w).ch = s.ch ∧ (s.setWindow w).mu.ch = s.mu.ch ∧
    (s.setWindow w).mu.filters = s.mu.filters ∧ (s.setWindow w).mu.cmp = s.mu.cmp ∧
    (s.setWindow w).mu.discA = s.mu.discA ∧ (s.setWindow w).mu.discB = s.mu.discB ∧
    (s.setWindow w).mu.presentA = s.mu.presentA ∧ (s.setWindow w).mu.presentB = s.mu.presentB ∧
    (s.setWindow w).mu.zero = s.mu.zero ∧ (s.setWindow w).mu.zeroRejected = s.mu.zeroRejected ∧
    (s.setWindow w).ac = s.ac ∧ (s.setWindow w).pu = s.pu ∧ (s.setWindow w).rs = s.rs ∧
    (s.setWindow w).nv = s.nv ∧ (s.setWindow w).free = s.free ∧ (s.setWindow w).pending = s.pending := by
  simp [State.setWindow]

/-- What `State.setQueue` leaves unchanged. -/
@[simp] theorem State.setQueue_frame (s : State) (q : List QueueEntry) :
    (s.setQueue q).boot = s.boot ∧ (s.setQueue q).cfg = s.cfg ∧ (s.setQueue q).li = s.li ∧
    (s.setQueue q).pt = s.pt ∧ (s.setQueue q).ms = s.ms ∧ (s.setQueue q).sq = s.sq ∧
    (s.setQueue q).ch = s.ch ∧ (s.setQueue q).mu = s.mu ∧ (s.setQueue q).ac.intake = s.ac.intake ∧
    (s.setQueue q).ac.chamber = s.ac.chamber ∧ (s.setQueue q).ac.nextNumber = s.ac.nextNumber ∧
    (s.setQueue q).ac.offer = s.ac.offer ∧ (s.setQueue q).pu = s.pu ∧ (s.setQueue q).rs = s.rs ∧
    (s.setQueue q).nv = s.nv ∧ (s.setQueue q).free = s.free ∧ (s.setQueue q).pending = s.pending := by
  simp [State.setQueue]

/-- What `State.onActive` leaves unchanged. -/
@[simp] theorem State.onActive_frame (s : State) (f : QueueEntry → QueueEntry) :
    (s.onActive f).boot = s.boot ∧ (s.onActive f).cfg = s.cfg ∧ (s.onActive f).li = s.li ∧
    (s.onActive f).pt = s.pt ∧ (s.onActive f).ms = s.ms ∧ (s.onActive f).sq = s.sq ∧
    (s.onActive f).ch = s.ch ∧ (s.onActive f).mu = s.mu ∧ (s.onActive f).ac.intake = s.ac.intake ∧
    (s.onActive f).ac.chamber = s.ac.chamber ∧ (s.onActive f).ac.nextNumber = s.ac.nextNumber ∧
    (s.onActive f).ac.offer = s.ac.offer ∧ (s.onActive f).pu = s.pu ∧ (s.onActive f).rs = s.rs ∧
    (s.onActive f).nv = s.nv ∧ (s.onActive f).free = s.free ∧ (s.onActive f).pending = s.pending := by
  dsimp only [State.onActive]; simp

/-- What `State.flagActive` leaves unchanged. -/
@[simp] theorem State.flagActive_frame (s : State) (f : Flags → Flags) :
    (s.flagActive f).boot = s.boot ∧ (s.flagActive f).cfg = s.cfg ∧ (s.flagActive f).li = s.li ∧
    (s.flagActive f).pt = s.pt ∧ (s.flagActive f).ms = s.ms ∧ (s.flagActive f).sq = s.sq ∧
    (s.flagActive f).ch = s.ch ∧ (s.flagActive f).mu = s.mu ∧ (s.flagActive f).ac.intake = s.ac.intake ∧
    (s.flagActive f).ac.chamber = s.ac.chamber ∧ (s.flagActive f).ac.nextNumber = s.ac.nextNumber ∧
    (s.flagActive f).ac.offer = s.ac.offer ∧ (s.flagActive f).pu = s.pu ∧ (s.flagActive f).rs = s.rs ∧
    (s.flagActive f).nv = s.nv ∧ (s.flagActive f).free = s.free ∧ (s.flagActive f).pending = s.pending := by
  simp [State.flagActive]

/-- What `State.markAbandoned` leaves unchanged. -/
@[simp] theorem State.markAbandoned_frame (s : State) :
    (s.markAbandoned).boot = s.boot ∧ (s.markAbandoned).cfg = s.cfg ∧ (s.markAbandoned).li = s.li ∧
    (s.markAbandoned).pt = s.pt ∧ (s.markAbandoned).ms = s.ms ∧ (s.markAbandoned).sq = s.sq ∧
    (s.markAbandoned).ch = s.ch ∧ (s.markAbandoned).mu = s.mu ∧ (s.markAbandoned).ac.intake = s.ac.intake ∧
    (s.markAbandoned).ac.chamber = s.ac.chamber ∧ (s.markAbandoned).ac.nextNumber = s.ac.nextNumber ∧
    (s.markAbandoned).ac.offer = s.ac.offer ∧ (s.markAbandoned).pu = s.pu ∧ (s.markAbandoned).rs = s.rs ∧
    (s.markAbandoned).nv = s.nv ∧ (s.markAbandoned).free = s.free ∧ (s.markAbandoned).pending = s.pending := by
  simp [State.markAbandoned]

/-- What `State.finalize` leaves unchanged. -/
@[simp] theorem State.finalize_frame (s : State) :
    (s.finalize).boot = s.boot ∧ (s.finalize).cfg = s.cfg ∧ (s.finalize).li = s.li ∧
    (s.finalize).pt = s.pt ∧ (s.finalize).ms = s.ms ∧ (s.finalize).sq = s.sq ∧ (s.finalize).ch = s.ch ∧
    (s.finalize).mu = s.mu ∧ (s.finalize).ac.intake = s.ac.intake ∧ (s.finalize).ac.chamber = s.ac.chamber ∧
    (s.finalize).ac.nextNumber = s.ac.nextNumber ∧ (s.finalize).ac.offer = s.ac.offer ∧
    (s.finalize).pu = s.pu ∧ (s.finalize).rs = s.rs ∧ (s.finalize).nv = s.nv ∧
    (s.finalize).pending = s.pending := by
  dsimp only [State.finalize]; (repeat' split) <;> simp

/-- What `State.createAccount` leaves unchanged. -/
@[simp] theorem State.createAccount_frame (s : State) (a : Account) (st : QueueState) :
    (s.createAccount a st).boot = s.boot ∧ (s.createAccount a st).cfg = s.cfg ∧
    (s.createAccount a st).li = s.li ∧ (s.createAccount a st).pt = s.pt ∧ (s.createAccount a st).ms = s.ms ∧
    (s.createAccount a st).sq = s.sq ∧ (s.createAccount a st).ch = s.ch ∧ (s.createAccount a st).mu = s.mu ∧
    (s.createAccount a st).ac.intake = s.ac.intake ∧ (s.createAccount a st).ac.chamber = s.ac.chamber ∧
    (s.createAccount a st).ac.offer = s.ac.offer ∧ (s.createAccount a st).pu = s.pu ∧
    (s.createAccount a st).rs = s.rs ∧ (s.createAccount a st).nv = s.nv ∧
    (s.createAccount a st).free = s.free ∧ (s.createAccount a st).pending = s.pending := by
  simp [State.createAccount]

/-- What `State.dropQueue` leaves unchanged. -/
@[simp] theorem State.dropQueue_frame (s : State) (k : Key) :
    (s.dropQueue k).boot = s.boot ∧ (s.dropQueue k).cfg = s.cfg ∧ (s.dropQueue k).li = s.li ∧
    (s.dropQueue k).pt = s.pt ∧ (s.dropQueue k).ms = s.ms ∧ (s.dropQueue k).sq = s.sq ∧
    (s.dropQueue k).ch = s.ch ∧ (s.dropQueue k).mu = s.mu ∧ (s.dropQueue k).ac.intake = s.ac.intake ∧
    (s.dropQueue k).ac.chamber = s.ac.chamber ∧ (s.dropQueue k).ac.nextNumber = s.ac.nextNumber ∧
    (s.dropQueue k).ac.offer = s.ac.offer ∧ (s.dropQueue k).pu = s.pu ∧ (s.dropQueue k).rs = s.rs ∧
    (s.dropQueue k).nv = s.nv ∧ (s.dropQueue k).free = s.free ∧ (s.dropQueue k).pending = s.pending := by
  simp [State.dropQueue]

/-- What `State.setOffer` leaves unchanged. -/
@[simp] theorem State.setOffer_frame (s : State) (o : Offer) :
    (s.setOffer o).boot = s.boot ∧ (s.setOffer o).cfg = s.cfg ∧ (s.setOffer o).li = s.li ∧
    (s.setOffer o).pt = s.pt ∧ (s.setOffer o).ms = s.ms ∧ (s.setOffer o).sq = s.sq ∧
    (s.setOffer o).ch = s.ch ∧ (s.setOffer o).mu = s.mu ∧ (s.setOffer o).ac.queue = s.ac.queue ∧
    (s.setOffer o).ac.intake = s.ac.intake ∧ (s.setOffer o).ac.chamber = s.ac.chamber ∧
    (s.setOffer o).ac.nextNumber = s.ac.nextNumber ∧ (s.setOffer o).pu = s.pu ∧ (s.setOffer o).rs = s.rs ∧
    (s.setOffer o).nv = s.nv ∧ (s.setOffer o).free = s.free ∧ (s.setOffer o).pending = s.pending := by
  simp [State.setOffer]

/-- What `State.tryOffer` leaves unchanged. -/
@[simp] theorem State.tryOffer_frame (s : State) :
    (s.tryOffer).boot = s.boot ∧ (s.tryOffer).cfg = s.cfg ∧ (s.tryOffer).li.idle = s.li.idle ∧
    (s.tryOffer).li.receiver = s.li.receiver ∧ (s.tryOffer).li.transmitter = s.li.transmitter ∧
    (s.tryOffer).li.lastHazard = s.li.lastHazard ∧ (s.tryOffer).pt = s.pt ∧ (s.tryOffer).ms = s.ms ∧
    (s.tryOffer).sq = s.sq ∧ (s.tryOffer).ch = s.ch ∧ (s.tryOffer).mu = s.mu ∧
    (s.tryOffer).ac.queue = s.ac.queue ∧ (s.tryOffer).ac.intake = s.ac.intake ∧
    (s.tryOffer).ac.chamber = s.ac.chamber ∧ (s.tryOffer).ac.nextNumber = s.ac.nextNumber ∧
    (s.tryOffer).pu = s.pu ∧ (s.tryOffer).rs = s.rs ∧ (s.tryOffer).nv = s.nv ∧ (s.tryOffer).free = s.free ∧
    (s.tryOffer).pending = s.pending := by
  dsimp only [State.tryOffer]; (repeat' split) <;> simp

/-- What `State.downstreamChange` leaves unchanged. -/
@[simp] theorem State.downstreamChange_frame (s : State) (old : State) :
    (s.downstreamChange old).boot = s.boot ∧ (s.downstreamChange old).cfg = s.cfg ∧
    (s.downstreamChange old).li.idle = s.li.idle ∧ (s.downstreamChange old).li.receiver = s.li.receiver ∧
    (s.downstreamChange old).li.transmitter = s.li.transmitter ∧
    (s.downstreamChange old).li.lastHazard = s.li.lastHazard ∧ (s.downstreamChange old).pt = s.pt ∧
    (s.downstreamChange old).ms = s.ms ∧ (s.downstreamChange old).sq = s.sq ∧
    (s.downstreamChange old).ch = s.ch ∧ (s.downstreamChange old).mu = s.mu ∧
    (s.downstreamChange old).ac.intake = s.ac.intake ∧ (s.downstreamChange old).ac.chamber = s.ac.chamber ∧
    (s.downstreamChange old).ac.nextNumber = s.ac.nextNumber ∧ (s.downstreamChange old).pu = s.pu ∧
    (s.downstreamChange old).rs = s.rs ∧ (s.downstreamChange old).nv = s.nv ∧
    (s.downstreamChange old).free = s.free ∧ (s.downstreamChange old).pending = s.pending := by
  dsimp only [State.downstreamChange]; (repeat' split) <;> simp

/-- What `State.setChamberList` leaves unchanged. -/
@[simp] theorem State.setChamberList_frame (s : State) (l : List ChamberEntry) :
    (s.setChamberList l).boot = s.boot ∧ (s.setChamberList l).cfg = s.cfg ∧ (s.setChamberList l).li = s.li ∧
    (s.setChamberList l).pt = s.pt ∧ (s.setChamberList l).ms = s.ms ∧ (s.setChamberList l).sq = s.sq ∧
    (s.setChamberList l).ch = s.ch ∧ (s.setChamberList l).mu = s.mu ∧
    (s.setChamberList l).ac.queue = s.ac.queue ∧ (s.setChamberList l).ac.intake = s.ac.intake ∧
    (s.setChamberList l).ac.nextNumber = s.ac.nextNumber ∧ (s.setChamberList l).ac.offer = s.ac.offer ∧
    (s.setChamberList l).pu = s.pu ∧ (s.setChamberList l).rs = s.rs ∧ (s.setChamberList l).nv = s.nv ∧
    (s.setChamberList l).free = s.free ∧ (s.setChamberList l).pending = s.pending := by
  simp [State.setChamberList]

/-- What `State.closeWindow` leaves unchanged. -/
@[simp] theorem State.closeWindow_frame (s : State) (k : Key) :
    (s.closeWindow k).boot = s.boot ∧ (s.closeWindow k).cfg = s.cfg ∧ (s.closeWindow k).li = s.li ∧
    (s.closeWindow k).pt = s.pt ∧ (s.closeWindow k).ms = s.ms ∧ (s.closeWindow k).sq = s.sq ∧
    (s.closeWindow k).ch = s.ch ∧ (s.closeWindow k).mu.ch = s.mu.ch ∧
    (s.closeWindow k).mu.filters = s.mu.filters ∧ (s.closeWindow k).mu.cmp.pulldown = s.mu.cmp.pulldown ∧
    (s.closeWindow k).mu.cmp.ambientWatch = s.mu.cmp.ambientWatch ∧
    (s.closeWindow k).mu.cmp.ambientStop = s.mu.cmp.ambientStop ∧
    (s.closeWindow k).mu.cmp.headerHigh = s.mu.cmp.headerHigh ∧
    (s.closeWindow k).mu.cmp.headerRecovered = s.mu.cmp.headerRecovered ∧
    (s.closeWindow k).mu.cmp.inert = s.mu.cmp.inert ∧
    (s.closeWindow k).mu.cmp.oxygenUnder = s.mu.cmp.oxygenUnder ∧
    (s.closeWindow k).mu.cmp.oxygenHigh = s.mu.cmp.oxygenHigh ∧
    (s.closeWindow k).mu.cmp.chamberWatch = s.mu.cmp.chamberWatch ∧
    (s.closeWindow k).mu.cmp.chamberStop = s.mu.cmp.chamberStop ∧
    (s.closeWindow k).mu.cmp.purgeNeeded = s.mu.cmp.purgeNeeded ∧
    (s.closeWindow k).mu.cmp.purgeClear = s.mu.cmp.purgeClear ∧ (s.closeWindow k).mu.discA = s.mu.discA ∧
    (s.closeWindow k).mu.discB = s.mu.discB ∧ (s.closeWindow k).mu.presentA = s.mu.presentA ∧
    (s.closeWindow k).mu.presentB = s.mu.presentB ∧ (s.closeWindow k).mu.window = s.mu.window ∧
    (s.closeWindow k).mu.zero = s.mu.zero ∧ (s.closeWindow k).mu.zeroRejected = s.mu.zeroRejected ∧
    (s.closeWindow k).ac.queue = s.ac.queue ∧ (s.closeWindow k).ac.intake = s.ac.intake ∧
    (s.closeWindow k).ac.nextNumber = s.ac.nextNumber ∧ (s.closeWindow k).ac.offer = s.ac.offer ∧
    (s.closeWindow k).pu = s.pu ∧ (s.closeWindow k).rs.lastSequence = s.rs.lastSequence ∧
    (s.closeWindow k).rs.writePosition = s.rs.writePosition ∧ (s.closeWindow k).rs.full = s.rs.full ∧
    (s.closeWindow k).rs.fault = s.rs.fault ∧ (s.closeWindow k).rs.commit = s.rs.commit ∧
    (s.closeWindow k).rs.readPointer = s.rs.readPointer ∧ (s.closeWindow k).rs.target = s.rs.target ∧
    (s.closeWindow k).rs.supplyLow = s.rs.supplyLow ∧ (s.closeWindow k).rs.supplyBelow = s.rs.supplyBelow ∧
    (s.closeWindow k).rs.lock = s.rs.lock ∧
    (s.closeWindow k).rs.working = s.rs.working ∧ (s.closeWindow k).rs.idle = s.rs.idle ∧
    (s.closeWindow k).rs.statusTimer = s.rs.statusTimer ∧
    (s.closeWindow k).rs.blockWrite = s.rs.blockWrite ∧ (s.closeWindow k).nv = s.nv ∧
    (s.closeWindow k).free = s.free ∧ (s.closeWindow k).pending = s.pending := by
  dsimp only [State.closeWindow]; (repeat' split) <;> simp

/-- What `State.headEnters` leaves unchanged. -/
@[simp] theorem State.headEnters_frame (s : State) :
    (s.headEnters).boot = s.boot ∧ (s.headEnters).cfg = s.cfg ∧ (s.headEnters).li = s.li ∧
    (s.headEnters).pt = s.pt ∧ (s.headEnters).ms = s.ms ∧ (s.headEnters).sq = s.sq ∧
    (s.headEnters).ch = s.ch ∧ (s.headEnters).mu = s.mu ∧ (s.headEnters).ac.queue = s.ac.queue ∧
    (s.headEnters).ac.nextNumber = s.ac.nextNumber ∧ (s.headEnters).ac.offer = s.ac.offer ∧
    (s.headEnters).pu = s.pu ∧ (s.headEnters).rs = s.rs ∧ (s.headEnters).nv = s.nv ∧
    (s.headEnters).free = s.free ∧ (s.headEnters).pending = s.pending := by
  dsimp only [State.headEnters]; (repeat' split) <;> simp

/-- What `State.setPulldown` leaves unchanged. -/
@[simp] theorem State.setPulldown_frame (s : State) (c : Comparator) :
    (s.setPulldown c).boot = s.boot ∧ (s.setPulldown c).cfg = s.cfg ∧ (s.setPulldown c).li = s.li ∧
    (s.setPulldown c).pt = s.pt ∧ (s.setPulldown c).ms = s.ms ∧ (s.setPulldown c).sq = s.sq ∧
    (s.setPulldown c).ch = s.ch ∧ (s.setPulldown c).mu.ch = s.mu.ch ∧
    (s.setPulldown c).mu.filters = s.mu.filters ∧
    (s.setPulldown c).mu.cmp.ambientWatch = s.mu.cmp.ambientWatch ∧
    (s.setPulldown c).mu.cmp.ambientStop = s.mu.cmp.ambientStop ∧
    (s.setPulldown c).mu.cmp.headerHigh = s.mu.cmp.headerHigh ∧
    (s.setPulldown c).mu.cmp.headerRecovered = s.mu.cmp.headerRecovered ∧
    (s.setPulldown c).mu.cmp.inert = s.mu.cmp.inert ∧
    (s.setPulldown c).mu.cmp.oxygenUnder = s.mu.cmp.oxygenUnder ∧
    (s.setPulldown c).mu.cmp.oxygenHigh = s.mu.cmp.oxygenHigh ∧
    (s.setPulldown c).mu.cmp.chamberWatch = s.mu.cmp.chamberWatch ∧
    (s.setPulldown c).mu.cmp.chamberStop = s.mu.cmp.chamberStop ∧
    (s.setPulldown c).mu.cmp.purgeNeeded = s.mu.cmp.purgeNeeded ∧
    (s.setPulldown c).mu.cmp.purgeClear = s.mu.cmp.purgeClear ∧
    (s.setPulldown c).mu.cmp.quiet = s.mu.cmp.quiet ∧ (s.setPulldown c).mu.discA = s.mu.discA ∧
    (s.setPulldown c).mu.discB = s.mu.discB ∧ (s.setPulldown c).mu.presentA = s.mu.presentA ∧
    (s.setPulldown c).mu.presentB = s.mu.presentB ∧ (s.setPulldown c).mu.window = s.mu.window ∧
    (s.setPulldown c).mu.zero = s.mu.zero ∧ (s.setPulldown c).mu.zeroRejected = s.mu.zeroRejected ∧
    (s.setPulldown c).ac = s.ac ∧ (s.setPulldown c).pu = s.pu ∧ (s.setPulldown c).rs = s.rs ∧
    (s.setPulldown c).nv = s.nv ∧ (s.setPulldown c).free = s.free ∧ (s.setPulldown c).pending = s.pending := by
  simp [State.setPulldown]

/-- What `State.enterTimed` leaves unchanged. -/
@[simp] theorem State.enterTimed_frame (s : State) (st : Step) :
    (s.enterTimed st).boot = s.boot ∧ (s.enterTimed st).cfg = s.cfg ∧ (s.enterTimed st).li = s.li ∧
    (s.enterTimed st).pt = s.pt ∧ (s.enterTimed st).ms = s.ms ∧
    (s.enterTimed st).sq.repeats = s.sq.repeats ∧ (s.enterTimed st).sq.used = s.sq.used ∧
    (s.enterTimed st).sq.routeB = s.sq.routeB ∧ (s.enterTimed st).sq.clampHold = s.sq.clampHold ∧
    (s.enterTimed st).sq.detected = s.sq.detected ∧ (s.enterTimed st).sq.riseCount = s.sq.riseCount ∧
    (s.enterTimed st).sq.candidate = s.sq.candidate ∧ (s.enterTimed st).sq.pStart = s.sq.pStart ∧
    (s.enterTimed st).sq.starve = s.sq.starve ∧ (s.enterTimed st).sq.clock = s.sq.clock ∧
    (s.enterTimed st).sq.seconds = s.sq.seconds ∧ (s.enterTimed st).sq.finalPressure = s.sq.finalPressure ∧
    (s.enterTimed st).ch = s.ch ∧ (s.enterTimed st).mu = s.mu ∧ (s.enterTimed st).ac = s.ac ∧
    (s.enterTimed st).pu = s.pu ∧ (s.enterTimed st).rs = s.rs ∧ (s.enterTimed st).nv = s.nv ∧
    (s.enterTimed st).free = s.free ∧ (s.enterTimed st).pending = s.pending := by
  simp [State.enterTimed]

/-- What `State.enterE1` leaves unchanged. -/
@[simp] theorem State.enterE1_frame (s : State) :
    (s.enterE1).boot = s.boot ∧ (s.enterE1).cfg = s.cfg ∧ (s.enterE1).li = s.li ∧ (s.enterE1).pt = s.pt ∧
    (s.enterE1).ms = s.ms ∧ (s.enterE1).sq.routeB = s.sq.routeB ∧
    (s.enterE1).sq.clampHold = s.sq.clampHold ∧ (s.enterE1).sq.riseCount = s.sq.riseCount ∧
    (s.enterE1).sq.candidate = s.sq.candidate ∧ (s.enterE1).sq.pStart = s.sq.pStart ∧
    (s.enterE1).sq.starve = s.sq.starve ∧ (s.enterE1).sq.clock = s.sq.clock ∧
    (s.enterE1).sq.seconds = s.sq.seconds ∧ (s.enterE1).sq.finalPressure = s.sq.finalPressure ∧
    (s.enterE1).ch = s.ch ∧ (s.enterE1).mu = s.mu ∧ (s.enterE1).ac = s.ac ∧ (s.enterE1).pu = s.pu ∧
    (s.enterE1).rs = s.rs ∧ (s.enterE1).nv = s.nv ∧ (s.enterE1).free = s.free ∧
    (s.enterE1).pending = s.pending := by
  simp [State.enterE1]

/-- What `State.enterE2` leaves unchanged. -/
@[simp] theorem State.enterE2_frame (s : State) :
    (s.enterE2).boot = s.boot ∧ (s.enterE2).cfg = s.cfg ∧ (s.enterE2).li = s.li ∧ (s.enterE2).pt = s.pt ∧
    (s.enterE2).ms = s.ms ∧ (s.enterE2).sq.repeats = s.sq.repeats ∧ (s.enterE2).sq.used = s.sq.used ∧
    (s.enterE2).sq.routeB = s.sq.routeB ∧ (s.enterE2).sq.detected = s.sq.detected ∧
    (s.enterE2).sq.riseCount = s.sq.riseCount ∧ (s.enterE2).sq.candidate = s.sq.candidate ∧
    (s.enterE2).sq.pStart = s.sq.pStart ∧ (s.enterE2).sq.starve = s.sq.starve ∧
    (s.enterE2).sq.seconds = s.sq.seconds ∧ (s.enterE2).sq.finalPressure = s.sq.finalPressure ∧
    (s.enterE2).ch = s.ch ∧ (s.enterE2).mu.ch = s.mu.ch ∧ (s.enterE2).mu.filters = s.mu.filters ∧
    (s.enterE2).mu.cmp = s.mu.cmp ∧ (s.enterE2).mu.discA = s.mu.discA ∧ (s.enterE2).mu.discB = s.mu.discB ∧
    (s.enterE2).mu.presentA = s.mu.presentA ∧ (s.enterE2).mu.presentB = s.mu.presentB ∧
    (s.enterE2).mu.zero = s.mu.zero ∧ (s.enterE2).mu.zeroRejected = s.mu.zeroRejected ∧
    (s.enterE2).ac = s.ac ∧ (s.enterE2).pu = s.pu ∧ (s.enterE2).rs = s.rs ∧ (s.enterE2).nv = s.nv ∧
    (s.enterE2).free = s.free ∧ (s.enterE2).pending = s.pending := by
  simp [State.enterE2]

/-- What `State.enterE7` leaves unchanged. -/
@[simp] theorem State.enterE7_frame (s : State) :
    (s.enterE7).boot = s.boot ∧ (s.enterE7).cfg = s.cfg ∧ (s.enterE7).li.idle = s.li.idle ∧
    (s.enterE7).li.receiver = s.li.receiver ∧ (s.enterE7).li.transmitter = s.li.transmitter ∧
    (s.enterE7).li.lastHazard = s.li.lastHazard ∧ (s.enterE7).pt = s.pt ∧
    (s.enterE7).ms.listA = s.ms.listA ∧ (s.enterE7).ms.listB = s.ms.listB ∧
    (s.enterE7).ms.marks = s.ms.marks ∧ (s.enterE7).ms.backoff = s.ms.backoff ∧
    (s.enterE7).ms.call = s.ms.call ∧ (s.enterE7).sq.repeats = s.sq.repeats ∧
    (s.enterE7).sq.used = s.sq.used ∧ (s.enterE7).sq.routeB = s.sq.routeB ∧
    (s.enterE7).sq.detected = s.sq.detected ∧ (s.enterE7).sq.riseCount = s.sq.riseCount ∧
    (s.enterE7).sq.candidate = s.sq.candidate ∧ (s.enterE7).sq.pStart = s.sq.pStart ∧
    (s.enterE7).ch = s.ch ∧ (s.enterE7).mu.ch = s.mu.ch ∧ (s.enterE7).mu.filters = s.mu.filters ∧
    (s.enterE7).mu.cmp.ambientWatch = s.mu.cmp.ambientWatch ∧
    (s.enterE7).mu.cmp.ambientStop = s.mu.cmp.ambientStop ∧
    (s.enterE7).mu.cmp.headerHigh = s.mu.cmp.headerHigh ∧
    (s.enterE7).mu.cmp.headerRecovered = s.mu.cmp.headerRecovered ∧
    (s.enterE7).mu.cmp.inert = s.mu.cmp.inert ∧ (s.enterE7).mu.cmp.oxygenUnder = s.mu.cmp.oxygenUnder ∧
    (s.enterE7).mu.cmp.oxygenHigh = s.mu.cmp.oxygenHigh ∧
    (s.enterE7).mu.cmp.chamberWatch = s.mu.cmp.chamberWatch ∧
    (s.enterE7).mu.cmp.chamberStop = s.mu.cmp.chamberStop ∧
    (s.enterE7).mu.cmp.purgeNeeded = s.mu.cmp.purgeNeeded ∧
    (s.enterE7).mu.cmp.purgeClear = s.mu.cmp.purgeClear ∧ (s.enterE7).mu.cmp.quiet = s.mu.cmp.quiet ∧
    (s.enterE7).mu.discA = s.mu.discA ∧ (s.enterE7).mu.discB = s.mu.discB ∧
    (s.enterE7).mu.presentA = s.mu.presentA ∧ (s.enterE7).mu.presentB = s.mu.presentB ∧
    (s.enterE7).mu.zero = s.mu.zero ∧ (s.enterE7).mu.zeroRejected = s.mu.zeroRejected ∧
    (s.enterE7).ac = s.ac ∧ (s.enterE7).pu = s.pu ∧ (s.enterE7).rs = s.rs ∧ (s.enterE7).nv = s.nv ∧
    (s.enterE7).free = s.free ∧ (s.enterE7).pending = s.pending := by
  dsimp only [State.enterE7]; (repeat' split) <;> simp

/-- What `State.abandonToE7` leaves unchanged. -/
@[simp] theorem State.abandonToE7_frame (s : State) :
    (s.abandonToE7).boot = s.boot ∧ (s.abandonToE7).cfg = s.cfg ∧ (s.abandonToE7).li.idle = s.li.idle ∧
    (s.abandonToE7).li.receiver = s.li.receiver ∧ (s.abandonToE7).li.transmitter = s.li.transmitter ∧
    (s.abandonToE7).li.lastHazard = s.li.lastHazard ∧ (s.abandonToE7).pt = s.pt ∧
    (s.abandonToE7).ms.listA = s.ms.listA ∧ (s.abandonToE7).ms.listB = s.ms.listB ∧
    (s.abandonToE7).ms.marks = s.ms.marks ∧ (s.abandonToE7).ms.backoff = s.ms.backoff ∧
    (s.abandonToE7).ms.call = s.ms.call ∧ (s.abandonToE7).sq.repeats = s.sq.repeats ∧
    (s.abandonToE7).sq.used = s.sq.used ∧ (s.abandonToE7).sq.routeB = s.sq.routeB ∧
    (s.abandonToE7).sq.detected = s.sq.detected ∧ (s.abandonToE7).sq.riseCount = s.sq.riseCount ∧
    (s.abandonToE7).sq.candidate = s.sq.candidate ∧ (s.abandonToE7).sq.pStart = s.sq.pStart ∧
    (s.abandonToE7).ch = s.ch ∧ (s.abandonToE7).mu.ch = s.mu.ch ∧
    (s.abandonToE7).mu.filters = s.mu.filters ∧
    (s.abandonToE7).mu.cmp.ambientWatch = s.mu.cmp.ambientWatch ∧
    (s.abandonToE7).mu.cmp.ambientStop = s.mu.cmp.ambientStop ∧
    (s.abandonToE7).mu.cmp.headerHigh = s.mu.cmp.headerHigh ∧
    (s.abandonToE7).mu.cmp.headerRecovered = s.mu.cmp.headerRecovered ∧
    (s.abandonToE7).mu.cmp.inert = s.mu.cmp.inert ∧
    (s.abandonToE7).mu.cmp.oxygenUnder = s.mu.cmp.oxygenUnder ∧
    (s.abandonToE7).mu.cmp.oxygenHigh = s.mu.cmp.oxygenHigh ∧
    (s.abandonToE7).mu.cmp.chamberWatch = s.mu.cmp.chamberWatch ∧
    (s.abandonToE7).mu.cmp.chamberStop = s.mu.cmp.chamberStop ∧
    (s.abandonToE7).mu.cmp.purgeNeeded = s.mu.cmp.purgeNeeded ∧
    (s.abandonToE7).mu.cmp.purgeClear = s.mu.cmp.purgeClear ∧
    (s.abandonToE7).mu.cmp.quiet = s.mu.cmp.quiet ∧ (s.abandonToE7).mu.discA = s.mu.discA ∧
    (s.abandonToE7).mu.discB = s.mu.discB ∧ (s.abandonToE7).mu.presentA = s.mu.presentA ∧
    (s.abandonToE7).mu.presentB = s.mu.presentB ∧ (s.abandonToE7).mu.zero = s.mu.zero ∧
    (s.abandonToE7).mu.zeroRejected = s.mu.zeroRejected ∧ (s.abandonToE7).ac.intake = s.ac.intake ∧
    (s.abandonToE7).ac.chamber = s.ac.chamber ∧ (s.abandonToE7).ac.nextNumber = s.ac.nextNumber ∧
    (s.abandonToE7).ac.offer = s.ac.offer ∧ (s.abandonToE7).pu = s.pu ∧ (s.abandonToE7).rs = s.rs ∧
    (s.abandonToE7).nv = s.nv ∧ (s.abandonToE7).free = s.free ∧ (s.abandonToE7).pending = s.pending := by
  simp [State.abandonToE7]

/-- What `State.routeChange` leaves unchanged. -/
@[simp] theorem State.routeChange_frame (s : State) :
    (s.routeChange).boot = s.boot ∧ (s.routeChange).cfg = s.cfg ∧ (s.routeChange).li.idle = s.li.idle ∧
    (s.routeChange).li.receiver = s.li.receiver ∧ (s.routeChange).li.transmitter = s.li.transmitter ∧
    (s.routeChange).li.lastHazard = s.li.lastHazard ∧ (s.routeChange).pt = s.pt ∧
    (s.routeChange).ms.listA = s.ms.listA ∧ (s.routeChange).ms.listB = s.ms.listB ∧
    (s.routeChange).ms.marks = s.ms.marks ∧ (s.routeChange).ms.backoff = s.ms.backoff ∧
    (s.routeChange).ms.call = s.ms.call ∧ (s.routeChange).sq.step = s.sq.step ∧
    (s.routeChange).sq.timer = s.sq.timer ∧ (s.routeChange).sq.repeats = s.sq.repeats ∧
    (s.routeChange).sq.used = s.sq.used ∧ (s.routeChange).sq.clampHold = s.sq.clampHold ∧
    (s.routeChange).sq.detected = s.sq.detected ∧ (s.routeChange).sq.riseCount = s.sq.riseCount ∧
    (s.routeChange).sq.candidate = s.sq.candidate ∧ (s.routeChange).sq.pStart = s.sq.pStart ∧
    (s.routeChange).sq.starve = s.sq.starve ∧ (s.routeChange).sq.clock = s.sq.clock ∧
    (s.routeChange).sq.seconds = s.sq.seconds ∧ (s.routeChange).sq.finalPressure = s.sq.finalPressure ∧
    (s.routeChange).ch = s.ch ∧ (s.routeChange).mu = s.mu ∧ (s.routeChange).ac.intake = s.ac.intake ∧
    (s.routeChange).ac.chamber = s.ac.chamber ∧ (s.routeChange).ac.nextNumber = s.ac.nextNumber ∧
    (s.routeChange).ac.offer = s.ac.offer ∧ (s.routeChange).pu.sources = s.pu.sources ∧
    (s.routeChange).rs = s.rs ∧ (s.routeChange).nv = s.nv ∧ (s.routeChange).free = s.free ∧
    (s.routeChange).pending = s.pending := by
  dsimp only [State.routeChange]; (repeat' split) <;> simp

/-- What `State.enterE5` leaves unchanged. -/
@[simp] theorem State.enterE5_frame (s : State) :
    (s.enterE5).boot = s.boot ∧ (s.enterE5).cfg = s.cfg ∧ (s.enterE5).li.idle = s.li.idle ∧
    (s.enterE5).li.receiver = s.li.receiver ∧ (s.enterE5).li.transmitter = s.li.transmitter ∧
    (s.enterE5).li.lastHazard = s.li.lastHazard ∧ (s.enterE5).pt = s.pt ∧
    (s.enterE5).ms.listA = s.ms.listA ∧ (s.enterE5).ms.listB = s.ms.listB ∧
    (s.enterE5).ms.marks = s.ms.marks ∧ (s.enterE5).ms.backoff = s.ms.backoff ∧
    (s.enterE5).ms.call = s.ms.call ∧ (s.enterE5).sq.repeats = s.sq.repeats ∧
    (s.enterE5).sq.used = s.sq.used ∧ (s.enterE5).sq.clampHold = s.sq.clampHold ∧
    (s.enterE5).sq.detected = s.sq.detected ∧ (s.enterE5).sq.riseCount = s.sq.riseCount ∧
    (s.enterE5).sq.candidate = s.sq.candidate ∧ (s.enterE5).sq.pStart = s.sq.pStart ∧
    (s.enterE5).sq.starve = s.sq.starve ∧ (s.enterE5).sq.clock = s.sq.clock ∧
    (s.enterE5).sq.seconds = s.sq.seconds ∧ (s.enterE5).sq.finalPressure = s.sq.finalPressure ∧
    (s.enterE5).ch = s.ch ∧ (s.enterE5).mu.ch = s.mu.ch ∧ (s.enterE5).mu.filters = s.mu.filters ∧
    (s.enterE5).mu.cmp.ambientWatch = s.mu.cmp.ambientWatch ∧
    (s.enterE5).mu.cmp.ambientStop = s.mu.cmp.ambientStop ∧
    (s.enterE5).mu.cmp.headerHigh = s.mu.cmp.headerHigh ∧
    (s.enterE5).mu.cmp.headerRecovered = s.mu.cmp.headerRecovered ∧
    (s.enterE5).mu.cmp.inert = s.mu.cmp.inert ∧ (s.enterE5).mu.cmp.oxygenUnder = s.mu.cmp.oxygenUnder ∧
    (s.enterE5).mu.cmp.oxygenHigh = s.mu.cmp.oxygenHigh ∧
    (s.enterE5).mu.cmp.chamberWatch = s.mu.cmp.chamberWatch ∧
    (s.enterE5).mu.cmp.chamberStop = s.mu.cmp.chamberStop ∧
    (s.enterE5).mu.cmp.purgeNeeded = s.mu.cmp.purgeNeeded ∧
    (s.enterE5).mu.cmp.purgeClear = s.mu.cmp.purgeClear ∧ (s.enterE5).mu.cmp.quiet = s.mu.cmp.quiet ∧
    (s.enterE5).mu.discA = s.mu.discA ∧ (s.enterE5).mu.discB = s.mu.discB ∧
    (s.enterE5).mu.presentA = s.mu.presentA ∧ (s.enterE5).mu.presentB = s.mu.presentB ∧
    (s.enterE5).mu.window = s.mu.window ∧ (s.enterE5).mu.zero = s.mu.zero ∧
    (s.enterE5).mu.zeroRejected = s.mu.zeroRejected ∧ (s.enterE5).ac.intake = s.ac.intake ∧
    (s.enterE5).ac.chamber = s.ac.chamber ∧ (s.enterE5).ac.nextNumber = s.ac.nextNumber ∧
    (s.enterE5).ac.offer = s.ac.offer ∧ (s.enterE5).pu.sources = s.pu.sources ∧ (s.enterE5).rs = s.rs ∧
    (s.enterE5).nv = s.nv ∧ (s.enterE5).free = s.free ∧ (s.enterE5).pending = s.pending := by
  dsimp only [State.enterE5]; (repeat' split) <;> simp

/-- What `State.enterE6` leaves unchanged. -/
@[simp] theorem State.enterE6_frame (s : State) :
    (s.enterE6).boot = s.boot ∧ (s.enterE6).cfg = s.cfg ∧ (s.enterE6).li = s.li ∧ (s.enterE6).pt = s.pt ∧
    (s.enterE6).ms = s.ms ∧ (s.enterE6).sq.repeats = s.sq.repeats ∧ (s.enterE6).sq.used = s.sq.used ∧
    (s.enterE6).sq.routeB = s.sq.routeB ∧ (s.enterE6).sq.clampHold = s.sq.clampHold ∧
    (s.enterE6).sq.detected = s.sq.detected ∧ (s.enterE6).sq.starve = s.sq.starve ∧
    (s.enterE6).sq.clock = s.sq.clock ∧ (s.enterE6).sq.seconds = s.sq.seconds ∧
    (s.enterE6).sq.finalPressure = s.sq.finalPressure ∧ (s.enterE6).ch = s.ch ∧
    (s.enterE6).mu.ch = s.mu.ch ∧ (s.enterE6).mu.filters = s.mu.filters ∧
    (s.enterE6).mu.cmp.ambientWatch = s.mu.cmp.ambientWatch ∧
    (s.enterE6).mu.cmp.ambientStop = s.mu.cmp.ambientStop ∧
    (s.enterE6).mu.cmp.headerHigh = s.mu.cmp.headerHigh ∧
    (s.enterE6).mu.cmp.headerRecovered = s.mu.cmp.headerRecovered ∧
    (s.enterE6).mu.cmp.inert = s.mu.cmp.inert ∧ (s.enterE6).mu.cmp.oxygenUnder = s.mu.cmp.oxygenUnder ∧
    (s.enterE6).mu.cmp.oxygenHigh = s.mu.cmp.oxygenHigh ∧
    (s.enterE6).mu.cmp.chamberWatch = s.mu.cmp.chamberWatch ∧
    (s.enterE6).mu.cmp.chamberStop = s.mu.cmp.chamberStop ∧
    (s.enterE6).mu.cmp.purgeNeeded = s.mu.cmp.purgeNeeded ∧
    (s.enterE6).mu.cmp.purgeClear = s.mu.cmp.purgeClear ∧ (s.enterE6).mu.cmp.quiet = s.mu.cmp.quiet ∧
    (s.enterE6).mu.discA = s.mu.discA ∧ (s.enterE6).mu.discB = s.mu.discB ∧
    (s.enterE6).mu.presentA = s.mu.presentA ∧ (s.enterE6).mu.presentB = s.mu.presentB ∧
    (s.enterE6).mu.window = s.mu.window ∧ (s.enterE6).mu.zero = s.mu.zero ∧
    (s.enterE6).mu.zeroRejected = s.mu.zeroRejected ∧ (s.enterE6).ac = s.ac ∧ (s.enterE6).pu = s.pu ∧
    (s.enterE6).rs = s.rs ∧ (s.enterE6).nv = s.nv ∧ (s.enterE6).free = s.free ∧
    (s.enterE6).pending = s.pending := by
  simp [State.enterE6]

/-- What `State.endClassify` leaves unchanged. -/
@[simp] theorem State.endClassify_frame (s : State) :
    (s.endClassify).boot = s.boot ∧ (s.endClassify).cfg = s.cfg ∧ (s.endClassify).li.idle = s.li.idle ∧
    (s.endClassify).li.receiver = s.li.receiver ∧ (s.endClassify).li.transmitter = s.li.transmitter ∧
    (s.endClassify).li.lastHazard = s.li.lastHazard ∧ (s.endClassify).pt = s.pt ∧
    (s.endClassify).ms.listA = s.ms.listA ∧ (s.endClassify).ms.listB = s.ms.listB ∧
    (s.endClassify).ms.marks = s.ms.marks ∧ (s.endClassify).ms.backoff = s.ms.backoff ∧
    (s.endClassify).ms.call = s.ms.call ∧ (s.endClassify).sq.repeats = s.sq.repeats ∧
    (s.endClassify).sq.used = s.sq.used ∧ (s.endClassify).sq.clampHold = s.sq.clampHold ∧
    (s.endClassify).sq.riseCount = s.sq.riseCount ∧ (s.endClassify).sq.candidate = s.sq.candidate ∧
    (s.endClassify).sq.pStart = s.sq.pStart ∧ (s.endClassify).sq.starve = s.sq.starve ∧
    (s.endClassify).sq.clock = s.sq.clock ∧ (s.endClassify).sq.seconds = s.sq.seconds ∧
    (s.endClassify).sq.finalPressure = s.sq.finalPressure ∧ (s.endClassify).ch = s.ch ∧
    (s.endClassify).mu = s.mu ∧ (s.endClassify).ac.intake = s.ac.intake ∧
    (s.endClassify).ac.chamber = s.ac.chamber ∧ (s.endClassify).ac.nextNumber = s.ac.nextNumber ∧
    (s.endClassify).ac.offer = s.ac.offer ∧ (s.endClassify).pu.sources = s.pu.sources ∧
    (s.endClassify).rs = s.rs ∧ (s.endClassify).nv = s.nv ∧ (s.endClassify).free = s.free ∧
    (s.endClassify).pending = s.pending := by
  dsimp only [State.endClassify]; (repeat' split) <;> simp

/-- What `State.endRelease` leaves unchanged. -/
@[simp] theorem State.endRelease_frame (s : State) :
    (s.endRelease).boot = s.boot ∧ (s.endRelease).cfg = s.cfg ∧ (s.endRelease).li.idle = s.li.idle ∧
    (s.endRelease).li.receiver = s.li.receiver ∧ (s.endRelease).li.transmitter = s.li.transmitter ∧
    (s.endRelease).li.lastHazard = s.li.lastHazard ∧ (s.endRelease).pt = s.pt ∧ (s.endRelease).ms = s.ms ∧
    (s.endRelease).ch = s.ch ∧ (s.endRelease).mu = s.mu ∧ (s.endRelease).ac.intake = s.ac.intake ∧
    (s.endRelease).ac.chamber = s.ac.chamber ∧ (s.endRelease).ac.nextNumber = s.ac.nextNumber ∧
    (s.endRelease).pu = s.pu ∧ (s.endRelease).rs = s.rs ∧ (s.endRelease).nv = s.nv ∧
    (s.endRelease).pending = s.pending := by
  simp [State.endRelease]

/-- What `State.settleE1` leaves unchanged. -/
@[simp] theorem State.settleE1_frame (s : State) :
    (s.settleE1).boot = s.boot ∧ (s.settleE1).cfg = s.cfg ∧ (s.settleE1).li = s.li ∧
    (s.settleE1).pt = s.pt ∧ (s.settleE1).ms = s.ms ∧ (s.settleE1).sq.step = s.sq.step ∧
    (s.settleE1).sq.repeats = s.sq.repeats ∧ (s.settleE1).sq.used = s.sq.used ∧
    (s.settleE1).sq.routeB = s.sq.routeB ∧ (s.settleE1).sq.clampHold = s.sq.clampHold ∧
    (s.settleE1).sq.detected = s.sq.detected ∧ (s.settleE1).sq.riseCount = s.sq.riseCount ∧
    (s.settleE1).sq.candidate = s.sq.candidate ∧ (s.settleE1).sq.pStart = s.sq.pStart ∧
    (s.settleE1).sq.starve = s.sq.starve ∧ (s.settleE1).sq.clock = s.sq.clock ∧
    (s.settleE1).sq.seconds = s.sq.seconds ∧ (s.settleE1).sq.finalPressure = s.sq.finalPressure ∧
    (s.settleE1).ch = s.ch ∧ (s.settleE1).mu = s.mu ∧ (s.settleE1).ac = s.ac ∧ (s.settleE1).pu = s.pu ∧
    (s.settleE1).rs = s.rs ∧ (s.settleE1).nv = s.nv ∧ (s.settleE1).free = s.free ∧
    (s.settleE1).pending = s.pending := by
  simp [State.settleE1]

/-- What `State.settleE2` leaves unchanged. -/
@[simp] theorem State.settleE2_frame (s : State) :
    (s.settleE2).boot = s.boot ∧ (s.settleE2).cfg = s.cfg ∧ (s.settleE2).li = s.li ∧
    (s.settleE2).pt = s.pt ∧ (s.settleE2).ms = s.ms ∧ (s.settleE2).sq = s.sq ∧ (s.settleE2).ch = s.ch ∧
    (s.settleE2).mu.ch = s.mu.ch ∧ (s.settleE2).mu.filters = s.mu.filters ∧ (s.settleE2).mu.cmp = s.mu.cmp ∧
    (s.settleE2).mu.discA = s.mu.discA ∧ (s.settleE2).mu.discB = s.mu.discB ∧
    (s.settleE2).mu.presentA = s.mu.presentA ∧ (s.settleE2).mu.presentB = s.mu.presentB ∧
    (s.settleE2).mu.zero = s.mu.zero ∧ (s.settleE2).mu.zeroRejected = s.mu.zeroRejected ∧
    (s.settleE2).ac = s.ac ∧ (s.settleE2).pu = s.pu ∧ (s.settleE2).rs = s.rs ∧ (s.settleE2).nv = s.nv ∧
    (s.settleE2).free = s.free ∧ (s.settleE2).pending = s.pending := by
  dsimp only [State.settleE2]; (repeat' split) <;> simp

/-- What `State.settleE3` leaves unchanged. -/
@[simp] theorem State.settleE3_frame (s : State) :
    (s.settleE3).boot = s.boot ∧ (s.settleE3).cfg = s.cfg ∧ (s.settleE3).li.idle = s.li.idle ∧
    (s.settleE3).li.receiver = s.li.receiver ∧ (s.settleE3).li.transmitter = s.li.transmitter ∧
    (s.settleE3).li.lastHazard = s.li.lastHazard ∧ (s.settleE3).pt = s.pt ∧
    (s.settleE3).ms.listA = s.ms.listA ∧ (s.settleE3).ms.listB = s.ms.listB ∧
    (s.settleE3).ms.marks = s.ms.marks ∧ (s.settleE3).ms.backoff = s.ms.backoff ∧
    (s.settleE3).ms.call = s.ms.call ∧ (s.settleE3).sq.repeats = s.sq.repeats ∧
    (s.settleE3).sq.used = s.sq.used ∧ (s.settleE3).sq.clampHold = s.sq.clampHold ∧
    (s.settleE3).sq.riseCount = s.sq.riseCount ∧ (s.settleE3).sq.candidate = s.sq.candidate ∧
    (s.settleE3).sq.pStart = s.sq.pStart ∧ (s.settleE3).sq.starve = s.sq.starve ∧
    (s.settleE3).sq.clock = s.sq.clock ∧ (s.settleE3).sq.seconds = s.sq.seconds ∧
    (s.settleE3).sq.finalPressure = s.sq.finalPressure ∧ (s.settleE3).ch = s.ch ∧ (s.settleE3).mu = s.mu ∧
    (s.settleE3).ac.intake = s.ac.intake ∧ (s.settleE3).ac.chamber = s.ac.chamber ∧
    (s.settleE3).ac.nextNumber = s.ac.nextNumber ∧ (s.settleE3).ac.offer = s.ac.offer ∧
    (s.settleE3).pu.sources = s.pu.sources ∧ (s.settleE3).rs = s.rs ∧ (s.settleE3).nv = s.nv ∧
    (s.settleE3).free = s.free ∧ (s.settleE3).pending = s.pending := by
  dsimp only [State.settleE3]; (repeat' split) <;> simp

/-- What `State.settlePull` leaves unchanged. -/
@[simp] theorem State.settlePull_frame (s : State) :
    (s.settlePull).boot = s.boot ∧ (s.settlePull).cfg = s.cfg ∧ (s.settlePull).li = s.li ∧
    (s.settlePull).pt = s.pt ∧ (s.settlePull).ms = s.ms ∧ (s.settlePull).sq.step = s.sq.step ∧
    (s.settlePull).sq.repeats = s.sq.repeats ∧ (s.settlePull).sq.used = s.sq.used ∧
    (s.settlePull).sq.routeB = s.sq.routeB ∧ (s.settlePull).sq.clampHold = s.sq.clampHold ∧
    (s.settlePull).sq.detected = s.sq.detected ∧ (s.settlePull).sq.starve = s.sq.starve ∧
    (s.settlePull).sq.clock = s.sq.clock ∧ (s.settlePull).sq.seconds = s.sq.seconds ∧
    (s.settlePull).sq.finalPressure = s.sq.finalPressure ∧ (s.settlePull).ch = s.ch ∧
    (s.settlePull).mu.ch = s.mu.ch ∧ (s.settlePull).mu.filters = s.mu.filters ∧
    (s.settlePull).mu.cmp.ambientWatch = s.mu.cmp.ambientWatch ∧
    (s.settlePull).mu.cmp.ambientStop = s.mu.cmp.ambientStop ∧
    (s.settlePull).mu.cmp.headerHigh = s.mu.cmp.headerHigh ∧
    (s.settlePull).mu.cmp.headerRecovered = s.mu.cmp.headerRecovered ∧
    (s.settlePull).mu.cmp.inert = s.mu.cmp.inert ∧
    (s.settlePull).mu.cmp.oxygenUnder = s.mu.cmp.oxygenUnder ∧
    (s.settlePull).mu.cmp.oxygenHigh = s.mu.cmp.oxygenHigh ∧
    (s.settlePull).mu.cmp.chamberWatch = s.mu.cmp.chamberWatch ∧
    (s.settlePull).mu.cmp.chamberStop = s.mu.cmp.chamberStop ∧
    (s.settlePull).mu.cmp.purgeNeeded = s.mu.cmp.purgeNeeded ∧
    (s.settlePull).mu.cmp.purgeClear = s.mu.cmp.purgeClear ∧ (s.settlePull).mu.cmp.quiet = s.mu.cmp.quiet ∧
    (s.settlePull).mu.discA = s.mu.discA ∧ (s.settlePull).mu.discB = s.mu.discB ∧
    (s.settlePull).mu.presentA = s.mu.presentA ∧ (s.settlePull).mu.presentB = s.mu.presentB ∧
    (s.settlePull).mu.window = s.mu.window ∧ (s.settlePull).mu.zero = s.mu.zero ∧
    (s.settlePull).mu.zeroRejected = s.mu.zeroRejected ∧ (s.settlePull).ac = s.ac ∧
    (s.settlePull).pu = s.pu ∧ (s.settlePull).rs = s.rs ∧ (s.settlePull).nv = s.nv ∧
    (s.settlePull).free = s.free ∧ (s.settlePull).pending = s.pending := by
  dsimp only [State.settlePull]; (repeat' split) <;> simp

/-- What `State.settleStarve` leaves unchanged. -/
@[simp] theorem State.settleStarve_frame (s : State) :
    (s.settleStarve).boot = s.boot ∧ (s.settleStarve).cfg = s.cfg ∧ (s.settleStarve).li = s.li ∧
    (s.settleStarve).pt = s.pt ∧ (s.settleStarve).ms = s.ms ∧ (s.settleStarve).sq.step = s.sq.step ∧
    (s.settleStarve).sq.timer = s.sq.timer ∧ (s.settleStarve).sq.repeats = s.sq.repeats ∧
    (s.settleStarve).sq.used = s.sq.used ∧ (s.settleStarve).sq.routeB = s.sq.routeB ∧
    (s.settleStarve).sq.clampHold = s.sq.clampHold ∧ (s.settleStarve).sq.detected = s.sq.detected ∧
    (s.settleStarve).sq.riseCount = s.sq.riseCount ∧ (s.settleStarve).sq.candidate = s.sq.candidate ∧
    (s.settleStarve).sq.pStart = s.sq.pStart ∧ (s.settleStarve).sq.clock = s.sq.clock ∧
    (s.settleStarve).sq.seconds = s.sq.seconds ∧ (s.settleStarve).sq.finalPressure = s.sq.finalPressure ∧
    (s.settleStarve).ch = s.ch ∧ (s.settleStarve).mu = s.mu ∧ (s.settleStarve).ac = s.ac ∧
    (s.settleStarve).pu = s.pu ∧ (s.settleStarve).rs = s.rs ∧ (s.settleStarve).nv = s.nv ∧
    (s.settleStarve).free = s.free ∧ (s.settleStarve).pending = s.pending := by
  dsimp only [State.settleStarve]; (repeat' split) <;> simp

/-- What `State.settleExtraction` leaves unchanged. -/
@[simp] theorem State.settleExtraction_frame (s : State) :
    (s.settleExtraction).boot = s.boot ∧ (s.settleExtraction).cfg = s.cfg ∧
    (s.settleExtraction).li.idle = s.li.idle ∧ (s.settleExtraction).li.receiver = s.li.receiver ∧
    (s.settleExtraction).li.transmitter = s.li.transmitter ∧
    (s.settleExtraction).li.lastHazard = s.li.lastHazard ∧ (s.settleExtraction).pt = s.pt ∧
    (s.settleExtraction).ms.listA = s.ms.listA ∧ (s.settleExtraction).ms.listB = s.ms.listB ∧
    (s.settleExtraction).ms.marks = s.ms.marks ∧ (s.settleExtraction).ms.backoff = s.ms.backoff ∧
    (s.settleExtraction).ms.call = s.ms.call ∧ (s.settleExtraction).sq.repeats = s.sq.repeats ∧
    (s.settleExtraction).sq.used = s.sq.used ∧ (s.settleExtraction).sq.clampHold = s.sq.clampHold ∧
    (s.settleExtraction).sq.clock = s.sq.clock ∧ (s.settleExtraction).sq.seconds = s.sq.seconds ∧
    (s.settleExtraction).sq.finalPressure = s.sq.finalPressure ∧ (s.settleExtraction).ch = s.ch ∧
    (s.settleExtraction).mu.ch = s.mu.ch ∧ (s.settleExtraction).mu.filters = s.mu.filters ∧
    (s.settleExtraction).mu.cmp.ambientWatch = s.mu.cmp.ambientWatch ∧
    (s.settleExtraction).mu.cmp.ambientStop = s.mu.cmp.ambientStop ∧
    (s.settleExtraction).mu.cmp.headerHigh = s.mu.cmp.headerHigh ∧
    (s.settleExtraction).mu.cmp.headerRecovered = s.mu.cmp.headerRecovered ∧
    (s.settleExtraction).mu.cmp.inert = s.mu.cmp.inert ∧
    (s.settleExtraction).mu.cmp.oxygenUnder = s.mu.cmp.oxygenUnder ∧
    (s.settleExtraction).mu.cmp.oxygenHigh = s.mu.cmp.oxygenHigh ∧
    (s.settleExtraction).mu.cmp.chamberWatch = s.mu.cmp.chamberWatch ∧
    (s.settleExtraction).mu.cmp.chamberStop = s.mu.cmp.chamberStop ∧
    (s.settleExtraction).mu.cmp.purgeNeeded = s.mu.cmp.purgeNeeded ∧
    (s.settleExtraction).mu.cmp.purgeClear = s.mu.cmp.purgeClear ∧
    (s.settleExtraction).mu.cmp.quiet = s.mu.cmp.quiet ∧ (s.settleExtraction).mu.discA = s.mu.discA ∧
    (s.settleExtraction).mu.discB = s.mu.discB ∧ (s.settleExtraction).mu.presentA = s.mu.presentA ∧
    (s.settleExtraction).mu.presentB = s.mu.presentB ∧ (s.settleExtraction).mu.zero = s.mu.zero ∧
    (s.settleExtraction).mu.zeroRejected = s.mu.zeroRejected ∧
    (s.settleExtraction).ac.intake = s.ac.intake ∧ (s.settleExtraction).ac.chamber = s.ac.chamber ∧
    (s.settleExtraction).ac.nextNumber = s.ac.nextNumber ∧ (s.settleExtraction).ac.offer = s.ac.offer ∧
    (s.settleExtraction).pu.sources = s.pu.sources ∧ (s.settleExtraction).rs = s.rs ∧
    (s.settleExtraction).nv = s.nv ∧ (s.settleExtraction).free = s.free ∧
    (s.settleExtraction).pending = s.pending := by
  dsimp only [State.settleExtraction, State.settleE4]; (repeat' split) <;> simp

/-- What `State.setChamberState` leaves unchanged. -/
@[simp] theorem State.setChamberState_frame (s : State) (st : ChamberState) :
    (s.setChamberState st).boot = s.boot ∧ (s.setChamberState st).cfg = s.cfg ∧
    (s.setChamberState st).li = s.li ∧ (s.setChamberState st).pt = s.pt ∧ (s.setChamberState st).ms = s.ms ∧
    (s.setChamberState st).sq = s.sq ∧ (s.setChamberState st).ch.pending = s.ch.pending ∧
    (s.setChamberState st).ch.cls = s.ch.cls ∧ (s.setChamberState st).ch.door = s.ch.door ∧
    (s.setChamberState st).ch.doorOpen = s.ch.doorOpen ∧
    (s.setChamberState st).ch.sweepWait = s.ch.sweepWait ∧ (s.setChamberState st).ch.sweep = s.ch.sweep ∧
    (s.setChamberState st).ch.sweepRetry = s.ch.sweepRetry ∧ (s.setChamberState st).ch.path = s.ch.path ∧
    (s.setChamberState st).ch.zeroDone = s.ch.zeroDone ∧ (s.setChamberState st).mu = s.mu ∧
    (s.setChamberState st).ac = s.ac ∧ (s.setChamberState st).pu = s.pu ∧ (s.setChamberState st).rs = s.rs ∧
    (s.setChamberState st).nv = s.nv ∧ (s.setChamberState st).free = s.free ∧
    (s.setChamberState st).pending = s.pending := by
  simp [State.setChamberState]

/-- What `State.setInert` leaves unchanged. -/
@[simp] theorem State.setInert_frame (s : State) (w : Window) (c : Comparator) :
    (s.setInert w c).boot = s.boot ∧ (s.setInert w c).cfg = s.cfg ∧ (s.setInert w c).li = s.li ∧
    (s.setInert w c).pt = s.pt ∧ (s.setInert w c).ms = s.ms ∧ (s.setInert w c).sq = s.sq ∧
    (s.setInert w c).ch = s.ch ∧ (s.setInert w c).mu.ch = s.mu.ch ∧
    (s.setInert w c).mu.filters = s.mu.filters ∧ (s.setInert w c).mu.cmp.pulldown = s.mu.cmp.pulldown ∧
    (s.setInert w c).mu.cmp.ambientWatch = s.mu.cmp.ambientWatch ∧
    (s.setInert w c).mu.cmp.ambientStop = s.mu.cmp.ambientStop ∧
    (s.setInert w c).mu.cmp.headerHigh = s.mu.cmp.headerHigh ∧
    (s.setInert w c).mu.cmp.headerRecovered = s.mu.cmp.headerRecovered ∧
    (s.setInert w c).mu.cmp.oxygenUnder = s.mu.cmp.oxygenUnder ∧
    (s.setInert w c).mu.cmp.oxygenHigh = s.mu.cmp.oxygenHigh ∧
    (s.setInert w c).mu.cmp.chamberWatch = s.mu.cmp.chamberWatch ∧
    (s.setInert w c).mu.cmp.chamberStop = s.mu.cmp.chamberStop ∧
    (s.setInert w c).mu.cmp.purgeNeeded = s.mu.cmp.purgeNeeded ∧
    (s.setInert w c).mu.cmp.purgeClear = s.mu.cmp.purgeClear ∧
    (s.setInert w c).mu.cmp.quiet = s.mu.cmp.quiet ∧ (s.setInert w c).mu.discA = s.mu.discA ∧
    (s.setInert w c).mu.discB = s.mu.discB ∧ (s.setInert w c).mu.presentA = s.mu.presentA ∧
    (s.setInert w c).mu.presentB = s.mu.presentB ∧ (s.setInert w c).mu.zero = s.mu.zero ∧
    (s.setInert w c).mu.zeroRejected = s.mu.zeroRejected ∧ (s.setInert w c).ac = s.ac ∧
    (s.setInert w c).pu = s.pu ∧ (s.setInert w c).rs = s.rs ∧ (s.setInert w c).nv = s.nv ∧
    (s.setInert w c).free = s.free ∧ (s.setInert w c).pending = s.pending := by
  simp [State.setInert]

/-- What `State.leaveState` leaves unchanged. -/
@[simp] theorem State.leaveState_frame (s : State) :
    (s.leaveState).boot = s.boot ∧ (s.leaveState).cfg = s.cfg ∧ (s.leaveState).li.idle = s.li.idle ∧
    (s.leaveState).li.receiver = s.li.receiver ∧ (s.leaveState).li.transmitter = s.li.transmitter ∧
    (s.leaveState).li.lastHazard = s.li.lastHazard ∧ (s.leaveState).pt = s.pt ∧
    (s.leaveState).ms.listA = s.ms.listA ∧ (s.leaveState).ms.listB = s.ms.listB ∧
    (s.leaveState).ms.marks = s.ms.marks ∧ (s.leaveState).ms.backoff = s.ms.backoff ∧
    (s.leaveState).ms.call = s.ms.call ∧ (s.leaveState).sq = s.sq ∧ (s.leaveState).ch.st = s.ch.st ∧
    (s.leaveState).ch.pending = s.ch.pending ∧ (s.leaveState).ch.cls = s.ch.cls ∧
    (s.leaveState).ch.doorOpen = s.ch.doorOpen ∧ (s.leaveState).ch.sweepRetry = s.ch.sweepRetry ∧
    (s.leaveState).ch.path = s.ch.path ∧ (s.leaveState).ch.zeroDone = s.ch.zeroDone ∧
    (s.leaveState).mu.ch = s.mu.ch ∧ (s.leaveState).mu.filters = s.mu.filters ∧
    (s.leaveState).mu.cmp.pulldown = s.mu.cmp.pulldown ∧
    (s.leaveState).mu.cmp.ambientWatch = s.mu.cmp.ambientWatch ∧
    (s.leaveState).mu.cmp.ambientStop = s.mu.cmp.ambientStop ∧
    (s.leaveState).mu.cmp.headerHigh = s.mu.cmp.headerHigh ∧
    (s.leaveState).mu.cmp.headerRecovered = s.mu.cmp.headerRecovered ∧
    (s.leaveState).mu.cmp.oxygenUnder = s.mu.cmp.oxygenUnder ∧
    (s.leaveState).mu.cmp.oxygenHigh = s.mu.cmp.oxygenHigh ∧
    (s.leaveState).mu.cmp.chamberWatch = s.mu.cmp.chamberWatch ∧
    (s.leaveState).mu.cmp.chamberStop = s.mu.cmp.chamberStop ∧
    (s.leaveState).mu.cmp.purgeNeeded = s.mu.cmp.purgeNeeded ∧
    (s.leaveState).mu.cmp.purgeClear = s.mu.cmp.purgeClear ∧ (s.leaveState).mu.cmp.quiet = s.mu.cmp.quiet ∧
    (s.leaveState).mu.discA = s.mu.discA ∧ (s.leaveState).mu.discB = s.mu.discB ∧
    (s.leaveState).mu.presentA = s.mu.presentA ∧ (s.leaveState).mu.presentB = s.mu.presentB ∧
    (s.leaveState).mu.zero = s.mu.zero ∧ (s.leaveState).mu.zeroRejected = s.mu.zeroRejected ∧
    (s.leaveState).ac = s.ac ∧ (s.leaveState).pu = s.pu ∧ (s.leaveState).rs = s.rs ∧
    (s.leaveState).nv = s.nv ∧ (s.leaveState).free = s.free ∧ (s.leaveState).pending = s.pending := by
  dsimp only [State.leaveState]; (repeat' split) <;> simp

/-- What `State.enterInerting` leaves unchanged. -/
@[simp] theorem State.enterInerting_frame (s : State) :
    (s.enterInerting).boot = s.boot ∧ (s.enterInerting).cfg = s.cfg ∧
    (s.enterInerting).li.idle = s.li.idle ∧ (s.enterInerting).li.receiver = s.li.receiver ∧
    (s.enterInerting).li.transmitter = s.li.transmitter ∧
    (s.enterInerting).li.lastHazard = s.li.lastHazard ∧ (s.enterInerting).pt = s.pt ∧
    (s.enterInerting).ms.listA = s.ms.listA ∧ (s.enterInerting).ms.listB = s.ms.listB ∧
    (s.enterInerting).ms.marks = s.ms.marks ∧ (s.enterInerting).ms.backoff = s.ms.backoff ∧
    (s.enterInerting).ms.call = s.ms.call ∧ (s.enterInerting).sq = s.sq ∧
    (s.enterInerting).ch.pending = s.ch.pending ∧ (s.enterInerting).ch.cls = s.ch.cls ∧
    (s.enterInerting).ch.door = s.ch.door ∧ (s.enterInerting).ch.doorOpen = s.ch.doorOpen ∧
    (s.enterInerting).ch.sweepWait = s.ch.sweepWait ∧ (s.enterInerting).ch.sweep = s.ch.sweep ∧
    (s.enterInerting).ch.sweepRetry = s.ch.sweepRetry ∧ (s.enterInerting).ch.path = s.ch.path ∧
    (s.enterInerting).mu.ch = s.mu.ch ∧ (s.enterInerting).mu.filters = s.mu.filters ∧
    (s.enterInerting).mu.cmp.pulldown = s.mu.cmp.pulldown ∧
    (s.enterInerting).mu.cmp.ambientWatch = s.mu.cmp.ambientWatch ∧
    (s.enterInerting).mu.cmp.ambientStop = s.mu.cmp.ambientStop ∧
    (s.enterInerting).mu.cmp.headerHigh = s.mu.cmp.headerHigh ∧
    (s.enterInerting).mu.cmp.headerRecovered = s.mu.cmp.headerRecovered ∧
    (s.enterInerting).mu.cmp.oxygenUnder = s.mu.cmp.oxygenUnder ∧
    (s.enterInerting).mu.cmp.oxygenHigh = s.mu.cmp.oxygenHigh ∧
    (s.enterInerting).mu.cmp.chamberWatch = s.mu.cmp.chamberWatch ∧
    (s.enterInerting).mu.cmp.chamberStop = s.mu.cmp.chamberStop ∧
    (s.enterInerting).mu.cmp.purgeNeeded = s.mu.cmp.purgeNeeded ∧
    (s.enterInerting).mu.cmp.purgeClear = s.mu.cmp.purgeClear ∧
    (s.enterInerting).mu.cmp.quiet = s.mu.cmp.quiet ∧ (s.enterInerting).mu.discA = s.mu.discA ∧
    (s.enterInerting).mu.discB = s.mu.discB ∧ (s.enterInerting).mu.presentA = s.mu.presentA ∧
    (s.enterInerting).mu.presentB = s.mu.presentB ∧ (s.enterInerting).mu.zero = s.mu.zero ∧
    (s.enterInerting).mu.zeroRejected = s.mu.zeroRejected ∧ (s.enterInerting).ac = s.ac ∧
    (s.enterInerting).pu = s.pu ∧ (s.enterInerting).rs = s.rs ∧ (s.enterInerting).nv = s.nv ∧
    (s.enterInerting).free = s.free ∧ (s.enterInerting).pending = s.pending := by
  simp [State.enterInerting]

/-- What `State.enterReady` leaves unchanged. -/
@[simp] theorem State.enterReady_frame (s : State) :
    (s.enterReady).boot = s.boot ∧ (s.enterReady).cfg = s.cfg ∧ (s.enterReady).li.idle = s.li.idle ∧
    (s.enterReady).li.receiver = s.li.receiver ∧ (s.enterReady).li.transmitter = s.li.transmitter ∧
    (s.enterReady).li.lastHazard = s.li.lastHazard ∧ (s.enterReady).pt = s.pt ∧
    (s.enterReady).ms.listA = s.ms.listA ∧ (s.enterReady).ms.listB = s.ms.listB ∧
    (s.enterReady).ms.marks = s.ms.marks ∧ (s.enterReady).ms.backoff = s.ms.backoff ∧
    (s.enterReady).ms.call = s.ms.call ∧ (s.enterReady).sq = s.sq ∧
    (s.enterReady).ch.pending = s.ch.pending ∧ (s.enterReady).ch.cls = s.ch.cls ∧
    (s.enterReady).ch.door = s.ch.door ∧ (s.enterReady).ch.doorOpen = s.ch.doorOpen ∧
    (s.enterReady).ch.sweepWait = s.ch.sweepWait ∧ (s.enterReady).ch.sweep = s.ch.sweep ∧
    (s.enterReady).ch.sweepRetry = s.ch.sweepRetry ∧ (s.enterReady).ch.path = s.ch.path ∧
    (s.enterReady).ch.zeroDone = s.ch.zeroDone ∧ (s.enterReady).mu.ch = s.mu.ch ∧
    (s.enterReady).mu.filters = s.mu.filters ∧ (s.enterReady).mu.cmp.pulldown = s.mu.cmp.pulldown ∧
    (s.enterReady).mu.cmp.ambientWatch = s.mu.cmp.ambientWatch ∧
    (s.enterReady).mu.cmp.ambientStop = s.mu.cmp.ambientStop ∧
    (s.enterReady).mu.cmp.headerHigh = s.mu.cmp.headerHigh ∧
    (s.enterReady).mu.cmp.headerRecovered = s.mu.cmp.headerRecovered ∧
    (s.enterReady).mu.cmp.oxygenUnder = s.mu.cmp.oxygenUnder ∧
    (s.enterReady).mu.cmp.oxygenHigh = s.mu.cmp.oxygenHigh ∧
    (s.enterReady).mu.cmp.chamberWatch = s.mu.cmp.chamberWatch ∧
    (s.enterReady).mu.cmp.chamberStop = s.mu.cmp.chamberStop ∧
    (s.enterReady).mu.cmp.purgeNeeded = s.mu.cmp.purgeNeeded ∧
    (s.enterReady).mu.cmp.purgeClear = s.mu.cmp.purgeClear ∧ (s.enterReady).mu.cmp.quiet = s.mu.cmp.quiet ∧
    (s.enterReady).mu.discA = s.mu.discA ∧ (s.enterReady).mu.discB = s.mu.discB ∧
    (s.enterReady).mu.presentA = s.mu.presentA ∧ (s.enterReady).mu.presentB = s.mu.presentB ∧
    (s.enterReady).mu.zero = s.mu.zero ∧ (s.enterReady).mu.zeroRejected = s.mu.zeroRejected ∧
    (s.enterReady).ac = s.ac ∧ (s.enterReady).pu = s.pu ∧ (s.enterReady).rs = s.rs ∧
    (s.enterReady).nv = s.nv ∧ (s.enterReady).free = s.free ∧ (s.enterReady).pending = s.pending := by
  dsimp only [State.enterReady]; (repeat' split) <;> simp

/-- What `State.enterEntry` leaves unchanged. -/
@[simp] theorem State.enterEntry_frame (s : State) :
    (s.enterEntry).boot = s.boot ∧ (s.enterEntry).cfg = s.cfg ∧ (s.enterEntry).li = s.li ∧
    (s.enterEntry).pt = s.pt ∧ (s.enterEntry).ms = s.ms ∧ (s.enterEntry).sq = s.sq ∧
    (s.enterEntry).ch.pending = s.ch.pending ∧ (s.enterEntry).ch.cls = s.ch.cls ∧
    (s.enterEntry).ch.doorOpen = s.ch.doorOpen ∧ (s.enterEntry).ch.sweepWait = s.ch.sweepWait ∧
    (s.enterEntry).ch.sweep = s.ch.sweep ∧ (s.enterEntry).ch.sweepRetry = s.ch.sweepRetry ∧
    (s.enterEntry).ch.path = s.ch.path ∧ (s.enterEntry).ch.zeroDone = s.ch.zeroDone ∧
    (s.enterEntry).mu = s.mu ∧ (s.enterEntry).ac = s.ac ∧ (s.enterEntry).pu = s.pu ∧
    (s.enterEntry).rs = s.rs ∧ (s.enterEntry).nv = s.nv ∧ (s.enterEntry).free = s.free ∧
    (s.enterEntry).pending = s.pending := by
  simp [State.enterEntry]

/-- What `State.enterSweep` leaves unchanged. -/
@[simp] theorem State.enterSweep_frame (s : State) :
    (s.enterSweep).boot = s.boot ∧ (s.enterSweep).cfg = s.cfg ∧ (s.enterSweep).li.idle = s.li.idle ∧
    (s.enterSweep).li.receiver = s.li.receiver ∧ (s.enterSweep).li.transmitter = s.li.transmitter ∧
    (s.enterSweep).li.lastHazard = s.li.lastHazard ∧ (s.enterSweep).pt = s.pt ∧
    (s.enterSweep).ms.listA = s.ms.listA ∧ (s.enterSweep).ms.listB = s.ms.listB ∧
    (s.enterSweep).ms.marks = s.ms.marks ∧ (s.enterSweep).ms.backoff = s.ms.backoff ∧
    (s.enterSweep).ms.call = s.ms.call ∧ (s.enterSweep).sq = s.sq ∧
    (s.enterSweep).ch.pending = s.ch.pending ∧ (s.enterSweep).ch.cls = s.ch.cls ∧
    (s.enterSweep).ch.door = s.ch.door ∧ (s.enterSweep).ch.doorOpen = s.ch.doorOpen ∧
    (s.enterSweep).ch.sweep = s.ch.sweep ∧ (s.enterSweep).ch.sweepRetry = s.ch.sweepRetry ∧
    (s.enterSweep).ch.path = s.ch.path ∧ (s.enterSweep).ch.zeroDone = s.ch.zeroDone ∧
    (s.enterSweep).mu = s.mu ∧ (s.enterSweep).ac = s.ac ∧ (s.enterSweep).pu = s.pu ∧
    (s.enterSweep).rs = s.rs ∧ (s.enterSweep).nv = s.nv ∧ (s.enterSweep).free = s.free ∧
    (s.enterSweep).pending = s.pending := by
  simp [State.enterSweep]

/-- What `State.startSweep` leaves unchanged. -/
@[simp] theorem State.startSweep_frame (s : State) :
    (s.startSweep).boot = s.boot ∧ (s.startSweep).cfg = s.cfg ∧ (s.startSweep).li = s.li ∧
    (s.startSweep).pt = s.pt ∧ (s.startSweep).ms = s.ms ∧ (s.startSweep).sq = s.sq ∧
    (s.startSweep).ch.st = s.ch.st ∧ (s.startSweep).ch.pending = s.ch.pending ∧
    (s.startSweep).ch.cls = s.ch.cls ∧ (s.startSweep).ch.door = s.ch.door ∧
    (s.startSweep).ch.doorOpen = s.ch.doorOpen ∧ (s.startSweep).ch.sweepRetry = s.ch.sweepRetry ∧
    (s.startSweep).ch.path = s.ch.path ∧ (s.startSweep).ch.zeroDone = s.ch.zeroDone ∧
    (s.startSweep).mu = s.mu ∧ (s.startSweep).ac = s.ac ∧ (s.startSweep).pu = s.pu ∧
    (s.startSweep).rs = s.rs ∧ (s.startSweep).nv = s.nv ∧ (s.startSweep).free = s.free ∧
    (s.startSweep).pending = s.pending := by
  simp [State.startSweep]

/-- What `State.enterHalted` leaves unchanged. -/
@[simp] theorem State.enterHalted_frame (s : State) :
    (s.enterHalted).boot = s.boot ∧ (s.enterHalted).cfg = s.cfg ∧ (s.enterHalted).li.idle = s.li.idle ∧
    (s.enterHalted).li.receiver = s.li.receiver ∧ (s.enterHalted).li.transmitter = s.li.transmitter ∧
    (s.enterHalted).li.lastHazard = s.li.lastHazard ∧ (s.enterHalted).pt = s.pt ∧
    (s.enterHalted).ms.listA = s.ms.listA ∧ (s.enterHalted).ms.listB = s.ms.listB ∧
    (s.enterHalted).ms.marks = s.ms.marks ∧ (s.enterHalted).ms.backoff = s.ms.backoff ∧
    (s.enterHalted).ms.call = s.ms.call ∧ (s.enterHalted).sq = s.sq ∧
    (s.enterHalted).ch.pending = s.ch.pending ∧ (s.enterHalted).ch.cls = s.ch.cls ∧
    (s.enterHalted).ch.doorOpen = s.ch.doorOpen ∧ (s.enterHalted).ch.sweepRetry = s.ch.sweepRetry ∧
    (s.enterHalted).ch.path = s.ch.path ∧ (s.enterHalted).ch.zeroDone = s.ch.zeroDone ∧
    (s.enterHalted).mu.ch = s.mu.ch ∧ (s.enterHalted).mu.filters = s.mu.filters ∧
    (s.enterHalted).mu.cmp.pulldown = s.mu.cmp.pulldown ∧
    (s.enterHalted).mu.cmp.ambientWatch = s.mu.cmp.ambientWatch ∧
    (s.enterHalted).mu.cmp.ambientStop = s.mu.cmp.ambientStop ∧
    (s.enterHalted).mu.cmp.headerHigh = s.mu.cmp.headerHigh ∧
    (s.enterHalted).mu.cmp.headerRecovered = s.mu.cmp.headerRecovered ∧
    (s.enterHalted).mu.cmp.oxygenUnder = s.mu.cmp.oxygenUnder ∧
    (s.enterHalted).mu.cmp.oxygenHigh = s.mu.cmp.oxygenHigh ∧
    (s.enterHalted).mu.cmp.chamberWatch = s.mu.cmp.chamberWatch ∧
    (s.enterHalted).mu.cmp.chamberStop = s.mu.cmp.chamberStop ∧
    (s.enterHalted).mu.cmp.purgeNeeded = s.mu.cmp.purgeNeeded ∧
    (s.enterHalted).mu.cmp.purgeClear = s.mu.cmp.purgeClear ∧
    (s.enterHalted).mu.cmp.quiet = s.mu.cmp.quiet ∧ (s.enterHalted).mu.discA = s.mu.discA ∧
    (s.enterHalted).mu.discB = s.mu.discB ∧ (s.enterHalted).mu.presentA = s.mu.presentA ∧
    (s.enterHalted).mu.presentB = s.mu.presentB ∧ (s.enterHalted).mu.zero = s.mu.zero ∧
    (s.enterHalted).mu.zeroRejected = s.mu.zeroRejected ∧ (s.enterHalted).ac = s.ac ∧
    (s.enterHalted).pu = s.pu ∧ (s.enterHalted).rs = s.rs ∧ (s.enterHalted).nv = s.nv ∧
    (s.enterHalted).free = s.free ∧ (s.enterHalted).pending = s.pending := by
  simp [State.enterHalted]

/-- What `State.enterPurging` leaves unchanged. -/
@[simp] theorem State.enterPurging_frame (s : State) :
    (s.enterPurging).boot = s.boot ∧ (s.enterPurging).cfg = s.cfg ∧ (s.enterPurging).li.idle = s.li.idle ∧
    (s.enterPurging).li.receiver = s.li.receiver ∧ (s.enterPurging).li.transmitter = s.li.transmitter ∧
    (s.enterPurging).li.lastHazard = s.li.lastHazard ∧ (s.enterPurging).pt = s.pt ∧
    (s.enterPurging).ms.listA = s.ms.listA ∧ (s.enterPurging).ms.listB = s.ms.listB ∧
    (s.enterPurging).ms.marks = s.ms.marks ∧ (s.enterPurging).ms.backoff = s.ms.backoff ∧
    (s.enterPurging).sq = s.sq ∧ (s.enterPurging).ch.pending = s.ch.pending ∧
    (s.enterPurging).ch.cls = s.ch.cls ∧ (s.enterPurging).ch.doorOpen = s.ch.doorOpen ∧
    (s.enterPurging).ch.sweepRetry = s.ch.sweepRetry ∧ (s.enterPurging).ch.zeroDone = s.ch.zeroDone ∧
    (s.enterPurging).mu.ch = s.mu.ch ∧ (s.enterPurging).mu.filters = s.mu.filters ∧
    (s.enterPurging).mu.cmp.pulldown = s.mu.cmp.pulldown ∧
    (s.enterPurging).mu.cmp.ambientWatch = s.mu.cmp.ambientWatch ∧
    (s.enterPurging).mu.cmp.ambientStop = s.mu.cmp.ambientStop ∧
    (s.enterPurging).mu.cmp.headerHigh = s.mu.cmp.headerHigh ∧
    (s.enterPurging).mu.cmp.headerRecovered = s.mu.cmp.headerRecovered ∧
    (s.enterPurging).mu.cmp.oxygenUnder = s.mu.cmp.oxygenUnder ∧
    (s.enterPurging).mu.cmp.oxygenHigh = s.mu.cmp.oxygenHigh ∧
    (s.enterPurging).mu.cmp.chamberWatch = s.mu.cmp.chamberWatch ∧
    (s.enterPurging).mu.cmp.chamberStop = s.mu.cmp.chamberStop ∧
    (s.enterPurging).mu.cmp.purgeNeeded = s.mu.cmp.purgeNeeded ∧
    (s.enterPurging).mu.cmp.quiet = s.mu.cmp.quiet ∧ (s.enterPurging).mu.discA = s.mu.discA ∧
    (s.enterPurging).mu.discB = s.mu.discB ∧ (s.enterPurging).mu.presentA = s.mu.presentA ∧
    (s.enterPurging).mu.presentB = s.mu.presentB ∧ (s.enterPurging).mu.zero = s.mu.zero ∧
    (s.enterPurging).mu.zeroRejected = s.mu.zeroRejected ∧ (s.enterPurging).ac.queue = s.ac.queue ∧
    (s.enterPurging).ac.intake = s.ac.intake ∧ (s.enterPurging).ac.nextNumber = s.ac.nextNumber ∧
    (s.enterPurging).ac.offer = s.ac.offer ∧ (s.enterPurging).pu = s.pu ∧ (s.enterPurging).rs = s.rs ∧
    (s.enterPurging).nv = s.nv ∧ (s.enterPurging).free = s.free ∧ (s.enterPurging).pending = s.pending := by
  simp [State.enterPurging]

/-- What a change of the chamber's state leaves unchanged. -/
theorem State.chamberMove_frame (s t : State) (h : s.chamberMove = some t) :
    t.boot = s.boot ∧ t.cfg = s.cfg ∧ t.li.idle = s.li.idle ∧ t.li.receiver = s.li.receiver ∧
    t.li.transmitter = s.li.transmitter ∧ t.li.lastHazard = s.li.lastHazard ∧ t.pt = s.pt ∧
    t.ms.listA = s.ms.listA ∧ t.ms.listB = s.ms.listB ∧ t.ms.marks = s.ms.marks ∧
    t.ms.backoff = s.ms.backoff ∧ t.ms.call = s.ms.call ∧ t.sq = s.sq ∧ t.ch.pending = s.ch.pending ∧
    t.ch.cls = s.ch.cls ∧ t.ch.doorOpen = s.ch.doorOpen ∧ t.ch.sweepRetry = s.ch.sweepRetry ∧
    t.mu.ch = s.mu.ch ∧ t.mu.filters = s.mu.filters ∧ t.mu.cmp.pulldown = s.mu.cmp.pulldown ∧
    t.mu.cmp.ambientWatch = s.mu.cmp.ambientWatch ∧ t.mu.cmp.ambientStop = s.mu.cmp.ambientStop ∧
    t.mu.cmp.headerHigh = s.mu.cmp.headerHigh ∧ t.mu.cmp.headerRecovered = s.mu.cmp.headerRecovered ∧
    t.mu.cmp.oxygenUnder = s.mu.cmp.oxygenUnder ∧ t.mu.cmp.oxygenHigh = s.mu.cmp.oxygenHigh ∧
    t.mu.cmp.chamberWatch = s.mu.cmp.chamberWatch ∧ t.mu.cmp.chamberStop = s.mu.cmp.chamberStop ∧
    t.mu.cmp.purgeNeeded = s.mu.cmp.purgeNeeded ∧ t.mu.cmp.purgeClear = s.mu.cmp.purgeClear ∧
    t.mu.cmp.quiet = s.mu.cmp.quiet ∧ t.mu.discA = s.mu.discA ∧ t.mu.discB = s.mu.discB ∧
    t.mu.presentA = s.mu.presentA ∧ t.mu.presentB = s.mu.presentB ∧ t.mu.zero = s.mu.zero ∧
    t.mu.zeroRejected = s.mu.zeroRejected ∧ t.ac = s.ac ∧ t.pu.sources = s.pu.sources ∧ t.rs = s.rs ∧
    t.nv = s.nv ∧ t.free = s.free ∧ t.pending = s.pending := by
  unfold State.chamberMove at h
  (repeat' split at h) <;> first | (cases h; done) | (cases h; simp)

/-- What changes of the chamber's state one after another leave unchanged. -/
@[simp] theorem State.chamberMoves_frame (n : Nat) (s : State) :
    (State.chamberMoves n s).boot = s.boot ∧ (State.chamberMoves n s).cfg = s.cfg ∧
    (State.chamberMoves n s).li.idle = s.li.idle ∧ (State.chamberMoves n s).li.receiver = s.li.receiver ∧
    (State.chamberMoves n s).li.transmitter = s.li.transmitter ∧
    (State.chamberMoves n s).li.lastHazard = s.li.lastHazard ∧ (State.chamberMoves n s).pt = s.pt ∧
    (State.chamberMoves n s).ms.listA = s.ms.listA ∧ (State.chamberMoves n s).ms.listB = s.ms.listB ∧
    (State.chamberMoves n s).ms.marks = s.ms.marks ∧ (State.chamberMoves n s).ms.backoff = s.ms.backoff ∧
    (State.chamberMoves n s).ms.call = s.ms.call ∧ (State.chamberMoves n s).sq = s.sq ∧
    (State.chamberMoves n s).ch.pending = s.ch.pending ∧ (State.chamberMoves n s).ch.cls = s.ch.cls ∧
    (State.chamberMoves n s).ch.doorOpen = s.ch.doorOpen ∧
    (State.chamberMoves n s).ch.sweepRetry = s.ch.sweepRetry ∧ (State.chamberMoves n s).mu.ch = s.mu.ch ∧
    (State.chamberMoves n s).mu.filters = s.mu.filters ∧
    (State.chamberMoves n s).mu.cmp.pulldown = s.mu.cmp.pulldown ∧
    (State.chamberMoves n s).mu.cmp.ambientWatch = s.mu.cmp.ambientWatch ∧
    (State.chamberMoves n s).mu.cmp.ambientStop = s.mu.cmp.ambientStop ∧
    (State.chamberMoves n s).mu.cmp.headerHigh = s.mu.cmp.headerHigh ∧
    (State.chamberMoves n s).mu.cmp.headerRecovered = s.mu.cmp.headerRecovered ∧
    (State.chamberMoves n s).mu.cmp.oxygenUnder = s.mu.cmp.oxygenUnder ∧
    (State.chamberMoves n s).mu.cmp.oxygenHigh = s.mu.cmp.oxygenHigh ∧
    (State.chamberMoves n s).mu.cmp.chamberWatch = s.mu.cmp.chamberWatch ∧
    (State.chamberMoves n s).mu.cmp.chamberStop = s.mu.cmp.chamberStop ∧
    (State.chamberMoves n s).mu.cmp.purgeNeeded = s.mu.cmp.purgeNeeded ∧
    (State.chamberMoves n s).mu.cmp.purgeClear = s.mu.cmp.purgeClear ∧
    (State.chamberMoves n s).mu.cmp.quiet = s.mu.cmp.quiet ∧
    (State.chamberMoves n s).mu.discA = s.mu.discA ∧ (State.chamberMoves n s).mu.discB = s.mu.discB ∧
    (State.chamberMoves n s).mu.presentA = s.mu.presentA ∧
    (State.chamberMoves n s).mu.presentB = s.mu.presentB ∧ (State.chamberMoves n s).mu.zero = s.mu.zero ∧
    (State.chamberMoves n s).mu.zeroRejected = s.mu.zeroRejected ∧ (State.chamberMoves n s).ac = s.ac ∧
    (State.chamberMoves n s).pu.sources = s.pu.sources ∧ (State.chamberMoves n s).rs = s.rs ∧
    (State.chamberMoves n s).nv = s.nv ∧ (State.chamberMoves n s).free = s.free ∧
    (State.chamberMoves n s).pending = s.pending := by
  induction n generalizing s with
  | zero => simp [State.chamberMoves]
  | succ n ih =>
    unfold State.chamberMoves
    split
    · rename_i t h
      have := State.chamberMove_frame s t h
      simp only [ih t, this, and_self]
    · simp

/-- What `State.settleSweep` leaves unchanged. -/
@[simp] theorem State.settleSweep_frame (s : State) :
    (s.settleSweep).boot = s.boot ∧ (s.settleSweep).cfg = s.cfg ∧ (s.settleSweep).li = s.li ∧
    (s.settleSweep).pt = s.pt ∧ (s.settleSweep).ms = s.ms ∧ (s.settleSweep).sq = s.sq ∧
    (s.settleSweep).ch.st = s.ch.st ∧ (s.settleSweep).ch.pending = s.ch.pending ∧
    (s.settleSweep).ch.cls = s.ch.cls ∧ (s.settleSweep).ch.door = s.ch.door ∧
    (s.settleSweep).ch.doorOpen = s.ch.doorOpen ∧ (s.settleSweep).ch.sweepWait = s.ch.sweepWait ∧
    (s.settleSweep).ch.sweepRetry = s.ch.sweepRetry ∧ (s.settleSweep).ch.path = s.ch.path ∧
    (s.settleSweep).ch.zeroDone = s.ch.zeroDone ∧ (s.settleSweep).mu = s.mu ∧ (s.settleSweep).ac = s.ac ∧
    (s.settleSweep).pu = s.pu ∧ (s.settleSweep).rs = s.rs ∧ (s.settleSweep).nv = s.nv ∧
    (s.settleSweep).free = s.free ∧ (s.settleSweep).pending = s.pending := by
  dsimp only [State.settleSweep]; (repeat' split) <;> simp

/-- What the closing of every account with a carry-over timer due leaves unchanged. -/
@[simp] theorem State.closeDue_frame (l : List ChamberEntry) (s : State) :
    (State.closeDue l s).boot = s.boot ∧ (State.closeDue l s).cfg = s.cfg ∧ (State.closeDue l s).li = s.li ∧
    (State.closeDue l s).pt = s.pt ∧ (State.closeDue l s).ms = s.ms ∧ (State.closeDue l s).sq = s.sq ∧
    (State.closeDue l s).ch = s.ch ∧ (State.closeDue l s).mu.ch = s.mu.ch ∧
    (State.closeDue l s).mu.filters = s.mu.filters ∧
    (State.closeDue l s).mu.cmp.pulldown = s.mu.cmp.pulldown ∧
    (State.closeDue l s).mu.cmp.ambientWatch = s.mu.cmp.ambientWatch ∧
    (State.closeDue l s).mu.cmp.ambientStop = s.mu.cmp.ambientStop ∧
    (State.closeDue l s).mu.cmp.headerHigh = s.mu.cmp.headerHigh ∧
    (State.closeDue l s).mu.cmp.headerRecovered = s.mu.cmp.headerRecovered ∧
    (State.closeDue l s).mu.cmp.inert = s.mu.cmp.inert ∧
    (State.closeDue l s).mu.cmp.oxygenUnder = s.mu.cmp.oxygenUnder ∧
    (State.closeDue l s).mu.cmp.oxygenHigh = s.mu.cmp.oxygenHigh ∧
    (State.closeDue l s).mu.cmp.chamberWatch = s.mu.cmp.chamberWatch ∧
    (State.closeDue l s).mu.cmp.chamberStop = s.mu.cmp.chamberStop ∧
    (State.closeDue l s).mu.cmp.purgeNeeded = s.mu.cmp.purgeNeeded ∧
    (State.closeDue l s).mu.cmp.purgeClear = s.mu.cmp.purgeClear ∧
    (State.closeDue l s).mu.discA = s.mu.discA ∧ (State.closeDue l s).mu.discB = s.mu.discB ∧
    (State.closeDue l s).mu.presentA = s.mu.presentA ∧ (State.closeDue l s).mu.presentB = s.mu.presentB ∧
    (State.closeDue l s).mu.window = s.mu.window ∧ (State.closeDue l s).mu.zero = s.mu.zero ∧
    (State.closeDue l s).mu.zeroRejected = s.mu.zeroRejected ∧ (State.closeDue l s).ac.queue = s.ac.queue ∧
    (State.closeDue l s).ac.intake = s.ac.intake ∧ (State.closeDue l s).ac.nextNumber = s.ac.nextNumber ∧
    (State.closeDue l s).ac.offer = s.ac.offer ∧ (State.closeDue l s).pu = s.pu ∧
    (State.closeDue l s).rs.lastSequence = s.rs.lastSequence ∧
    (State.closeDue l s).rs.writePosition = s.rs.writePosition ∧ (State.closeDue l s).rs.full = s.rs.full ∧
    (State.closeDue l s).rs.fault = s.rs.fault ∧ (State.closeDue l s).rs.commit = s.rs.commit ∧
    (State.closeDue l s).rs.readPointer = s.rs.readPointer ∧ (State.closeDue l s).rs.target = s.rs.target ∧
    (State.closeDue l s).rs.supplyLow = s.rs.supplyLow ∧
    (State.closeDue l s).rs.supplyBelow = s.rs.supplyBelow ∧ (State.closeDue l s).rs.lock = s.rs.lock ∧
    (State.closeDue l s).rs.working = s.rs.working ∧ (State.closeDue l s).rs.idle = s.rs.idle ∧
    (State.closeDue l s).rs.statusTimer = s.rs.statusTimer ∧
    (State.closeDue l s).rs.blockWrite = s.rs.blockWrite ∧ (State.closeDue l s).nv = s.nv ∧
    (State.closeDue l s).free = s.free ∧ (State.closeDue l s).pending = s.pending := by
  induction l generalizing s with
  | nil => simp [State.closeDue]
  | cons e es ih =>
    unfold State.closeDue
    split
    · have := State.closeWindow_frame s e.account.key
      simp only [ih, this, and_self]
    · simp only [ih, and_self]

/-- What `State.settleCarry` leaves unchanged. -/
@[simp] theorem State.settleCarry_frame (s : State) :
    (s.settleCarry).boot = s.boot ∧ (s.settleCarry).cfg = s.cfg ∧ (s.settleCarry).li = s.li ∧
    (s.settleCarry).pt = s.pt ∧ (s.settleCarry).ms = s.ms ∧ (s.settleCarry).sq = s.sq ∧
    (s.settleCarry).ch = s.ch ∧ (s.settleCarry).mu.ch = s.mu.ch ∧
    (s.settleCarry).mu.filters = s.mu.filters ∧ (s.settleCarry).mu.cmp.pulldown = s.mu.cmp.pulldown ∧
    (s.settleCarry).mu.cmp.ambientWatch = s.mu.cmp.ambientWatch ∧
    (s.settleCarry).mu.cmp.ambientStop = s.mu.cmp.ambientStop ∧
    (s.settleCarry).mu.cmp.headerHigh = s.mu.cmp.headerHigh ∧
    (s.settleCarry).mu.cmp.headerRecovered = s.mu.cmp.headerRecovered ∧
    (s.settleCarry).mu.cmp.inert = s.mu.cmp.inert ∧
    (s.settleCarry).mu.cmp.oxygenUnder = s.mu.cmp.oxygenUnder ∧
    (s.settleCarry).mu.cmp.oxygenHigh = s.mu.cmp.oxygenHigh ∧
    (s.settleCarry).mu.cmp.chamberWatch = s.mu.cmp.chamberWatch ∧
    (s.settleCarry).mu.cmp.chamberStop = s.mu.cmp.chamberStop ∧
    (s.settleCarry).mu.cmp.purgeNeeded = s.mu.cmp.purgeNeeded ∧
    (s.settleCarry).mu.cmp.purgeClear = s.mu.cmp.purgeClear ∧ (s.settleCarry).mu.discA = s.mu.discA ∧
    (s.settleCarry).mu.discB = s.mu.discB ∧ (s.settleCarry).mu.presentA = s.mu.presentA ∧
    (s.settleCarry).mu.presentB = s.mu.presentB ∧ (s.settleCarry).mu.window = s.mu.window ∧
    (s.settleCarry).mu.zero = s.mu.zero ∧ (s.settleCarry).mu.zeroRejected = s.mu.zeroRejected ∧
    (s.settleCarry).ac.queue = s.ac.queue ∧ (s.settleCarry).ac.intake = s.ac.intake ∧
    (s.settleCarry).ac.nextNumber = s.ac.nextNumber ∧ (s.settleCarry).ac.offer = s.ac.offer ∧
    (s.settleCarry).pu = s.pu ∧ (s.settleCarry).rs.lastSequence = s.rs.lastSequence ∧
    (s.settleCarry).rs.writePosition = s.rs.writePosition ∧ (s.settleCarry).rs.full = s.rs.full ∧
    (s.settleCarry).rs.fault = s.rs.fault ∧ (s.settleCarry).rs.commit = s.rs.commit ∧
    (s.settleCarry).rs.readPointer = s.rs.readPointer ∧ (s.settleCarry).rs.target = s.rs.target ∧
    (s.settleCarry).rs.supplyLow = s.rs.supplyLow ∧ (s.settleCarry).rs.supplyBelow = s.rs.supplyBelow ∧
    (s.settleCarry).rs.lock = s.rs.lock ∧
    (s.settleCarry).rs.working = s.rs.working ∧ (s.settleCarry).rs.idle = s.rs.idle ∧
    (s.settleCarry).rs.statusTimer = s.rs.statusTimer ∧ (s.settleCarry).rs.blockWrite = s.rs.blockWrite ∧
    (s.settleCarry).nv = s.nv ∧ (s.settleCarry).free = s.free ∧ (s.settleCarry).pending = s.pending := by
  dsimp only [State.settleCarry]; (repeat' split) <;> simp

/-- What `State.settleQuiet` leaves unchanged. -/
@[simp] theorem State.settleQuiet_frame (s : State) :
    (s.settleQuiet).boot = s.boot ∧ (s.settleQuiet).cfg = s.cfg ∧ (s.settleQuiet).li = s.li ∧
    (s.settleQuiet).pt = s.pt ∧ (s.settleQuiet).ms = s.ms ∧ (s.settleQuiet).sq = s.sq ∧
    (s.settleQuiet).ch = s.ch ∧ (s.settleQuiet).mu.ch = s.mu.ch ∧
    (s.settleQuiet).mu.filters = s.mu.filters ∧ (s.settleQuiet).mu.cmp.pulldown = s.mu.cmp.pulldown ∧
    (s.settleQuiet).mu.cmp.ambientWatch = s.mu.cmp.ambientWatch ∧
    (s.settleQuiet).mu.cmp.ambientStop = s.mu.cmp.ambientStop ∧
    (s.settleQuiet).mu.cmp.headerHigh = s.mu.cmp.headerHigh ∧
    (s.settleQuiet).mu.cmp.headerRecovered = s.mu.cmp.headerRecovered ∧
    (s.settleQuiet).mu.cmp.inert = s.mu.cmp.inert ∧
    (s.settleQuiet).mu.cmp.oxygenUnder = s.mu.cmp.oxygenUnder ∧
    (s.settleQuiet).mu.cmp.oxygenHigh = s.mu.cmp.oxygenHigh ∧
    (s.settleQuiet).mu.cmp.chamberWatch = s.mu.cmp.chamberWatch ∧
    (s.settleQuiet).mu.cmp.chamberStop = s.mu.cmp.chamberStop ∧
    (s.settleQuiet).mu.cmp.purgeNeeded = s.mu.cmp.purgeNeeded ∧
    (s.settleQuiet).mu.cmp.purgeClear = s.mu.cmp.purgeClear ∧ (s.settleQuiet).mu.discA = s.mu.discA ∧
    (s.settleQuiet).mu.discB = s.mu.discB ∧ (s.settleQuiet).mu.presentA = s.mu.presentA ∧
    (s.settleQuiet).mu.presentB = s.mu.presentB ∧ (s.settleQuiet).mu.window = s.mu.window ∧
    (s.settleQuiet).mu.zero = s.mu.zero ∧ (s.settleQuiet).mu.zeroRejected = s.mu.zeroRejected ∧
    (s.settleQuiet).ac = s.ac ∧ (s.settleQuiet).pu = s.pu ∧ (s.settleQuiet).rs = s.rs ∧
    (s.settleQuiet).nv = s.nv ∧ (s.settleQuiet).free = s.free ∧ (s.settleQuiet).pending = s.pending := by
  dsimp only [State.settleQuiet]; (repeat' split) <;> simp

/-- What `State.settleChamber` leaves unchanged. -/
@[simp] theorem State.settleChamber_frame (s : State) :
    (s.settleChamber).boot = s.boot ∧ (s.settleChamber).cfg = s.cfg ∧
    (s.settleChamber).li.idle = s.li.idle ∧ (s.settleChamber).li.receiver = s.li.receiver ∧
    (s.settleChamber).li.transmitter = s.li.transmitter ∧
    (s.settleChamber).li.lastHazard = s.li.lastHazard ∧ (s.settleChamber).pt = s.pt ∧
    (s.settleChamber).ms.listA = s.ms.listA ∧ (s.settleChamber).ms.listB = s.ms.listB ∧
    (s.settleChamber).ms.marks = s.ms.marks ∧ (s.settleChamber).ms.backoff = s.ms.backoff ∧
    (s.settleChamber).ms.call = s.ms.call ∧ (s.settleChamber).sq = s.sq ∧
    (s.settleChamber).ch.pending = s.ch.pending ∧ (s.settleChamber).ch.cls = s.ch.cls ∧
    (s.settleChamber).ch.doorOpen = s.ch.doorOpen ∧ (s.settleChamber).ch.sweepRetry = s.ch.sweepRetry ∧
    (s.settleChamber).mu.ch = s.mu.ch ∧ (s.settleChamber).mu.filters = s.mu.filters ∧
    (s.settleChamber).mu.cmp.pulldown = s.mu.cmp.pulldown ∧
    (s.settleChamber).mu.cmp.ambientWatch = s.mu.cmp.ambientWatch ∧
    (s.settleChamber).mu.cmp.ambientStop = s.mu.cmp.ambientStop ∧
    (s.settleChamber).mu.cmp.headerHigh = s.mu.cmp.headerHigh ∧
    (s.settleChamber).mu.cmp.headerRecovered = s.mu.cmp.headerRecovered ∧
    (s.settleChamber).mu.cmp.oxygenUnder = s.mu.cmp.oxygenUnder ∧
    (s.settleChamber).mu.cmp.oxygenHigh = s.mu.cmp.oxygenHigh ∧
    (s.settleChamber).mu.cmp.chamberWatch = s.mu.cmp.chamberWatch ∧
    (s.settleChamber).mu.cmp.chamberStop = s.mu.cmp.chamberStop ∧
    (s.settleChamber).mu.cmp.purgeNeeded = s.mu.cmp.purgeNeeded ∧
    (s.settleChamber).mu.cmp.purgeClear = s.mu.cmp.purgeClear ∧ (s.settleChamber).mu.discA = s.mu.discA ∧
    (s.settleChamber).mu.discB = s.mu.discB ∧ (s.settleChamber).mu.presentA = s.mu.presentA ∧
    (s.settleChamber).mu.presentB = s.mu.presentB ∧ (s.settleChamber).mu.zero = s.mu.zero ∧
    (s.settleChamber).mu.zeroRejected = s.mu.zeroRejected ∧ (s.settleChamber).ac.queue = s.ac.queue ∧
    (s.settleChamber).ac.intake = s.ac.intake ∧ (s.settleChamber).ac.nextNumber = s.ac.nextNumber ∧
    (s.settleChamber).ac.offer = s.ac.offer ∧ (s.settleChamber).pu.sources = s.pu.sources ∧
    (s.settleChamber).rs.lastSequence = s.rs.lastSequence ∧
    (s.settleChamber).rs.writePosition = s.rs.writePosition ∧ (s.settleChamber).rs.full = s.rs.full ∧
    (s.settleChamber).rs.fault = s.rs.fault ∧ (s.settleChamber).rs.commit = s.rs.commit ∧
    (s.settleChamber).rs.readPointer = s.rs.readPointer ∧ (s.settleChamber).rs.target = s.rs.target ∧
    (s.settleChamber).rs.supplyLow = s.rs.supplyLow ∧ (s.settleChamber).rs.supplyBelow = s.rs.supplyBelow ∧
    (s.settleChamber).rs.lock = s.rs.lock ∧
    (s.settleChamber).rs.working = s.rs.working ∧ (s.settleChamber).rs.idle = s.rs.idle ∧
    (s.settleChamber).rs.statusTimer = s.rs.statusTimer ∧
    (s.settleChamber).rs.blockWrite = s.rs.blockWrite ∧ (s.settleChamber).nv = s.nv ∧
    (s.settleChamber).free = s.free ∧ (s.settleChamber).pending = s.pending := by
  dsimp only [State.settleChamber]; (repeat' split) <;> simp

/-- What `State.settle` leaves unchanged. -/
@[simp] theorem State.settle_frame (s : State) :
    (s.settle).boot = s.boot ∧ (s.settle).cfg = s.cfg ∧ (s.settle).li.idle = s.li.idle ∧
    (s.settle).li.receiver = s.li.receiver ∧ (s.settle).li.transmitter = s.li.transmitter ∧
    (s.settle).li.lastHazard = s.li.lastHazard ∧ (s.settle).pt = s.pt ∧ (s.settle).ms.listA = s.ms.listA ∧
    (s.settle).ms.listB = s.ms.listB ∧ (s.settle).ms.marks = s.ms.marks ∧
    (s.settle).ms.backoff = s.ms.backoff ∧ (s.settle).ms.call = s.ms.call ∧
    (s.settle).sq.repeats = s.sq.repeats ∧ (s.settle).sq.used = s.sq.used ∧
    (s.settle).sq.clampHold = s.sq.clampHold ∧ (s.settle).sq.clock = s.sq.clock ∧
    (s.settle).sq.seconds = s.sq.seconds ∧ (s.settle).sq.finalPressure = s.sq.finalPressure ∧
    (s.settle).ch.pending = s.ch.pending ∧ (s.settle).ch.cls = s.ch.cls ∧
    (s.settle).ch.doorOpen = s.ch.doorOpen ∧ (s.settle).ch.sweepRetry = s.ch.sweepRetry ∧
    (s.settle).mu.ch = s.mu.ch ∧ (s.settle).mu.filters = s.mu.filters ∧
    (s.settle).mu.cmp.ambientWatch = s.mu.cmp.ambientWatch ∧
    (s.settle).mu.cmp.ambientStop = s.mu.cmp.ambientStop ∧
    (s.settle).mu.cmp.headerHigh = s.mu.cmp.headerHigh ∧
    (s.settle).mu.cmp.headerRecovered = s.mu.cmp.headerRecovered ∧
    (s.settle).mu.cmp.oxygenUnder = s.mu.cmp.oxygenUnder ∧
    (s.settle).mu.cmp.oxygenHigh = s.mu.cmp.oxygenHigh ∧
    (s.settle).mu.cmp.chamberWatch = s.mu.cmp.chamberWatch ∧
    (s.settle).mu.cmp.chamberStop = s.mu.cmp.chamberStop ∧
    (s.settle).mu.cmp.purgeNeeded = s.mu.cmp.purgeNeeded ∧
    (s.settle).mu.cmp.purgeClear = s.mu.cmp.purgeClear ∧ (s.settle).mu.discA = s.mu.discA ∧
    (s.settle).mu.discB = s.mu.discB ∧ (s.settle).mu.presentA = s.mu.presentA ∧
    (s.settle).mu.presentB = s.mu.presentB ∧ (s.settle).mu.zero = s.mu.zero ∧
    (s.settle).mu.zeroRejected = s.mu.zeroRejected ∧ (s.settle).ac.intake = s.ac.intake ∧
    (s.settle).ac.nextNumber = s.ac.nextNumber ∧ (s.settle).ac.offer = s.ac.offer ∧
    (s.settle).pu.sources = s.pu.sources ∧ (s.settle).rs.lastSequence = s.rs.lastSequence ∧
    (s.settle).rs.writePosition = s.rs.writePosition ∧ (s.settle).rs.full = s.rs.full ∧
    (s.settle).rs.fault = s.rs.fault ∧ (s.settle).rs.commit = s.rs.commit ∧
    (s.settle).rs.readPointer = s.rs.readPointer ∧ (s.settle).rs.target = s.rs.target ∧
    (s.settle).rs.supplyLow = s.rs.supplyLow ∧ (s.settle).rs.supplyBelow = s.rs.supplyBelow ∧
    (s.settle).rs.lock = s.rs.lock ∧
    (s.settle).rs.working = s.rs.working ∧ (s.settle).rs.idle = s.rs.idle ∧
    (s.settle).rs.statusTimer = s.rs.statusTimer ∧ (s.settle).rs.blockWrite = s.rs.blockWrite ∧
    (s.settle).nv = s.nv ∧ (s.settle).free = s.free ∧ (s.settle).pending = s.pending := by
  dsimp only [State.settle]; (repeat' split) <;> simp

/-- What `State.concludeIf` leaves unchanged. -/
@[simp] theorem State.concludeIf_frame (s : State) (b : Bool) (old : State) :
    (s.concludeIf b old).boot = s.boot ∧ (s.concludeIf b old).cfg = s.cfg ∧
    (s.concludeIf b old).li.idle = s.li.idle ∧ (s.concludeIf b old).li.receiver = s.li.receiver ∧
    (s.concludeIf b old).li.transmitter = s.li.transmitter ∧
    (s.concludeIf b old).pt.entries = s.pt.entries ∧ (s.concludeIf b old).pt.ownHazard = s.pt.ownHazard ∧
    (s.concludeIf b old).ms.listA = s.ms.listA ∧ (s.concludeIf b old).ms.listB = s.ms.listB ∧
    (s.concludeIf b old).ms.marks = s.ms.marks ∧ (s.concludeIf b old).ms.backoff = s.ms.backoff ∧
    (s.concludeIf b old).ms.call = s.ms.call ∧ (s.concludeIf b old).sq.repeats = s.sq.repeats ∧
    (s.concludeIf b old).sq.used = s.sq.used ∧ (s.concludeIf b old).sq.clampHold = s.sq.clampHold ∧
    (s.concludeIf b old).sq.clock = s.sq.clock ∧ (s.concludeIf b old).sq.seconds = s.sq.seconds ∧
    (s.concludeIf b old).sq.finalPressure = s.sq.finalPressure ∧
    (s.concludeIf b old).ch.pending = s.ch.pending ∧ (s.concludeIf b old).ch.cls = s.ch.cls ∧
    (s.concludeIf b old).ch.doorOpen = s.ch.doorOpen ∧
    (s.concludeIf b old).ch.sweepRetry = s.ch.sweepRetry ∧ (s.concludeIf b old).mu.ch = s.mu.ch ∧
    (s.concludeIf b old).mu.filters = s.mu.filters ∧
    (s.concludeIf b old).mu.cmp.ambientWatch = s.mu.cmp.ambientWatch ∧
    (s.concludeIf b old).mu.cmp.ambientStop = s.mu.cmp.ambientStop ∧
    (s.concludeIf b old).mu.cmp.headerHigh = s.mu.cmp.headerHigh ∧
    (s.concludeIf b old).mu.cmp.headerRecovered = s.mu.cmp.headerRecovered ∧
    (s.concludeIf b old).mu.cmp.oxygenUnder = s.mu.cmp.oxygenUnder ∧
    (s.concludeIf b old).mu.cmp.oxygenHigh = s.mu.cmp.oxygenHigh ∧
    (s.concludeIf b old).mu.cmp.chamberWatch = s.mu.cmp.chamberWatch ∧
    (s.concludeIf b old).mu.cmp.chamberStop = s.mu.cmp.chamberStop ∧
    (s.concludeIf b old).mu.cmp.purgeNeeded = s.mu.cmp.purgeNeeded ∧
    (s.concludeIf b old).mu.cmp.purgeClear = s.mu.cmp.purgeClear ∧
    (s.concludeIf b old).mu.discA = s.mu.discA ∧ (s.concludeIf b old).mu.discB = s.mu.discB ∧
    (s.concludeIf b old).mu.presentA = s.mu.presentA ∧ (s.concludeIf b old).mu.presentB = s.mu.presentB ∧
    (s.concludeIf b old).mu.zero = s.mu.zero ∧ (s.concludeIf b old).mu.zeroRejected = s.mu.zeroRejected ∧
    (s.concludeIf b old).ac.intake = s.ac.intake ∧ (s.concludeIf b old).ac.nextNumber = s.ac.nextNumber ∧
    (s.concludeIf b old).ac.offer = s.ac.offer ∧ (s.concludeIf b old).pu.sources = s.pu.sources ∧
    (s.concludeIf b old).rs.lastSequence = s.rs.lastSequence ∧
    (s.concludeIf b old).rs.writePosition = s.rs.writePosition ∧ (s.concludeIf b old).rs.full = s.rs.full ∧
    (s.concludeIf b old).rs.fault = s.rs.fault ∧ (s.concludeIf b old).rs.commit = s.rs.commit ∧
    (s.concludeIf b old).rs.readPointer = s.rs.readPointer ∧ (s.concludeIf b old).rs.target = s.rs.target ∧
    (s.concludeIf b old).rs.supplyLow = s.rs.supplyLow ∧
    (s.concludeIf b old).rs.supplyBelow = s.rs.supplyBelow ∧ (s.concludeIf b old).rs.lock = s.rs.lock ∧
    (s.concludeIf b old).rs.working = s.rs.working ∧ (s.concludeIf b old).rs.idle = s.rs.idle ∧
    (s.concludeIf b old).rs.statusTimer = s.rs.statusTimer ∧
    (s.concludeIf b old).rs.blockWrite = s.rs.blockWrite ∧ (s.concludeIf b old).nv = s.nv ∧
    (s.concludeIf b old).free = s.free ∧ (s.concludeIf b old).pending = s.pending := by
  simp [State.concludeIf]

/-- What `State.conclude` leaves unchanged. -/
@[simp] theorem State.conclude_frame (s : State) (old : State) :
    (s.conclude old).boot = s.boot ∧ (s.conclude old).cfg = s.cfg ∧ (s.conclude old).li.idle = s.li.idle ∧
    (s.conclude old).li.receiver = s.li.receiver ∧ (s.conclude old).li.transmitter = s.li.transmitter ∧
    (s.conclude old).pt.entries = s.pt.entries ∧ (s.conclude old).pt.ownHazard = s.pt.ownHazard ∧
    (s.conclude old).ms.listA = s.ms.listA ∧ (s.conclude old).ms.listB = s.ms.listB ∧
    (s.conclude old).ms.marks = s.ms.marks ∧ (s.conclude old).ms.backoff = s.ms.backoff ∧
    (s.conclude old).ms.call = s.ms.call ∧ (s.conclude old).sq.repeats = s.sq.repeats ∧
    (s.conclude old).sq.used = s.sq.used ∧ (s.conclude old).sq.clampHold = s.sq.clampHold ∧
    (s.conclude old).sq.clock = s.sq.clock ∧ (s.conclude old).sq.seconds = s.sq.seconds ∧
    (s.conclude old).sq.finalPressure = s.sq.finalPressure ∧ (s.conclude old).ch.pending = s.ch.pending ∧
    (s.conclude old).ch.cls = s.ch.cls ∧ (s.conclude old).ch.doorOpen = s.ch.doorOpen ∧
    (s.conclude old).ch.sweepRetry = s.ch.sweepRetry ∧ (s.conclude old).mu.ch = s.mu.ch ∧
    (s.conclude old).mu.filters = s.mu.filters ∧
    (s.conclude old).mu.cmp.ambientWatch = s.mu.cmp.ambientWatch ∧
    (s.conclude old).mu.cmp.ambientStop = s.mu.cmp.ambientStop ∧
    (s.conclude old).mu.cmp.headerHigh = s.mu.cmp.headerHigh ∧
    (s.conclude old).mu.cmp.headerRecovered = s.mu.cmp.headerRecovered ∧
    (s.conclude old).mu.cmp.oxygenUnder = s.mu.cmp.oxygenUnder ∧
    (s.conclude old).mu.cmp.oxygenHigh = s.mu.cmp.oxygenHigh ∧
    (s.conclude old).mu.cmp.chamberWatch = s.mu.cmp.chamberWatch ∧
    (s.conclude old).mu.cmp.chamberStop = s.mu.cmp.chamberStop ∧
    (s.conclude old).mu.cmp.purgeNeeded = s.mu.cmp.purgeNeeded ∧
    (s.conclude old).mu.cmp.purgeClear = s.mu.cmp.purgeClear ∧ (s.conclude old).mu.discA = s.mu.discA ∧
    (s.conclude old).mu.discB = s.mu.discB ∧ (s.conclude old).mu.presentA = s.mu.presentA ∧
    (s.conclude old).mu.presentB = s.mu.presentB ∧ (s.conclude old).mu.zero = s.mu.zero ∧
    (s.conclude old).mu.zeroRejected = s.mu.zeroRejected ∧ (s.conclude old).ac.intake = s.ac.intake ∧
    (s.conclude old).ac.nextNumber = s.ac.nextNumber ∧ (s.conclude old).ac.offer = s.ac.offer ∧
    (s.conclude old).pu.sources = s.pu.sources ∧ (s.conclude old).rs.lastSequence = s.rs.lastSequence ∧
    (s.conclude old).rs.writePosition = s.rs.writePosition ∧ (s.conclude old).rs.full = s.rs.full ∧
    (s.conclude old).rs.fault = s.rs.fault ∧ (s.conclude old).rs.commit = s.rs.commit ∧
    (s.conclude old).rs.readPointer = s.rs.readPointer ∧ (s.conclude old).rs.target = s.rs.target ∧
    (s.conclude old).rs.supplyLow = s.rs.supplyLow ∧ (s.conclude old).rs.supplyBelow = s.rs.supplyBelow ∧
    (s.conclude old).rs.lock = s.rs.lock ∧
    (s.conclude old).rs.working = s.rs.working ∧ (s.conclude old).rs.idle = s.rs.idle ∧
    (s.conclude old).rs.statusTimer = s.rs.statusTimer ∧ (s.conclude old).rs.blockWrite = s.rs.blockWrite ∧
    (s.conclude old).nv = s.nv ∧ (s.conclude old).free = s.free ∧ (s.conclude old).pending = s.pending := by
  simp [State.conclude]

end Sys2Proof.Machine
end

