-- ==== Sys2Proof/Laws/FamilyFrames.lean ====
section
/-! SUPPORT. What each operation of the command families leaves unchanged. -/

namespace Sys2Proof.Machine

/-- What replacing the comparators gives. -/
@[simp] theorem State.setCmp_cmp (s : State) (c : Comparators) : (s.setCmp c).mu.cmp = c := rfl

/-- What one station sample leaves unchanged of the sequence. -/
@[simp] theorem Sequence.sample_frame (q : Sequence) (c : Channels) :
    (q.sample c).step = q.step ∧ (q.sample c).timer = q.timer ∧ (q.sample c).repeats = q.repeats ∧
    (q.sample c).used = q.used ∧ (q.sample c).routeB = q.routeB ∧ (q.sample c).clampHold = q.clampHold ∧
    (q.sample c).detected = q.detected ∧ (q.sample c).pStart = q.pStart ∧
    (q.sample c).starve = q.starve ∧ (q.sample c).clock = q.clock ∧ (q.sample c).seconds = q.seconds := by
  unfold Sequence.sample
  (repeat' split) <;> simp

/-- What crediting leaves unchanged of the account store. -/
@[simp] theorem creditAccounts_frame (foam onA onB : Bool) (q z : Nat) (a : Accounts) :
    (creditAccounts foam onA onB q z a).intake = a.intake ∧
    (creditAccounts foam onA onB q z a).nextNumber = a.nextNumber ∧
    (creditAccounts foam onA onB q z a).offer = a.offer := by
  unfold creditAccounts
  (repeat' split) <;> simp

/-- What the measurement unit keeps over a station sample. -/
@[simp] theorem State.sampleMu_frame (s : State) (x : Sample) :
    (s.sampleMu x).zero = s.mu.zero ∧ (s.sampleMu x).zeroRejected = s.mu.zeroRejected := by
  simp only [State.sampleMu]
  (repeat' split) <;> simp

/-- What the protection unit keeps over a station sample. -/
@[simp] theorem State.samplePu_frame (s : State) (m : Measure) :
    (s.samplePu m).de = s.pu.de ∧ (s.samplePu m).codes = s.pu.codes := by
  unfold State.samplePu
  split <;> simp

/-- Recoveries at one moment, one source after another. -/
def recoverRun (l : List TripSource) (s : State) : State :=
  l.foldl (fun t u => if (t.source u).st = .recovering then t.recover u else t) s

/-- What they leave unchanged. -/
theorem recoverAll_frame (l : List TripSource) (s : State) :
    (recoverRun l s).boot = s.boot ∧ (recoverRun l s).cfg = s.cfg ∧ (recoverRun l s).li = s.li ∧
    (recoverRun l s).pt = s.pt ∧ (recoverRun l s).ms = s.ms ∧ (recoverRun l s).sq = s.sq ∧
    (recoverRun l s).ch = s.ch ∧ (recoverRun l s).mu = s.mu ∧ (recoverRun l s).ac = s.ac ∧
    (recoverRun l s).rs = s.rs ∧ (recoverRun l s).nv = s.nv ∧ (recoverRun l s).free = s.free ∧
    (recoverRun l s).pending = s.pending := by
  induction l generalizing s with
  | nil => simp [recoverRun]
  | cons t ts ih =>
    have h : recoverRun (t :: ts) s =
        recoverRun ts (if (s.source t).st = .recovering then s.recover t else s) := rfl
    rw [h]
    split <;> simp [ih]

/-- What the emptying of every volatile state leaves. -/
@[simp] theorem State.emptied_frame (s : State) (p : Phase) (c : StartCause) :
    (s.emptied p c).nv = s.nv ∧ (s.emptied p c).free = s.free ∧ (s.emptied p c).pending = s.pending ∧
    (s.emptied p c).boot = { phase := p, cause := c } := ⟨rfl, rfl, rfl, rfl⟩

/-- What `State.setPeer` leaves unchanged. -/
@[simp] theorem State.setPeer_frame (s : State) (a : Nat) (e : Peer) :
    (s.setPeer a e).boot = s.boot ∧ (s.setPeer a e).cfg = s.cfg ∧ (s.setPeer a e).li = s.li ∧
    (s.setPeer a e).pt.ownHazard = s.pt.ownHazard ∧ (s.setPeer a e).pt.timer = s.pt.timer ∧
    (s.setPeer a e).ms = s.ms ∧ (s.setPeer a e).sq = s.sq ∧ (s.setPeer a e).ch = s.ch ∧
    (s.setPeer a e).mu = s.mu ∧ (s.setPeer a e).ac = s.ac ∧ (s.setPeer a e).pu = s.pu ∧
    (s.setPeer a e).rs = s.rs ∧ (s.setPeer a e).nv = s.nv ∧ (s.setPeer a e).free = s.free ∧
    (s.setPeer a e).pending = s.pending := by
  simp [State.setPeer]

/-- What `State.refresh` leaves unchanged. -/
@[simp] theorem State.refresh_frame (s : State) (a : Nat) :
    (s.refresh a).boot = s.boot ∧ (s.refresh a).cfg = s.cfg ∧ (s.refresh a).li = s.li ∧
    (s.refresh a).pt.ownHazard = s.pt.ownHazard ∧ (s.refresh a).pt.timer = s.pt.timer ∧
    (s.refresh a).ms = s.ms ∧ (s.refresh a).sq = s.sq ∧ (s.refresh a).ch = s.ch ∧ (s.refresh a).mu = s.mu ∧
    (s.refresh a).ac = s.ac ∧ (s.refresh a).pu = s.pu ∧ (s.refresh a).rs = s.rs ∧ (s.refresh a).nv = s.nv ∧
    (s.refresh a).free = s.free ∧ (s.refresh a).pending = s.pending := by
  simp [State.refresh]

/-- What `State.endReception` leaves unchanged. -/
@[simp] theorem State.endReception_frame (s : State) :
    (s.endReception).boot = s.boot ∧ (s.endReception).cfg = s.cfg ∧ (s.endReception).li.idle = s.li.idle ∧
    (s.endReception).li.queue = s.li.queue ∧ (s.endReception).li.transmitter = s.li.transmitter ∧
    (s.endReception).li.moment = s.li.moment ∧ (s.endReception).li.lastHazard = s.li.lastHazard ∧
    (s.endReception).pt = s.pt ∧ (s.endReception).ms = s.ms ∧ (s.endReception).sq = s.sq ∧
    (s.endReception).ch = s.ch ∧ (s.endReception).mu = s.mu ∧ (s.endReception).ac = s.ac ∧
    (s.endReception).pu = s.pu ∧ (s.endReception).rs = s.rs ∧ (s.endReception).nv = s.nv ∧
    (s.endReception).free = s.free ∧ (s.endReception).pending = s.pending := by
  simp [State.endReception]

/-- What `State.setHeaderHigh` leaves unchanged. -/
@[simp] theorem State.setHeaderHigh_frame (s : State) (c : Comparator) :
    (s.setHeaderHigh c).boot = s.boot ∧ (s.setHeaderHigh c).cfg = s.cfg ∧ (s.setHeaderHigh c).li = s.li ∧
    (s.setHeaderHigh c).pt = s.pt ∧ (s.setHeaderHigh c).ms = s.ms ∧ (s.setHeaderHigh c).sq = s.sq ∧
    (s.setHeaderHigh c).ch = s.ch ∧ (s.setHeaderHigh c).mu.ch = s.mu.ch ∧
    (s.setHeaderHigh c).mu.filters = s.mu.filters ∧
    (s.setHeaderHigh c).mu.cmp.pulldown = s.mu.cmp.pulldown ∧
    (s.setHeaderHigh c).mu.cmp.ambientWatch = s.mu.cmp.ambientWatch ∧
    (s.setHeaderHigh c).mu.cmp.ambientStop = s.mu.cmp.ambientStop ∧
    (s.setHeaderHigh c).mu.cmp.headerRecovered = s.mu.cmp.headerRecovered ∧
    (s.setHeaderHigh c).mu.cmp.inert = s.mu.cmp.inert ∧
    (s.setHeaderHigh c).mu.cmp.oxygenUnder = s.mu.cmp.oxygenUnder ∧
    (s.setHeaderHigh c).mu.cmp.oxygenHigh = s.mu.cmp.oxygenHigh ∧
    (s.setHeaderHigh c).mu.cmp.chamberWatch = s.mu.cmp.chamberWatch ∧
    (s.setHeaderHigh c).mu.cmp.chamberStop = s.mu.cmp.chamberStop ∧
    (s.setHeaderHigh c).mu.cmp.purgeNeeded = s.mu.cmp.purgeNeeded ∧
    (s.setHeaderHigh c).mu.cmp.purgeClear = s.mu.cmp.purgeClear ∧
    (s.setHeaderHigh c).mu.cmp.quiet = s.mu.cmp.quiet ∧ (s.setHeaderHigh c).mu.discA = s.mu.discA ∧
    (s.setHeaderHigh c).mu.discB = s.mu.discB ∧ (s.setHeaderHigh c).mu.presentA = s.mu.presentA ∧
    (s.setHeaderHigh c).mu.presentB = s.mu.presentB ∧ (s.setHeaderHigh c).mu.window = s.mu.window ∧
    (s.setHeaderHigh c).mu.zero = s.mu.zero ∧ (s.setHeaderHigh c).mu.zeroRejected = s.mu.zeroRejected ∧
    (s.setHeaderHigh c).ac = s.ac ∧ (s.setHeaderHigh c).pu = s.pu ∧ (s.setHeaderHigh c).rs = s.rs ∧
    (s.setHeaderHigh c).nv = s.nv ∧ (s.setHeaderHigh c).free = s.free ∧
    (s.setHeaderHigh c).pending = s.pending := by
  simp [State.setHeaderHigh]

/-- What `State.setHeaderRecovered` leaves unchanged. -/
@[simp] theorem State.setHeaderRecovered_frame (s : State) (c : Comparator) :
    (s.setHeaderRecovered c).boot = s.boot ∧ (s.setHeaderRecovered c).cfg = s.cfg ∧
    (s.setHeaderRecovered c).li = s.li ∧ (s.setHeaderRecovered c).pt = s.pt ∧
    (s.setHeaderRecovered c).ms = s.ms ∧ (s.setHeaderRecovered c).sq = s.sq ∧
    (s.setHeaderRecovered c).ch = s.ch ∧ (s.setHeaderRecovered c).mu.ch = s.mu.ch ∧
    (s.setHeaderRecovered c).mu.filters = s.mu.filters ∧
    (s.setHeaderRecovered c).mu.cmp.pulldown = s.mu.cmp.pulldown ∧
    (s.setHeaderRecovered c).mu.cmp.ambientWatch = s.mu.cmp.ambientWatch ∧
    (s.setHeaderRecovered c).mu.cmp.ambientStop = s.mu.cmp.ambientStop ∧
    (s.setHeaderRecovered c).mu.cmp.headerHigh = s.mu.cmp.headerHigh ∧
    (s.setHeaderRecovered c).mu.cmp.inert = s.mu.cmp.inert ∧
    (s.setHeaderRecovered c).mu.cmp.oxygenUnder = s.mu.cmp.oxygenUnder ∧
    (s.setHeaderRecovered c).mu.cmp.oxygenHigh = s.mu.cmp.oxygenHigh ∧
    (s.setHeaderRecovered c).mu.cmp.chamberWatch = s.mu.cmp.chamberWatch ∧
    (s.setHeaderRecovered c).mu.cmp.chamberStop = s.mu.cmp.chamberStop ∧
    (s.setHeaderRecovered c).mu.cmp.purgeNeeded = s.mu.cmp.purgeNeeded ∧
    (s.setHeaderRecovered c).mu.cmp.purgeClear = s.mu.cmp.purgeClear ∧
    (s.setHeaderRecovered c).mu.cmp.quiet = s.mu.cmp.quiet ∧
    (s.setHeaderRecovered c).mu.discA = s.mu.discA ∧ (s.setHeaderRecovered c).mu.discB = s.mu.discB ∧
    (s.setHeaderRecovered c).mu.presentA = s.mu.presentA ∧
    (s.setHeaderRecovered c).mu.presentB = s.mu.presentB ∧
    (s.setHeaderRecovered c).mu.window = s.mu.window ∧ (s.setHeaderRecovered c).mu.zero = s.mu.zero ∧
    (s.setHeaderRecovered c).mu.zeroRejected = s.mu.zeroRejected ∧ (s.setHeaderRecovered c).ac = s.ac ∧
    (s.setHeaderRecovered c).pu = s.pu ∧ (s.setHeaderRecovered c).rs = s.rs ∧
    (s.setHeaderRecovered c).nv = s.nv ∧ (s.setHeaderRecovered c).free = s.free ∧
    (s.setHeaderRecovered c).pending = s.pending := by
  simp [State.setHeaderRecovered]

/-- What `State.setBackoff` leaves unchanged. -/
@[simp] theorem State.setBackoff_frame (s : State) (b : Bool) :
    (s.setBackoff b).boot = s.boot ∧ (s.setBackoff b).cfg = s.cfg ∧ (s.setBackoff b).li = s.li ∧
    (s.setBackoff b).pt = s.pt ∧ (s.setBackoff b).ms.listA = s.ms.listA ∧
    (s.setBackoff b).ms.listB = s.ms.listB ∧ (s.setBackoff b).ms.own = s.ms.own ∧
    (s.setBackoff b).ms.marks = s.ms.marks ∧ (s.setBackoff b).ms.call = s.ms.call ∧
    (s.setBackoff b).sq = s.sq ∧ (s.setBackoff b).ch = s.ch ∧ (s.setBackoff b).mu = s.mu ∧
    (s.setBackoff b).ac = s.ac ∧ (s.setBackoff b).pu = s.pu ∧ (s.setBackoff b).rs = s.rs ∧
    (s.setBackoff b).nv = s.nv ∧ (s.setBackoff b).free = s.free ∧ (s.setBackoff b).pending = s.pending := by
  simp [State.setBackoff]

/-- What `State.yieldCall` leaves unchanged. -/
@[simp] theorem State.yieldCall_frame (s : State) :
    (s.yieldCall).boot = s.boot ∧ (s.yieldCall).cfg = s.cfg ∧ (s.yieldCall).li = s.li ∧
    (s.yieldCall).pt = s.pt ∧ (s.yieldCall).ms.listA = s.ms.listA ∧ (s.yieldCall).ms.listB = s.ms.listB ∧
    (s.yieldCall).ms.own = s.ms.own ∧ (s.yieldCall).ms.marks = s.ms.marks ∧
    (s.yieldCall).ms.backoff = s.ms.backoff ∧ (s.yieldCall).sq = s.sq ∧ (s.yieldCall).ch.st = s.ch.st ∧
    (s.yieldCall).ch.pending = s.ch.pending ∧ (s.yieldCall).ch.cls = s.ch.cls ∧
    (s.yieldCall).ch.door = s.ch.door ∧ (s.yieldCall).ch.doorOpen = s.ch.doorOpen ∧
    (s.yieldCall).ch.sweepWait = s.ch.sweepWait ∧ (s.yieldCall).ch.sweep = s.ch.sweep ∧
    (s.yieldCall).ch.sweepRetry = s.ch.sweepRetry ∧ (s.yieldCall).ch.zeroDone = s.ch.zeroDone ∧
    (s.yieldCall).mu = s.mu ∧ (s.yieldCall).ac = s.ac ∧ (s.yieldCall).pu.sources = s.pu.sources ∧
    (s.yieldCall).rs = s.rs ∧ (s.yieldCall).nv = s.nv ∧ (s.yieldCall).free = s.free ∧
    (s.yieldCall).pending = s.pending := by
  dsimp only [State.yieldCall]; (repeat' split) <;> simp

/-- What `State.takeStatus` leaves unchanged. -/
@[simp] theorem State.takeStatus_frame (s : State) (old : State) (a : Nat) (p : List Byte) :
    (s.takeStatus old a p).boot = s.boot ∧ (s.takeStatus old a p).cfg = s.cfg ∧
    (s.takeStatus old a p).li.idle = s.li.idle ∧ (s.takeStatus old a p).li.receiver = s.li.receiver ∧
    (s.takeStatus old a p).li.transmitter = s.li.transmitter ∧
    (s.takeStatus old a p).li.lastHazard = s.li.lastHazard ∧
    (s.takeStatus old a p).pt.ownHazard = s.pt.ownHazard ∧ (s.takeStatus old a p).pt.timer = s.pt.timer ∧
    (s.takeStatus old a p).ms.own = s.ms.own ∧ (s.takeStatus old a p).ms.backoff = s.ms.backoff ∧
    (s.takeStatus old a p).ms.call = s.ms.call ∧ (s.takeStatus old a p).sq = s.sq ∧
    (s.takeStatus old a p).ch = s.ch ∧ (s.takeStatus old a p).mu = s.mu ∧
    (s.takeStatus old a p).ac.intake = s.ac.intake ∧ (s.takeStatus old a p).ac.chamber = s.ac.chamber ∧
    (s.takeStatus old a p).ac.nextNumber = s.ac.nextNumber ∧ (s.takeStatus old a p).pu = s.pu ∧
    (s.takeStatus old a p).rs = s.rs ∧ (s.takeStatus old a p).nv = s.nv ∧
    (s.takeStatus old a p).free = s.free ∧ (s.takeStatus old a p).pending = s.pending := by
  dsimp only [State.takeStatus]; (repeat' split) <;> simp

/-- What `State.makeStale` leaves unchanged. -/
@[simp] theorem State.makeStale_frame (s : State) (a : Nat) :
    (s.makeStale a).boot = s.boot ∧ (s.makeStale a).cfg = s.cfg ∧ (s.makeStale a).li.idle = s.li.idle ∧
    (s.makeStale a).li.receiver = s.li.receiver ∧ (s.makeStale a).li.transmitter = s.li.transmitter ∧
    (s.makeStale a).li.lastHazard = s.li.lastHazard ∧ (s.makeStale a).pt.ownHazard = s.pt.ownHazard ∧
    (s.makeStale a).pt.timer = s.pt.timer ∧ (s.makeStale a).ms.own = s.ms.own ∧
    (s.makeStale a).ms.backoff = s.ms.backoff ∧ (s.makeStale a).sq = s.sq ∧
    (s.makeStale a).ch.st = s.ch.st ∧ (s.makeStale a).ch.pending = s.ch.pending ∧
    (s.makeStale a).ch.cls = s.ch.cls ∧ (s.makeStale a).ch.door = s.ch.door ∧
    (s.makeStale a).ch.doorOpen = s.ch.doorOpen ∧ (s.makeStale a).ch.sweepWait = s.ch.sweepWait ∧
    (s.makeStale a).ch.sweep = s.ch.sweep ∧ (s.makeStale a).ch.sweepRetry = s.ch.sweepRetry ∧
    (s.makeStale a).ch.zeroDone = s.ch.zeroDone ∧ (s.makeStale a).mu = s.mu ∧
    (s.makeStale a).ac.intake = s.ac.intake ∧ (s.makeStale a).ac.chamber = s.ac.chamber ∧
    (s.makeStale a).ac.nextNumber = s.ac.nextNumber ∧ (s.makeStale a).pu.sources = s.pu.sources ∧
    (s.makeStale a).rs = s.rs ∧ (s.makeStale a).nv = s.nv ∧ (s.makeStale a).free = s.free ∧
    (s.makeStale a).pending = s.pending := by
  dsimp only [State.makeStale]; (repeat' split) <;> simp

/-- What `State.formHazard` leaves unchanged. -/
@[simp] theorem State.formHazard_frame (s : State) :
    (s.formHazard).boot = s.boot ∧ (s.formHazard).cfg = s.cfg ∧ (s.formHazard).li = s.li ∧
    (s.formHazard).pt.entries = s.pt.entries ∧ (s.formHazard).pt.timer = s.pt.timer ∧
    (s.formHazard).ms.own = s.ms.own ∧ (s.formHazard).ms.marks = s.ms.marks ∧
    (s.formHazard).ms.backoff = s.ms.backoff ∧ (s.formHazard).ms.call = s.ms.call ∧
    (s.formHazard).sq = s.sq ∧ (s.formHazard).ch = s.ch ∧ (s.formHazard).mu = s.mu ∧
    (s.formHazard).ac = s.ac ∧ (s.formHazard).pu = s.pu ∧ (s.formHazard).rs = s.rs ∧
    (s.formHazard).nv = s.nv ∧ (s.formHazard).free = s.free ∧ (s.formHazard).pending = s.pending := by
  simp [State.formHazard]

/-- What `State.takeAnnounce` leaves unchanged. -/
@[simp] theorem State.takeAnnounce_frame (s : State) (p : List Byte) :
    (s.takeAnnounce p).boot = s.boot ∧ (s.takeAnnounce p).cfg = s.cfg ∧ (s.takeAnnounce p).li = s.li ∧
    (s.takeAnnounce p).pt = s.pt ∧ (s.takeAnnounce p).ms = s.ms ∧ (s.takeAnnounce p).sq = s.sq ∧
    (s.takeAnnounce p).ch = s.ch ∧ (s.takeAnnounce p).mu = s.mu ∧
    (s.takeAnnounce p).ac.intake = s.ac.intake ∧ (s.takeAnnounce p).ac.chamber = s.ac.chamber ∧
    (s.takeAnnounce p).ac.offer = s.ac.offer ∧ (s.takeAnnounce p).pu.sources = s.pu.sources ∧
    (s.takeAnnounce p).rs = s.rs ∧ (s.takeAnnounce p).nv = s.nv ∧ (s.takeAnnounce p).free = s.free ∧
    (s.takeAnnounce p).pending = s.pending := by
  dsimp only [State.takeAnnounce]; (repeat' split) <;> simp

/-- What `State.closeAtOrigin` leaves unchanged. -/
@[simp] theorem State.closeAtOrigin_frame (s : State) (k : Key) :
    (s.closeAtOrigin k).boot = s.boot ∧ (s.closeAtOrigin k).cfg = s.cfg ∧ (s.closeAtOrigin k).li = s.li ∧
    (s.closeAtOrigin k).pt = s.pt ∧ (s.closeAtOrigin k).ms = s.ms ∧ (s.closeAtOrigin k).sq = s.sq ∧
    (s.closeAtOrigin k).ch = s.ch ∧ (s.closeAtOrigin k).mu = s.mu ∧
    (s.closeAtOrigin k).ac.intake = s.ac.intake ∧ (s.closeAtOrigin k).ac.chamber = s.ac.chamber ∧
    (s.closeAtOrigin k).ac.nextNumber = s.ac.nextNumber ∧ (s.closeAtOrigin k).ac.offer = s.ac.offer ∧
    (s.closeAtOrigin k).pu = s.pu ∧ (s.closeAtOrigin k).rs.lastSequence = s.rs.lastSequence ∧
    (s.closeAtOrigin k).rs.writePosition = s.rs.writePosition ∧ (s.closeAtOrigin k).rs.full = s.rs.full ∧
    (s.closeAtOrigin k).rs.fault = s.rs.fault ∧ (s.closeAtOrigin k).rs.commit = s.rs.commit ∧
    (s.closeAtOrigin k).rs.readPointer = s.rs.readPointer ∧ (s.closeAtOrigin k).rs.target = s.rs.target ∧
    (s.closeAtOrigin k).rs.supplyLow = s.rs.supplyLow ∧ (s.closeAtOrigin k).rs.supplyBelow = s.rs.supplyBelow ∧
    (s.closeAtOrigin k).rs.lock = s.rs.lock ∧
    (s.closeAtOrigin k).rs.working = s.rs.working ∧ (s.closeAtOrigin k).rs.idle = s.rs.idle ∧
    (s.closeAtOrigin k).rs.statusTimer = s.rs.statusTimer ∧
    (s.closeAtOrigin k).rs.blockWrite = s.rs.blockWrite ∧ (s.closeAtOrigin k).nv = s.nv ∧
    (s.closeAtOrigin k).free = s.free ∧ (s.closeAtOrigin k).pending = s.pending := by
  dsimp only [State.closeAtOrigin]; simp

/-- What `State.takeClose` leaves unchanged. -/
@[simp] theorem State.takeClose_frame (s : State) (k : Key) :
    (s.takeClose k).boot = s.boot ∧ (s.takeClose k).cfg = s.cfg ∧ (s.takeClose k).li = s.li ∧
    (s.takeClose k).pt = s.pt ∧ (s.takeClose k).ms = s.ms ∧ (s.takeClose k).sq = s.sq ∧
    (s.takeClose k).ch = s.ch ∧ (s.takeClose k).mu = s.mu ∧ (s.takeClose k).ac.intake = s.ac.intake ∧
    (s.takeClose k).ac.chamber = s.ac.chamber ∧ (s.takeClose k).ac.nextNumber = s.ac.nextNumber ∧
    (s.takeClose k).ac.offer = s.ac.offer ∧ (s.takeClose k).pu = s.pu ∧
    (s.takeClose k).rs.lastSequence = s.rs.lastSequence ∧
    (s.takeClose k).rs.writePosition = s.rs.writePosition ∧ (s.takeClose k).rs.full = s.rs.full ∧
    (s.takeClose k).rs.fault = s.rs.fault ∧ (s.takeClose k).rs.commit = s.rs.commit ∧
    (s.takeClose k).rs.readPointer = s.rs.readPointer ∧ (s.takeClose k).rs.target = s.rs.target ∧
    (s.takeClose k).rs.supplyLow = s.rs.supplyLow ∧ (s.takeClose k).rs.supplyBelow = s.rs.supplyBelow ∧
    (s.takeClose k).rs.lock = s.rs.lock ∧
    (s.takeClose k).rs.working = s.rs.working ∧ (s.takeClose k).rs.idle = s.rs.idle ∧
    (s.takeClose k).rs.statusTimer = s.rs.statusTimer ∧ (s.takeClose k).rs.blockWrite = s.rs.blockWrite ∧
    (s.takeClose k).nv = s.nv ∧ (s.takeClose k).free = s.free ∧ (s.takeClose k).pending = s.pending := by
  dsimp only [State.takeClose]; (repeat' split) <;> simp

/-- What `State.takeAbandon` leaves unchanged. -/
@[simp] theorem State.takeAbandon_frame (s : State) (k : Key) :
    (s.takeAbandon k).boot = s.boot ∧ (s.takeAbandon k).cfg = s.cfg ∧
    (s.takeAbandon k).li.idle = s.li.idle ∧ (s.takeAbandon k).li.receiver = s.li.receiver ∧
    (s.takeAbandon k).li.transmitter = s.li.transmitter ∧
    (s.takeAbandon k).li.lastHazard = s.li.lastHazard ∧ (s.takeAbandon k).pt = s.pt ∧
    (s.takeAbandon k).ms.listA = s.ms.listA ∧ (s.takeAbandon k).ms.listB = s.ms.listB ∧
    (s.takeAbandon k).ms.marks = s.ms.marks ∧ (s.takeAbandon k).ms.backoff = s.ms.backoff ∧
    (s.takeAbandon k).ms.call = s.ms.call ∧ (s.takeAbandon k).sq.repeats = s.sq.repeats ∧
    (s.takeAbandon k).sq.used = s.sq.used ∧ (s.takeAbandon k).sq.routeB = s.sq.routeB ∧
    (s.takeAbandon k).sq.detected = s.sq.detected ∧ (s.takeAbandon k).sq.riseCount = s.sq.riseCount ∧
    (s.takeAbandon k).sq.candidate = s.sq.candidate ∧ (s.takeAbandon k).sq.pStart = s.sq.pStart ∧
    (s.takeAbandon k).ch = s.ch ∧ (s.takeAbandon k).mu.ch = s.mu.ch ∧
    (s.takeAbandon k).mu.filters = s.mu.filters ∧
    (s.takeAbandon k).mu.cmp.ambientWatch = s.mu.cmp.ambientWatch ∧
    (s.takeAbandon k).mu.cmp.ambientStop = s.mu.cmp.ambientStop ∧
    (s.takeAbandon k).mu.cmp.headerHigh = s.mu.cmp.headerHigh ∧
    (s.takeAbandon k).mu.cmp.headerRecovered = s.mu.cmp.headerRecovered ∧
    (s.takeAbandon k).mu.cmp.inert = s.mu.cmp.inert ∧
    (s.takeAbandon k).mu.cmp.oxygenUnder = s.mu.cmp.oxygenUnder ∧
    (s.takeAbandon k).mu.cmp.oxygenHigh = s.mu.cmp.oxygenHigh ∧
    (s.takeAbandon k).mu.cmp.chamberWatch = s.mu.cmp.chamberWatch ∧
    (s.takeAbandon k).mu.cmp.chamberStop = s.mu.cmp.chamberStop ∧
    (s.takeAbandon k).mu.cmp.purgeNeeded = s.mu.cmp.purgeNeeded ∧
    (s.takeAbandon k).mu.cmp.purgeClear = s.mu.cmp.purgeClear ∧
    (s.takeAbandon k).mu.cmp.quiet = s.mu.cmp.quiet ∧ (s.takeAbandon k).mu.discA = s.mu.discA ∧
    (s.takeAbandon k).mu.discB = s.mu.discB ∧ (s.takeAbandon k).mu.presentA = s.mu.presentA ∧
    (s.takeAbandon k).mu.presentB = s.mu.presentB ∧ (s.takeAbandon k).mu.zero = s.mu.zero ∧
    (s.takeAbandon k).mu.zeroRejected = s.mu.zeroRejected ∧ (s.takeAbandon k).ac.intake = s.ac.intake ∧
    (s.takeAbandon k).ac.chamber = s.ac.chamber ∧ (s.takeAbandon k).ac.nextNumber = s.ac.nextNumber ∧
    (s.takeAbandon k).ac.offer = s.ac.offer ∧ (s.takeAbandon k).pu = s.pu ∧ (s.takeAbandon k).rs = s.rs ∧
    (s.takeAbandon k).nv = s.nv ∧ (s.takeAbandon k).free = s.free ∧ (s.takeAbandon k).pending = s.pending := by
  dsimp only [State.takeAbandon]; (repeat' split) <;> simp

/-- What `State.sendAccept` leaves unchanged. -/
@[simp] theorem State.sendAccept_frame (s : State) (a : Nat) (k : Key) :
    (s.sendAccept a k).boot = s.boot ∧ (s.sendAccept a k).cfg = s.cfg ∧
    (s.sendAccept a k).li.idle = s.li.idle ∧ (s.sendAccept a k).li.receiver = s.li.receiver ∧
    (s.sendAccept a k).li.transmitter = s.li.transmitter ∧
    (s.sendAccept a k).li.lastHazard = s.li.lastHazard ∧ (s.sendAccept a k).pt = s.pt ∧
    (s.sendAccept a k).ms = s.ms ∧ (s.sendAccept a k).sq = s.sq ∧ (s.sendAccept a k).ch = s.ch ∧
    (s.sendAccept a k).mu = s.mu ∧ (s.sendAccept a k).ac = s.ac ∧ (s.sendAccept a k).pu = s.pu ∧
    (s.sendAccept a k).rs = s.rs ∧ (s.sendAccept a k).nv = s.nv ∧ (s.sendAccept a k).free = s.free ∧
    (s.sendAccept a k).pending = s.pending := by
  simp [State.sendAccept]

/-- What `State.sendRefuse` leaves unchanged. -/
@[simp] theorem State.sendRefuse_frame (s : State) (a : Nat) (k : Key) (n : Nat) :
    (s.sendRefuse a k n).boot = s.boot ∧ (s.sendRefuse a k n).cfg = s.cfg ∧
    (s.sendRefuse a k n).li.idle = s.li.idle ∧ (s.sendRefuse a k n).li.receiver = s.li.receiver ∧
    (s.sendRefuse a k n).li.transmitter = s.li.transmitter ∧
    (s.sendRefuse a k n).li.lastHazard = s.li.lastHazard ∧ (s.sendRefuse a k n).pt = s.pt ∧
    (s.sendRefuse a k n).ms = s.ms ∧ (s.sendRefuse a k n).sq = s.sq ∧ (s.sendRefuse a k n).ch = s.ch ∧
    (s.sendRefuse a k n).mu = s.mu ∧ (s.sendRefuse a k n).ac = s.ac ∧ (s.sendRefuse a k n).pu = s.pu ∧
    (s.sendRefuse a k n).rs = s.rs ∧ (s.sendRefuse a k n).nv = s.nv ∧ (s.sendRefuse a k n).free = s.free ∧
    (s.sendRefuse a k n).pending = s.pending := by
  simp [State.sendRefuse]

/-- What `State.takeOffer` leaves unchanged. -/
@[simp] theorem State.takeOffer_frame (s : State) (a : Nat) (p : List Byte) :
    (s.takeOffer a p).boot = s.boot ∧ (s.takeOffer a p).cfg = s.cfg ∧
    (s.takeOffer a p).li.idle = s.li.idle ∧ (s.takeOffer a p).li.receiver = s.li.receiver ∧
    (s.takeOffer a p).li.transmitter = s.li.transmitter ∧
    (s.takeOffer a p).li.lastHazard = s.li.lastHazard ∧ (s.takeOffer a p).pt = s.pt ∧
    (s.takeOffer a p).ms = s.ms ∧ (s.takeOffer a p).sq = s.sq ∧ (s.takeOffer a p).ch = s.ch ∧
    (s.takeOffer a p).mu = s.mu ∧ (s.takeOffer a p).ac.queue = s.ac.queue ∧
    (s.takeOffer a p).ac.chamber = s.ac.chamber ∧ (s.takeOffer a p).ac.nextNumber = s.ac.nextNumber ∧
    (s.takeOffer a p).ac.offer = s.ac.offer ∧ (s.takeOffer a p).pu = s.pu ∧ (s.takeOffer a p).rs = s.rs ∧
    (s.takeOffer a p).nv = s.nv ∧ (s.takeOffer a p).free = s.free ∧ (s.takeOffer a p).pending = s.pending := by
  dsimp only [State.takeOffer]; (repeat' split) <;> simp

/-- What `State.takeAccept` leaves unchanged. -/
@[simp] theorem State.takeAccept_frame (s : State) (k : Key) :
    (s.takeAccept k).boot = s.boot ∧ (s.takeAccept k).cfg = s.cfg ∧ (s.takeAccept k).li.idle = s.li.idle ∧
    (s.takeAccept k).li.receiver = s.li.receiver ∧ (s.takeAccept k).li.transmitter = s.li.transmitter ∧
    (s.takeAccept k).li.lastHazard = s.li.lastHazard ∧ (s.takeAccept k).pt = s.pt ∧
    (s.takeAccept k).ms = s.ms ∧ (s.takeAccept k).sq = s.sq ∧ (s.takeAccept k).ch = s.ch ∧
    (s.takeAccept k).mu = s.mu ∧ (s.takeAccept k).ac.intake = s.ac.intake ∧
    (s.takeAccept k).ac.chamber = s.ac.chamber ∧ (s.takeAccept k).ac.nextNumber = s.ac.nextNumber ∧
    (s.takeAccept k).pu = s.pu ∧ (s.takeAccept k).rs = s.rs ∧ (s.takeAccept k).nv = s.nv ∧
    (s.takeAccept k).free = s.free ∧ (s.takeAccept k).pending = s.pending := by
  dsimp only [State.takeAccept]; (repeat' split) <;> simp

/-- What `State.startHoldOff` leaves unchanged. -/
@[simp] theorem State.startHoldOff_frame (s : State) (k : HoldOffKind) (ms : Nat) :
    (s.startHoldOff k ms).boot = s.boot ∧ (s.startHoldOff k ms).cfg = s.cfg ∧
    (s.startHoldOff k ms).li = s.li ∧ (s.startHoldOff k ms).pt = s.pt ∧ (s.startHoldOff k ms).ms = s.ms ∧
    (s.startHoldOff k ms).sq = s.sq ∧ (s.startHoldOff k ms).ch = s.ch ∧ (s.startHoldOff k ms).mu = s.mu ∧
    (s.startHoldOff k ms).ac.queue = s.ac.queue ∧ (s.startHoldOff k ms).ac.intake = s.ac.intake ∧
    (s.startHoldOff k ms).ac.chamber = s.ac.chamber ∧
    (s.startHoldOff k ms).ac.nextNumber = s.ac.nextNumber ∧ (s.startHoldOff k ms).pu = s.pu ∧
    (s.startHoldOff k ms).rs = s.rs ∧ (s.startHoldOff k ms).nv = s.nv ∧
    (s.startHoldOff k ms).free = s.free ∧ (s.startHoldOff k ms).pending = s.pending := by
  simp [State.startHoldOff]

/-- What `State.setUnanswered` leaves unchanged. -/
@[simp] theorem State.setUnanswered_frame (s : State) (k : Key) (n : Nat) :
    (s.setUnanswered k n).boot = s.boot ∧ (s.setUnanswered k n).cfg = s.cfg ∧
    (s.setUnanswered k n).li = s.li ∧ (s.setUnanswered k n).pt = s.pt ∧ (s.setUnanswered k n).ms = s.ms ∧
    (s.setUnanswered k n).sq = s.sq ∧ (s.setUnanswered k n).ch = s.ch ∧ (s.setUnanswered k n).mu = s.mu ∧
    (s.setUnanswered k n).ac.intake = s.ac.intake ∧ (s.setUnanswered k n).ac.chamber = s.ac.chamber ∧
    (s.setUnanswered k n).ac.nextNumber = s.ac.nextNumber ∧ (s.setUnanswered k n).ac.offer = s.ac.offer ∧
    (s.setUnanswered k n).pu = s.pu ∧ (s.setUnanswered k n).rs = s.rs ∧ (s.setUnanswered k n).nv = s.nv ∧
    (s.setUnanswered k n).free = s.free ∧ (s.setUnanswered k n).pending = s.pending := by
  dsimp only [State.setUnanswered]; simp

/-- What `State.takeRefuse` leaves unchanged. -/
@[simp] theorem State.takeRefuse_frame (s : State) (k : Key) :
    (s.takeRefuse k).boot = s.boot ∧ (s.takeRefuse k).cfg = s.cfg ∧ (s.takeRefuse k).li = s.li ∧
    (s.takeRefuse k).pt = s.pt ∧ (s.takeRefuse k).ms = s.ms ∧ (s.takeRefuse k).sq = s.sq ∧
    (s.takeRefuse k).ch = s.ch ∧ (s.takeRefuse k).mu = s.mu ∧ (s.takeRefuse k).ac.intake = s.ac.intake ∧
    (s.takeRefuse k).ac.chamber = s.ac.chamber ∧ (s.takeRefuse k).ac.nextNumber = s.ac.nextNumber ∧
    (s.takeRefuse k).pu = s.pu ∧ (s.takeRefuse k).rs = s.rs ∧ (s.takeRefuse k).nv = s.nv ∧
    (s.takeRefuse k).free = s.free ∧ (s.takeRefuse k).pending = s.pending := by
  dsimp only [State.takeRefuse]; (repeat' split) <;> simp

/-- What `State.offerUnanswered` leaves unchanged. -/
@[simp] theorem State.offerUnanswered_frame (s : State) :
    (s.offerUnanswered).boot = s.boot ∧ (s.offerUnanswered).cfg = s.cfg ∧ (s.offerUnanswered).li = s.li ∧
    (s.offerUnanswered).pt = s.pt ∧ (s.offerUnanswered).ms = s.ms ∧ (s.offerUnanswered).sq = s.sq ∧
    (s.offerUnanswered).ch = s.ch ∧ (s.offerUnanswered).mu = s.mu ∧
    (s.offerUnanswered).ac.intake = s.ac.intake ∧ (s.offerUnanswered).ac.chamber = s.ac.chamber ∧
    (s.offerUnanswered).ac.nextNumber = s.ac.nextNumber ∧ (s.offerUnanswered).pu.sources = s.pu.sources ∧
    (s.offerUnanswered).rs = s.rs ∧ (s.offerUnanswered).nv = s.nv ∧ (s.offerUnanswered).free = s.free ∧
    (s.offerUnanswered).pending = s.pending := by
  dsimp only [State.offerUnanswered]; (repeat' split) <;> simp

/-- What `State.edge` leaves unchanged. -/
@[simp] theorem State.edge_frame (s : State) (p : Pin) :
    (s.edge p).boot = s.boot ∧ (s.edge p).cfg = s.cfg ∧ (s.edge p).li = s.li ∧ (s.edge p).pt = s.pt ∧
    (s.edge p).ms = s.ms ∧ (s.edge p).sq = s.sq ∧ (s.edge p).ch = s.ch ∧ (s.edge p).mu.ch = s.mu.ch ∧
    (s.edge p).mu.cmp = s.mu.cmp ∧ (s.edge p).mu.discA = s.mu.discA ∧ (s.edge p).mu.discB = s.mu.discB ∧
    (s.edge p).mu.presentA = s.mu.presentA ∧ (s.edge p).mu.presentB = s.mu.presentB ∧
    (s.edge p).mu.window = s.mu.window ∧ (s.edge p).mu.zero = s.mu.zero ∧
    (s.edge p).mu.zeroRejected = s.mu.zeroRejected ∧ (s.edge p).ac = s.ac ∧ (s.edge p).pu = s.pu ∧
    (s.edge p).rs = s.rs ∧ (s.edge p).nv = s.nv ∧ (s.edge p).free = s.free ∧
    (s.edge p).pending = s.pending := by
  simp [State.edge]

/-- What `State.startAccount` leaves unchanged. -/
@[simp] theorem State.startAccount_frame (s : State) :
    (s.startAccount).boot = s.boot ∧ (s.startAccount).cfg = s.cfg ∧ (s.startAccount).li = s.li ∧
    (s.startAccount).pt = s.pt ∧ (s.startAccount).ms = s.ms ∧ (s.startAccount).sq = s.sq ∧
    (s.startAccount).ch = s.ch ∧ (s.startAccount).mu = s.mu ∧ (s.startAccount).ac.intake = s.ac.intake ∧
    (s.startAccount).ac.chamber = s.ac.chamber ∧ (s.startAccount).ac.offer = s.ac.offer ∧
    (s.startAccount).pu = s.pu ∧ (s.startAccount).rs = s.rs ∧ (s.startAccount).nv = s.nv ∧
    (s.startAccount).free = s.free ∧ (s.startAccount).pending = s.pending := by
  dsimp only [State.startAccount]; (repeat' split) <;> simp

/-- What `State.clampFailed` leaves unchanged. -/
@[simp] theorem State.clampFailed_frame (s : State) :
    (s.clampFailed).boot = s.boot ∧ (s.clampFailed).cfg = s.cfg ∧ (s.clampFailed).li.idle = s.li.idle ∧
    (s.clampFailed).li.receiver = s.li.receiver ∧ (s.clampFailed).li.transmitter = s.li.transmitter ∧
    (s.clampFailed).li.lastHazard = s.li.lastHazard ∧ (s.clampFailed).pt = s.pt ∧
    (s.clampFailed).ms.listA = s.ms.listA ∧ (s.clampFailed).ms.listB = s.ms.listB ∧
    (s.clampFailed).ms.marks = s.ms.marks ∧ (s.clampFailed).ms.backoff = s.ms.backoff ∧
    (s.clampFailed).ms.call = s.ms.call ∧ (s.clampFailed).sq.repeats = s.sq.repeats ∧
    (s.clampFailed).sq.used = s.sq.used ∧ (s.clampFailed).sq.routeB = s.sq.routeB ∧
    (s.clampFailed).sq.detected = s.sq.detected ∧ (s.clampFailed).sq.riseCount = s.sq.riseCount ∧
    (s.clampFailed).sq.candidate = s.sq.candidate ∧ (s.clampFailed).sq.pStart = s.sq.pStart ∧
    (s.clampFailed).ch = s.ch ∧ (s.clampFailed).mu.ch = s.mu.ch ∧
    (s.clampFailed).mu.filters = s.mu.filters ∧
    (s.clampFailed).mu.cmp.ambientWatch = s.mu.cmp.ambientWatch ∧
    (s.clampFailed).mu.cmp.ambientStop = s.mu.cmp.ambientStop ∧
    (s.clampFailed).mu.cmp.headerHigh = s.mu.cmp.headerHigh ∧
    (s.clampFailed).mu.cmp.headerRecovered = s.mu.cmp.headerRecovered ∧
    (s.clampFailed).mu.cmp.inert = s.mu.cmp.inert ∧
    (s.clampFailed).mu.cmp.oxygenUnder = s.mu.cmp.oxygenUnder ∧
    (s.clampFailed).mu.cmp.oxygenHigh = s.mu.cmp.oxygenHigh ∧
    (s.clampFailed).mu.cmp.chamberWatch = s.mu.cmp.chamberWatch ∧
    (s.clampFailed).mu.cmp.chamberStop = s.mu.cmp.chamberStop ∧
    (s.clampFailed).mu.cmp.purgeNeeded = s.mu.cmp.purgeNeeded ∧
    (s.clampFailed).mu.cmp.purgeClear = s.mu.cmp.purgeClear ∧
    (s.clampFailed).mu.cmp.quiet = s.mu.cmp.quiet ∧ (s.clampFailed).mu.discA = s.mu.discA ∧
    (s.clampFailed).mu.discB = s.mu.discB ∧ (s.clampFailed).mu.presentA = s.mu.presentA ∧
    (s.clampFailed).mu.presentB = s.mu.presentB ∧ (s.clampFailed).mu.zero = s.mu.zero ∧
    (s.clampFailed).mu.zeroRejected = s.mu.zeroRejected ∧ (s.clampFailed).ac.intake = s.ac.intake ∧
    (s.clampFailed).ac.chamber = s.ac.chamber ∧ (s.clampFailed).ac.nextNumber = s.ac.nextNumber ∧
    (s.clampFailed).ac.offer = s.ac.offer ∧ (s.clampFailed).rs = s.rs ∧ (s.clampFailed).nv = s.nv ∧
    (s.clampFailed).free = s.free ∧ (s.clampFailed).pending = s.pending := by
  simp [State.clampFailed]

/-- What `State.clampOpened` leaves unchanged. -/
@[simp] theorem State.clampOpened_frame (s : State) :
    (s.clampOpened).boot = s.boot ∧ (s.clampOpened).cfg = s.cfg ∧ (s.clampOpened).li.idle = s.li.idle ∧
    (s.clampOpened).li.receiver = s.li.receiver ∧ (s.clampOpened).li.transmitter = s.li.transmitter ∧
    (s.clampOpened).li.lastHazard = s.li.lastHazard ∧ (s.clampOpened).pt = s.pt ∧
    (s.clampOpened).ms.listA = s.ms.listA ∧ (s.clampOpened).ms.listB = s.ms.listB ∧
    (s.clampOpened).ms.marks = s.ms.marks ∧ (s.clampOpened).ms.backoff = s.ms.backoff ∧
    (s.clampOpened).ms.call = s.ms.call ∧ (s.clampOpened).ch = s.ch ∧ (s.clampOpened).mu.ch = s.mu.ch ∧
    (s.clampOpened).mu.filters = s.mu.filters ∧
    (s.clampOpened).mu.cmp.ambientWatch = s.mu.cmp.ambientWatch ∧
    (s.clampOpened).mu.cmp.ambientStop = s.mu.cmp.ambientStop ∧
    (s.clampOpened).mu.cmp.headerHigh = s.mu.cmp.headerHigh ∧
    (s.clampOpened).mu.cmp.headerRecovered = s.mu.cmp.headerRecovered ∧
    (s.clampOpened).mu.cmp.inert = s.mu.cmp.inert ∧
    (s.clampOpened).mu.cmp.oxygenUnder = s.mu.cmp.oxygenUnder ∧
    (s.clampOpened).mu.cmp.oxygenHigh = s.mu.cmp.oxygenHigh ∧
    (s.clampOpened).mu.cmp.chamberWatch = s.mu.cmp.chamberWatch ∧
    (s.clampOpened).mu.cmp.chamberStop = s.mu.cmp.chamberStop ∧
    (s.clampOpened).mu.cmp.purgeNeeded = s.mu.cmp.purgeNeeded ∧
    (s.clampOpened).mu.cmp.purgeClear = s.mu.cmp.purgeClear ∧
    (s.clampOpened).mu.cmp.quiet = s.mu.cmp.quiet ∧ (s.clampOpened).mu.discA = s.mu.discA ∧
    (s.clampOpened).mu.discB = s.mu.discB ∧ (s.clampOpened).mu.presentA = s.mu.presentA ∧
    (s.clampOpened).mu.presentB = s.mu.presentB ∧ (s.clampOpened).mu.zero = s.mu.zero ∧
    (s.clampOpened).mu.zeroRejected = s.mu.zeroRejected ∧ (s.clampOpened).ac.intake = s.ac.intake ∧
    (s.clampOpened).ac.chamber = s.ac.chamber ∧ (s.clampOpened).ac.nextNumber = s.ac.nextNumber ∧
    (s.clampOpened).rs = s.rs ∧ (s.clampOpened).nv = s.nv ∧ (s.clampOpened).pending = s.pending := by
  dsimp only [State.clampOpened]; (repeat' split) <;> simp

/-- What `State.afterRise` leaves unchanged. -/
@[simp] theorem State.afterRise_frame (s : State) (b : Bool) :
    (s.afterRise b).boot = s.boot ∧ (s.afterRise b).cfg = s.cfg ∧ (s.afterRise b).li.idle = s.li.idle ∧
    (s.afterRise b).li.receiver = s.li.receiver ∧ (s.afterRise b).li.transmitter = s.li.transmitter ∧
    (s.afterRise b).li.lastHazard = s.li.lastHazard ∧ (s.afterRise b).pt = s.pt ∧
    (s.afterRise b).ms.listA = s.ms.listA ∧ (s.afterRise b).ms.listB = s.ms.listB ∧
    (s.afterRise b).ms.marks = s.ms.marks ∧ (s.afterRise b).ms.backoff = s.ms.backoff ∧
    (s.afterRise b).ms.call = s.ms.call ∧ (s.afterRise b).sq.detected = s.sq.detected ∧
    (s.afterRise b).sq.riseCount = s.sq.riseCount ∧ (s.afterRise b).sq.candidate = s.sq.candidate ∧
    (s.afterRise b).sq.pStart = s.sq.pStart ∧ (s.afterRise b).ch = s.ch ∧ (s.afterRise b).mu.ch = s.mu.ch ∧
    (s.afterRise b).mu.filters = s.mu.filters ∧
    (s.afterRise b).mu.cmp.ambientWatch = s.mu.cmp.ambientWatch ∧
    (s.afterRise b).mu.cmp.ambientStop = s.mu.cmp.ambientStop ∧
    (s.afterRise b).mu.cmp.headerHigh = s.mu.cmp.headerHigh ∧
    (s.afterRise b).mu.cmp.headerRecovered = s.mu.cmp.headerRecovered ∧
    (s.afterRise b).mu.cmp.inert = s.mu.cmp.inert ∧
    (s.afterRise b).mu.cmp.oxygenUnder = s.mu.cmp.oxygenUnder ∧
    (s.afterRise b).mu.cmp.oxygenHigh = s.mu.cmp.oxygenHigh ∧
    (s.afterRise b).mu.cmp.chamberWatch = s.mu.cmp.chamberWatch ∧
    (s.afterRise b).mu.cmp.chamberStop = s.mu.cmp.chamberStop ∧
    (s.afterRise b).mu.cmp.purgeNeeded = s.mu.cmp.purgeNeeded ∧
    (s.afterRise b).mu.cmp.purgeClear = s.mu.cmp.purgeClear ∧
    (s.afterRise b).mu.cmp.quiet = s.mu.cmp.quiet ∧ (s.afterRise b).mu.discA = s.mu.discA ∧
    (s.afterRise b).mu.discB = s.mu.discB ∧ (s.afterRise b).mu.presentA = s.mu.presentA ∧
    (s.afterRise b).mu.presentB = s.mu.presentB ∧ (s.afterRise b).mu.zero = s.mu.zero ∧
    (s.afterRise b).mu.zeroRejected = s.mu.zeroRejected ∧ (s.afterRise b).ac.intake = s.ac.intake ∧
    (s.afterRise b).ac.chamber = s.ac.chamber ∧ (s.afterRise b).ac.nextNumber = s.ac.nextNumber ∧
    (s.afterRise b).ac.offer = s.ac.offer ∧ (s.afterRise b).pu.sources = s.pu.sources ∧
    (s.afterRise b).rs = s.rs ∧ (s.afterRise b).nv = s.nv ∧ (s.afterRise b).free = s.free ∧
    (s.afterRise b).pending = s.pending := by
  dsimp only [State.afterRise]; (repeat' split) <;> simp

/-- What `State.promote` leaves unchanged. -/
@[simp] theorem State.promote_frame (s : State) :
    (s.promote).boot = s.boot ∧ (s.promote).cfg = s.cfg ∧ (s.promote).li.idle = s.li.idle ∧
    (s.promote).li.receiver = s.li.receiver ∧ (s.promote).li.transmitter = s.li.transmitter ∧
    (s.promote).li.lastHazard = s.li.lastHazard ∧ (s.promote).pt = s.pt ∧
    (s.promote).ms.listA = s.ms.listA ∧ (s.promote).ms.listB = s.ms.listB ∧
    (s.promote).ms.marks = s.ms.marks ∧ (s.promote).ms.backoff = s.ms.backoff ∧
    (s.promote).ms.call = s.ms.call ∧ (s.promote).sq.step = s.sq.step ∧ (s.promote).sq.timer = s.sq.timer ∧
    (s.promote).sq.repeats = s.sq.repeats ∧ (s.promote).sq.used = s.sq.used ∧
    (s.promote).sq.routeB = s.sq.routeB ∧ (s.promote).sq.clampHold = s.sq.clampHold ∧
    (s.promote).sq.detected = s.sq.detected ∧ (s.promote).sq.riseCount = s.sq.riseCount ∧
    (s.promote).sq.candidate = s.sq.candidate ∧ (s.promote).sq.pStart = s.sq.pStart ∧
    (s.promote).sq.clock = s.sq.clock ∧ (s.promote).sq.seconds = s.sq.seconds ∧
    (s.promote).sq.finalPressure = s.sq.finalPressure ∧ (s.promote).ch = s.ch ∧ (s.promote).mu = s.mu ∧
    (s.promote).ac.intake = s.ac.intake ∧ (s.promote).ac.chamber = s.ac.chamber ∧
    (s.promote).ac.nextNumber = s.ac.nextNumber ∧ (s.promote).ac.offer = s.ac.offer ∧
    (s.promote).pu = s.pu ∧ (s.promote).rs = s.rs ∧ (s.promote).nv = s.nv ∧ (s.promote).free = s.free ∧
    (s.promote).pending = s.pending := by
  simp [State.promote]

/-- What `State.setCmp` leaves unchanged. -/
@[simp] theorem State.setCmp_frame (s : State) (c : Comparators) :
    (s.setCmp c).boot = s.boot ∧ (s.setCmp c).cfg = s.cfg ∧ (s.setCmp c).li = s.li ∧
    (s.setCmp c).pt = s.pt ∧ (s.setCmp c).ms = s.ms ∧ (s.setCmp c).sq = s.sq ∧ (s.setCmp c).ch = s.ch ∧
    (s.setCmp c).mu.ch = s.mu.ch ∧ (s.setCmp c).mu.filters = s.mu.filters ∧
    (s.setCmp c).mu.discA = s.mu.discA ∧ (s.setCmp c).mu.discB = s.mu.discB ∧
    (s.setCmp c).mu.presentA = s.mu.presentA ∧ (s.setCmp c).mu.presentB = s.mu.presentB ∧
    (s.setCmp c).mu.window = s.mu.window ∧ (s.setCmp c).mu.zero = s.mu.zero ∧
    (s.setCmp c).mu.zeroRejected = s.mu.zeroRejected ∧ (s.setCmp c).ac = s.ac ∧ (s.setCmp c).pu = s.pu ∧
    (s.setCmp c).rs = s.rs ∧ (s.setCmp c).nv = s.nv ∧ (s.setCmp c).free = s.free ∧
    (s.setCmp c).pending = s.pending := by
  simp [State.setCmp]

/-- What `State.leavePurging` leaves unchanged. -/
@[simp] theorem State.leavePurging_frame (s : State) :
    (s.leavePurging).boot = s.boot ∧ (s.leavePurging).cfg = s.cfg ∧ (s.leavePurging).li.idle = s.li.idle ∧
    (s.leavePurging).li.receiver = s.li.receiver ∧ (s.leavePurging).li.transmitter = s.li.transmitter ∧
    (s.leavePurging).li.lastHazard = s.li.lastHazard ∧ (s.leavePurging).pt = s.pt ∧
    (s.leavePurging).ms.listA = s.ms.listA ∧ (s.leavePurging).ms.listB = s.ms.listB ∧
    (s.leavePurging).ms.marks = s.ms.marks ∧ (s.leavePurging).ms.backoff = s.ms.backoff ∧
    (s.leavePurging).sq = s.sq ∧ (s.leavePurging).ch.pending = s.ch.pending ∧
    (s.leavePurging).ch.cls = s.ch.cls ∧ (s.leavePurging).ch.door = s.ch.door ∧
    (s.leavePurging).ch.doorOpen = s.ch.doorOpen ∧ (s.leavePurging).ch.sweepWait = s.ch.sweepWait ∧
    (s.leavePurging).ch.sweep = s.ch.sweep ∧ (s.leavePurging).ch.sweepRetry = s.ch.sweepRetry ∧
    (s.leavePurging).mu.ch = s.mu.ch ∧ (s.leavePurging).mu.filters = s.mu.filters ∧
    (s.leavePurging).mu.cmp.pulldown = s.mu.cmp.pulldown ∧
    (s.leavePurging).mu.cmp.ambientWatch = s.mu.cmp.ambientWatch ∧
    (s.leavePurging).mu.cmp.ambientStop = s.mu.cmp.ambientStop ∧
    (s.leavePurging).mu.cmp.headerHigh = s.mu.cmp.headerHigh ∧
    (s.leavePurging).mu.cmp.headerRecovered = s.mu.cmp.headerRecovered ∧
    (s.leavePurging).mu.cmp.oxygenUnder = s.mu.cmp.oxygenUnder ∧
    (s.leavePurging).mu.cmp.oxygenHigh = s.mu.cmp.oxygenHigh ∧
    (s.leavePurging).mu.cmp.chamberWatch = s.mu.cmp.chamberWatch ∧
    (s.leavePurging).mu.cmp.chamberStop = s.mu.cmp.chamberStop ∧
    (s.leavePurging).mu.cmp.purgeNeeded = s.mu.cmp.purgeNeeded ∧
    (s.leavePurging).mu.cmp.quiet = s.mu.cmp.quiet ∧ (s.leavePurging).mu.discA = s.mu.discA ∧
    (s.leavePurging).mu.discB = s.mu.discB ∧ (s.leavePurging).mu.presentA = s.mu.presentA ∧
    (s.leavePurging).mu.presentB = s.mu.presentB ∧ (s.leavePurging).mu.zero = s.mu.zero ∧
    (s.leavePurging).mu.zeroRejected = s.mu.zeroRejected ∧ (s.leavePurging).ac = s.ac ∧
    (s.leavePurging).pu = s.pu ∧ (s.leavePurging).rs = s.rs ∧ (s.leavePurging).nv = s.nv ∧
    (s.leavePurging).free = s.free ∧ (s.leavePurging).pending = s.pending := by
  simp [State.leavePurging]

/-- What `State.doorCloses` leaves unchanged. -/
@[simp] theorem State.doorCloses_frame (s : State) :
    (s.doorCloses).boot = s.boot ∧ (s.doorCloses).cfg = s.cfg ∧ (s.doorCloses).li.idle = s.li.idle ∧
    (s.doorCloses).li.receiver = s.li.receiver ∧ (s.doorCloses).li.transmitter = s.li.transmitter ∧
    (s.doorCloses).li.lastHazard = s.li.lastHazard ∧ (s.doorCloses).pt = s.pt ∧
    (s.doorCloses).ms.listA = s.ms.listA ∧ (s.doorCloses).ms.listB = s.ms.listB ∧
    (s.doorCloses).ms.marks = s.ms.marks ∧ (s.doorCloses).ms.backoff = s.ms.backoff ∧
    (s.doorCloses).ms.call = s.ms.call ∧ (s.doorCloses).sq = s.sq ∧
    (s.doorCloses).ch.pending = s.ch.pending ∧ (s.doorCloses).ch.cls = s.ch.cls ∧
    (s.doorCloses).ch.door = s.ch.door ∧ (s.doorCloses).ch.sweepWait = s.ch.sweepWait ∧
    (s.doorCloses).ch.sweep = s.ch.sweep ∧ (s.doorCloses).ch.sweepRetry = s.ch.sweepRetry ∧
    (s.doorCloses).ch.path = s.ch.path ∧ (s.doorCloses).ch.zeroDone = s.ch.zeroDone ∧
    (s.doorCloses).mu.ch = s.mu.ch ∧ (s.doorCloses).mu.filters = s.mu.filters ∧
    (s.doorCloses).mu.cmp.pulldown = s.mu.cmp.pulldown ∧
    (s.doorCloses).mu.cmp.ambientWatch = s.mu.cmp.ambientWatch ∧
    (s.doorCloses).mu.cmp.ambientStop = s.mu.cmp.ambientStop ∧
    (s.doorCloses).mu.cmp.headerHigh = s.mu.cmp.headerHigh ∧
    (s.doorCloses).mu.cmp.headerRecovered = s.mu.cmp.headerRecovered ∧
    (s.doorCloses).mu.cmp.oxygenUnder = s.mu.cmp.oxygenUnder ∧
    (s.doorCloses).mu.cmp.oxygenHigh = s.mu.cmp.oxygenHigh ∧
    (s.doorCloses).mu.cmp.chamberWatch = s.mu.cmp.chamberWatch ∧
    (s.doorCloses).mu.cmp.chamberStop = s.mu.cmp.chamberStop ∧
    (s.doorCloses).mu.cmp.purgeNeeded = s.mu.cmp.purgeNeeded ∧
    (s.doorCloses).mu.cmp.purgeClear = s.mu.cmp.purgeClear ∧ (s.doorCloses).mu.cmp.quiet = s.mu.cmp.quiet ∧
    (s.doorCloses).mu.discA = s.mu.discA ∧ (s.doorCloses).mu.discB = s.mu.discB ∧
    (s.doorCloses).mu.presentA = s.mu.presentA ∧ (s.doorCloses).mu.presentB = s.mu.presentB ∧
    (s.doorCloses).mu.zero = s.mu.zero ∧ (s.doorCloses).mu.zeroRejected = s.mu.zeroRejected ∧
    (s.doorCloses).ac.queue = s.ac.queue ∧ (s.doorCloses).ac.nextNumber = s.ac.nextNumber ∧
    (s.doorCloses).ac.offer = s.ac.offer ∧ (s.doorCloses).pu = s.pu ∧ (s.doorCloses).rs = s.rs ∧
    (s.doorCloses).nv = s.nv ∧ (s.doorCloses).free = s.free ∧ (s.doorCloses).pending = s.pending := by
  dsimp only [State.doorCloses]; (repeat' split) <;> simp

/-- What `State.takeSample` leaves unchanged. -/
@[simp] theorem State.takeSample_frame (s : State) (x : Sample) :
    (s.takeSample x).boot = s.boot ∧ (s.takeSample x).cfg = s.cfg ∧ (s.takeSample x).li = s.li ∧
    (s.takeSample x).pt = s.pt ∧ (s.takeSample x).ms = s.ms ∧ (s.takeSample x).sq.step = s.sq.step ∧
    (s.takeSample x).sq.timer = s.sq.timer ∧ (s.takeSample x).sq.repeats = s.sq.repeats ∧
    (s.takeSample x).sq.used = s.sq.used ∧ (s.takeSample x).sq.routeB = s.sq.routeB ∧
    (s.takeSample x).sq.clampHold = s.sq.clampHold ∧ (s.takeSample x).sq.detected = s.sq.detected ∧
    (s.takeSample x).sq.pStart = s.sq.pStart ∧ (s.takeSample x).sq.starve = s.sq.starve ∧
    (s.takeSample x).sq.clock = s.sq.clock ∧ (s.takeSample x).sq.seconds = s.sq.seconds ∧
    (s.takeSample x).ch = s.ch ∧ (s.takeSample x).mu.zero = s.mu.zero ∧
    (s.takeSample x).mu.zeroRejected = s.mu.zeroRejected ∧ (s.takeSample x).ac.intake = s.ac.intake ∧
    (s.takeSample x).ac.nextNumber = s.ac.nextNumber ∧ (s.takeSample x).ac.offer = s.ac.offer ∧
    (s.takeSample x).pu.de = s.pu.de ∧ (s.takeSample x).pu.codes = s.pu.codes ∧ (s.takeSample x).rs = s.rs ∧
    (s.takeSample x).nv = s.nv ∧ (s.takeSample x).free = s.free ∧ (s.takeSample x).pending = s.pending := by
  dsimp only [State.takeSample]; (repeat' split) <;> simp

/-- What `State.enterJoining` leaves unchanged. -/
@[simp] theorem State.enterJoining_frame (s : State) :
    (s.enterJoining).cfg = s.cfg ∧ (s.enterJoining).li.idle = s.li.idle ∧
    (s.enterJoining).li.receiver = s.li.receiver ∧ (s.enterJoining).li.transmitter = s.li.transmitter ∧
    (s.enterJoining).pt.entries = s.pt.entries ∧ (s.enterJoining).pt.ownHazard = s.pt.ownHazard ∧
    (s.enterJoining).ms.listA = s.ms.listA ∧ (s.enterJoining).ms.listB = s.ms.listB ∧
    (s.enterJoining).ms.own = s.ms.own ∧ (s.enterJoining).ms.marks = s.ms.marks ∧
    (s.enterJoining).ms.call = s.ms.call ∧ (s.enterJoining).sq = s.sq ∧ (s.enterJoining).ch = s.ch ∧
    (s.enterJoining).mu = s.mu ∧ (s.enterJoining).ac = s.ac ∧ (s.enterJoining).pu = s.pu ∧
    (s.enterJoining).rs = s.rs ∧ (s.enterJoining).nv = s.nv ∧ (s.enterJoining).free = s.free ∧
    (s.enterJoining).pending = s.pending := by
  simp [State.enterJoining]

/-- What `State.firstHazard` leaves unchanged. -/
@[simp] theorem State.firstHazard_frame (s : State) :
    (s.firstHazard).boot = s.boot ∧ (s.firstHazard).cfg = s.cfg ∧ (s.firstHazard).li = s.li ∧
    (s.firstHazard).pt.entries = s.pt.entries ∧ (s.firstHazard).pt.timer = s.pt.timer ∧
    (s.firstHazard).ms = s.ms ∧ (s.firstHazard).sq = s.sq ∧ (s.firstHazard).ch = s.ch ∧
    (s.firstHazard).mu.ch = s.mu.ch ∧ (s.firstHazard).mu.filters = s.mu.filters ∧
    (s.firstHazard).mu.discA = s.mu.discA ∧ (s.firstHazard).mu.discB = s.mu.discB ∧
    (s.firstHazard).mu.presentA = s.mu.presentA ∧ (s.firstHazard).mu.presentB = s.mu.presentB ∧
    (s.firstHazard).mu.window = s.mu.window ∧ (s.firstHazard).mu.zero = s.mu.zero ∧
    (s.firstHazard).mu.zeroRejected = s.mu.zeroRejected ∧ (s.firstHazard).ac = s.ac ∧
    (s.firstHazard).pu = s.pu ∧ (s.firstHazard).rs = s.rs ∧ (s.firstHazard).nv = s.nv ∧
    (s.firstHazard).free = s.free ∧ (s.firstHazard).pending = s.pending := by
  simp [State.firstHazard]

/-- What `State.recoverAtOnce` leaves unchanged. -/
@[simp] theorem State.recoverAtOnce_frame (s : State) :
    (s.recoverAtOnce).boot = s.boot ∧ (s.recoverAtOnce).cfg = s.cfg ∧ (s.recoverAtOnce).li = s.li ∧
    (s.recoverAtOnce).pt = s.pt ∧ (s.recoverAtOnce).ms = s.ms ∧ (s.recoverAtOnce).sq = s.sq ∧
    (s.recoverAtOnce).ch = s.ch ∧ (s.recoverAtOnce).mu = s.mu ∧ (s.recoverAtOnce).ac = s.ac ∧
    (s.recoverAtOnce).rs = s.rs ∧ (s.recoverAtOnce).nv = s.nv ∧ (s.recoverAtOnce).free = s.free ∧
    (s.recoverAtOnce).pending = s.pending := by
  dsimp only [State.recoverAtOnce]
  split
  · exact recoverAll_frame TripSource.all s
  · simp

/-- What `State.markDiscrepancy` leaves unchanged. -/
@[simp] theorem State.markDiscrepancy_frame (s : State) (r : Route) :
    (s.markDiscrepancy r).boot = s.boot ∧ (s.markDiscrepancy r).cfg = s.cfg ∧
    (s.markDiscrepancy r).li = s.li ∧ (s.markDiscrepancy r).pt = s.pt ∧ (s.markDiscrepancy r).ms = s.ms ∧
    (s.markDiscrepancy r).sq = s.sq ∧ (s.markDiscrepancy r).ch = s.ch ∧
    (s.markDiscrepancy r).mu.ch = s.mu.ch ∧ (s.markDiscrepancy r).mu.filters = s.mu.filters ∧
    (s.markDiscrepancy r).mu.cmp = s.mu.cmp ∧ (s.markDiscrepancy r).mu.discA = s.mu.discA ∧
    (s.markDiscrepancy r).mu.discB = s.mu.discB ∧ (s.markDiscrepancy r).mu.window = s.mu.window ∧
    (s.markDiscrepancy r).mu.zero = s.mu.zero ∧ (s.markDiscrepancy r).mu.zeroRejected = s.mu.zeroRejected ∧
    (s.markDiscrepancy r).ac = s.ac ∧ (s.markDiscrepancy r).pu = s.pu ∧ (s.markDiscrepancy r).rs = s.rs ∧
    (s.markDiscrepancy r).nv = s.nv ∧ (s.markDiscrepancy r).free = s.free ∧
    (s.markDiscrepancy r).pending = s.pending := by
  cases r <;> simp [State.markDiscrepancy]

/-- What `State.takeZero` leaves unchanged. -/
@[simp] theorem State.takeZero_frame (s : State) :
    (s.takeZero).boot = s.boot ∧ (s.takeZero).cfg = s.cfg ∧ (s.takeZero).li = s.li ∧
    (s.takeZero).pt = s.pt ∧ (s.takeZero).ms = s.ms ∧ (s.takeZero).sq = s.sq ∧ (s.takeZero).ch = s.ch ∧
    (s.takeZero).mu.ch = s.mu.ch ∧ (s.takeZero).mu.filters = s.mu.filters ∧ (s.takeZero).mu.cmp = s.mu.cmp ∧
    (s.takeZero).mu.discA = s.mu.discA ∧ (s.takeZero).mu.discB = s.mu.discB ∧
    (s.takeZero).mu.presentA = s.mu.presentA ∧ (s.takeZero).mu.presentB = s.mu.presentB ∧
    (s.takeZero).ac = s.ac ∧ (s.takeZero).rs = s.rs ∧ (s.takeZero).nv = s.nv ∧ (s.takeZero).free = s.free ∧
    (s.takeZero).pending = s.pending := by
  dsimp only [State.takeZero]; (repeat' split) <;> simp

/-- What `State.endZero` leaves unchanged. -/
@[simp] theorem State.endZero_frame (s : State) :
    (s.endZero).boot = s.boot ∧ (s.endZero).cfg = s.cfg ∧ (s.endZero).li = s.li ∧ (s.endZero).pt = s.pt ∧
    (s.endZero).ms = s.ms ∧ (s.endZero).sq.repeats = s.sq.repeats ∧ (s.endZero).sq.used = s.sq.used ∧
    (s.endZero).sq.routeB = s.sq.routeB ∧ (s.endZero).sq.clampHold = s.sq.clampHold ∧
    (s.endZero).sq.detected = s.sq.detected ∧ (s.endZero).sq.riseCount = s.sq.riseCount ∧
    (s.endZero).sq.candidate = s.sq.candidate ∧ (s.endZero).sq.pStart = s.sq.pStart ∧
    (s.endZero).sq.starve = s.sq.starve ∧ (s.endZero).sq.clock = s.sq.clock ∧
    (s.endZero).sq.seconds = s.sq.seconds ∧ (s.endZero).sq.finalPressure = s.sq.finalPressure ∧
    (s.endZero).ch = s.ch ∧ (s.endZero).mu.ch = s.mu.ch ∧ (s.endZero).mu.filters = s.mu.filters ∧
    (s.endZero).mu.cmp = s.mu.cmp ∧ (s.endZero).mu.discA = s.mu.discA ∧ (s.endZero).mu.discB = s.mu.discB ∧
    (s.endZero).mu.presentA = s.mu.presentA ∧ (s.endZero).mu.presentB = s.mu.presentB ∧
    (s.endZero).ac.intake = s.ac.intake ∧ (s.endZero).ac.chamber = s.ac.chamber ∧
    (s.endZero).ac.nextNumber = s.ac.nextNumber ∧ (s.endZero).ac.offer = s.ac.offer ∧
    (s.endZero).rs = s.rs ∧ (s.endZero).nv = s.nv ∧ (s.endZero).free = s.free ∧
    (s.endZero).pending = s.pending := by
  simp [State.endZero]

/-- What `State.sequenceTaken` leaves unchanged. -/
@[simp] theorem State.sequenceTaken_frame (s : State) :
    (s.sequenceTaken).boot = s.boot ∧ (s.sequenceTaken).cfg = s.cfg ∧ (s.sequenceTaken).li = s.li ∧
    (s.sequenceTaken).pt = s.pt ∧ (s.sequenceTaken).ms = s.ms ∧ (s.sequenceTaken).sq = s.sq ∧
    (s.sequenceTaken).ch = s.ch ∧ (s.sequenceTaken).mu = s.mu ∧ (s.sequenceTaken).ac = s.ac ∧
    (s.sequenceTaken).pu = s.pu ∧ (s.sequenceTaken).rs = s.rs ∧ (s.sequenceTaken).nv = s.nv ∧
    (s.sequenceTaken).pending = s.pending := by
  dsimp only [State.sequenceTaken]; (repeat' split) <;> simp

/-- What `State.writeSlot` leaves unchanged. -/
@[simp] theorem State.writeSlot_frame (s : State) (n : Nat) (bs : List Byte) :
    (s.writeSlot n bs).boot = s.boot ∧ (s.writeSlot n bs).cfg = s.cfg ∧ (s.writeSlot n bs).li = s.li ∧
    (s.writeSlot n bs).pt = s.pt ∧ (s.writeSlot n bs).ms = s.ms ∧ (s.writeSlot n bs).sq = s.sq ∧
    (s.writeSlot n bs).ch = s.ch ∧ (s.writeSlot n bs).mu = s.mu ∧ (s.writeSlot n bs).ac = s.ac ∧
    (s.writeSlot n bs).pu = s.pu ∧ (s.writeSlot n bs).rs = s.rs ∧ (s.writeSlot n bs).nv.block = s.nv.block ∧
    (s.writeSlot n bs).nv.startCounter = s.nv.startCounter ∧ (s.writeSlot n bs).nv.factory = s.nv.factory ∧
    (s.writeSlot n bs).free = s.free ∧ (s.writeSlot n bs).pending = s.pending := by
  simp [State.writeSlot]

/-- What `State.leaveLists` leaves unchanged. -/
@[simp] theorem State.leaveLists_frame (s : State) (k : Key) :
    (s.leaveLists k).boot = s.boot ∧ (s.leaveLists k).cfg = s.cfg ∧ (s.leaveLists k).li = s.li ∧
    (s.leaveLists k).pt = s.pt ∧ (s.leaveLists k).ms = s.ms ∧ (s.leaveLists k).sq = s.sq ∧
    (s.leaveLists k).ch = s.ch ∧ (s.leaveLists k).mu = s.mu ∧ (s.leaveLists k).ac.intake = s.ac.intake ∧
    (s.leaveLists k).ac.nextNumber = s.ac.nextNumber ∧ (s.leaveLists k).ac.offer = s.ac.offer ∧
    (s.leaveLists k).pu = s.pu ∧ (s.leaveLists k).rs = s.rs ∧ (s.leaveLists k).nv = s.nv ∧
    (s.leaveLists k).free = s.free ∧ (s.leaveLists k).pending = s.pending := by
  simp [State.leaveLists]

/-- What `State.commitDone` leaves unchanged. -/
@[simp] theorem State.commitDone_frame (s : State) (c : Commit) :
    (s.commitDone c).boot = s.boot ∧ (s.commitDone c).cfg = s.cfg ∧ (s.commitDone c).li.idle = s.li.idle ∧
    (s.commitDone c).li.receiver = s.li.receiver ∧ (s.commitDone c).li.transmitter = s.li.transmitter ∧
    (s.commitDone c).li.lastHazard = s.li.lastHazard ∧ (s.commitDone c).pt = s.pt ∧
    (s.commitDone c).ms = s.ms ∧ (s.commitDone c).sq = s.sq ∧ (s.commitDone c).ch = s.ch ∧
    (s.commitDone c).mu = s.mu ∧ (s.commitDone c).ac.intake = s.ac.intake ∧
    (s.commitDone c).ac.nextNumber = s.ac.nextNumber ∧ (s.commitDone c).ac.offer = s.ac.offer ∧
    (s.commitDone c).pu.sources = s.pu.sources ∧ (s.commitDone c).rs.fault = s.rs.fault ∧
    (s.commitDone c).rs.readPointer = s.rs.readPointer ∧ (s.commitDone c).rs.target = s.rs.target ∧
    (s.commitDone c).rs.supplyLow = s.rs.supplyLow ∧ (s.commitDone c).rs.supplyBelow = s.rs.supplyBelow ∧
    (s.commitDone c).rs.lock = s.rs.lock ∧
    (s.commitDone c).rs.working = s.rs.working ∧ (s.commitDone c).rs.idle = s.rs.idle ∧
    (s.commitDone c).rs.statusTimer = s.rs.statusTimer ∧ (s.commitDone c).rs.blockWrite = s.rs.blockWrite ∧
    (s.commitDone c).nv.block = s.nv.block ∧ (s.commitDone c).nv.startCounter = s.nv.startCounter ∧
    (s.commitDone c).nv.factory = s.nv.factory ∧ (s.commitDone c).free = s.free ∧
    (s.commitDone c).pending = s.pending := by
  simp [State.commitDone]

/-- What `State.commitFailed` leaves unchanged. -/
@[simp] theorem State.commitFailed_frame (s : State) (c : Commit) (bs : List Byte) :
    (s.commitFailed c bs).boot = s.boot ∧ (s.commitFailed c bs).cfg = s.cfg ∧
    (s.commitFailed c bs).li = s.li ∧ (s.commitFailed c bs).pt = s.pt ∧ (s.commitFailed c bs).ms = s.ms ∧
    (s.commitFailed c bs).sq = s.sq ∧ (s.commitFailed c bs).ch = s.ch ∧ (s.commitFailed c bs).mu = s.mu ∧
    (s.commitFailed c bs).ac = s.ac ∧ (s.commitFailed c bs).pu.sources = s.pu.sources ∧
    (s.commitFailed c bs).rs.lastSequence = s.rs.lastSequence ∧
    (s.commitFailed c bs).rs.writePosition = s.rs.writePosition ∧
    (s.commitFailed c bs).rs.commitQueue = s.rs.commitQueue ∧
    (s.commitFailed c bs).rs.readPointer = s.rs.readPointer ∧
    (s.commitFailed c bs).rs.target = s.rs.target ∧ (s.commitFailed c bs).rs.supplyLow = s.rs.supplyLow ∧
    (s.commitFailed c bs).rs.supplyBelow = s.rs.supplyBelow ∧
    (s.commitFailed c bs).rs.lock = s.rs.lock ∧ (s.commitFailed c bs).rs.working = s.rs.working ∧
    (s.commitFailed c bs).rs.idle = s.rs.idle ∧ (s.commitFailed c bs).rs.statusTimer = s.rs.statusTimer ∧
    (s.commitFailed c bs).rs.blockWrite = s.rs.blockWrite ∧ (s.commitFailed c bs).nv.block = s.nv.block ∧
    (s.commitFailed c bs).nv.startCounter = s.nv.startCounter ∧
    (s.commitFailed c bs).nv.factory = s.nv.factory ∧ (s.commitFailed c bs).free = s.free ∧
    (s.commitFailed c bs).pending = s.pending := by
  simp [State.commitFailed]

/-- What `State.abortCommit` leaves unchanged. -/
@[simp] theorem State.abortCommit_frame (s : State) :
    (s.abortCommit).boot = s.boot ∧ (s.abortCommit).cfg = s.cfg ∧ (s.abortCommit).li = s.li ∧
    (s.abortCommit).pt = s.pt ∧ (s.abortCommit).ms = s.ms ∧ (s.abortCommit).sq = s.sq ∧
    (s.abortCommit).ch = s.ch ∧ (s.abortCommit).mu = s.mu ∧ (s.abortCommit).ac = s.ac ∧
    (s.abortCommit).pu.sources = s.pu.sources ∧ (s.abortCommit).rs.lastSequence = s.rs.lastSequence ∧
    (s.abortCommit).rs.writePosition = s.rs.writePosition ∧ (s.abortCommit).rs.full = s.rs.full ∧
    (s.abortCommit).rs.fault = s.rs.fault ∧ (s.abortCommit).rs.commitQueue = s.rs.commitQueue ∧
    (s.abortCommit).rs.readPointer = s.rs.readPointer ∧ (s.abortCommit).rs.target = s.rs.target ∧
    (s.abortCommit).rs.supplyLow = s.rs.supplyLow ∧ (s.abortCommit).rs.supplyBelow = s.rs.supplyBelow ∧
    (s.abortCommit).rs.lock = s.rs.lock ∧
    (s.abortCommit).rs.working = s.rs.working ∧ (s.abortCommit).rs.idle = s.rs.idle ∧
    (s.abortCommit).rs.statusTimer = s.rs.statusTimer ∧ (s.abortCommit).rs.blockWrite = s.rs.blockWrite ∧
    (s.abortCommit).nv = s.nv ∧ (s.abortCommit).free = s.free ∧ (s.abortCommit).pending = s.pending := by
  dsimp only [State.abortCommit]; (repeat' split) <;> simp

/-- What `State.answerRead` leaves unchanged. -/
@[simp] theorem State.answerRead_frame (s : State) (a q : Nat) :
    (s.answerRead a q).boot = s.boot ∧ (s.answerRead a q).cfg = s.cfg ∧
    (s.answerRead a q).li.idle = s.li.idle ∧ (s.answerRead a q).li.receiver = s.li.receiver ∧
    (s.answerRead a q).li.transmitter = s.li.transmitter ∧
    (s.answerRead a q).li.lastHazard = s.li.lastHazard ∧ (s.answerRead a q).pt = s.pt ∧
    (s.answerRead a q).ms = s.ms ∧ (s.answerRead a q).sq = s.sq ∧ (s.answerRead a q).ch = s.ch ∧
    (s.answerRead a q).mu = s.mu ∧ (s.answerRead a q).ac = s.ac ∧ (s.answerRead a q).pu = s.pu ∧
    (s.answerRead a q).rs = s.rs ∧ (s.answerRead a q).nv = s.nv ∧ (s.answerRead a q).free = s.free ∧
    (s.answerRead a q).pending = s.pending := by
  dsimp only [State.answerRead]; (repeat' split) <;> simp

/-- What `State.setPointer` leaves unchanged. -/
@[simp] theorem State.setPointer_frame (s : State) (p : Option Nat) :
    (s.setPointer p).boot = s.boot ∧ (s.setPointer p).cfg = s.cfg ∧ (s.setPointer p).li = s.li ∧
    (s.setPointer p).pt = s.pt ∧ (s.setPointer p).ms = s.ms ∧ (s.setPointer p).sq = s.sq ∧
    (s.setPointer p).ch = s.ch ∧ (s.setPointer p).mu = s.mu ∧ (s.setPointer p).ac = s.ac ∧
    (s.setPointer p).pu = s.pu ∧ (s.setPointer p).rs.lastSequence = s.rs.lastSequence ∧
    (s.setPointer p).rs.writePosition = s.rs.writePosition ∧ (s.setPointer p).rs.full = s.rs.full ∧
    (s.setPointer p).rs.fault = s.rs.fault ∧ (s.setPointer p).rs.commitQueue = s.rs.commitQueue ∧
    (s.setPointer p).rs.commit = s.rs.commit ∧ (s.setPointer p).rs.target = s.rs.target ∧
    (s.setPointer p).rs.supplyLow = s.rs.supplyLow ∧ (s.setPointer p).rs.supplyBelow = s.rs.supplyBelow ∧
    (s.setPointer p).rs.lock = s.rs.lock ∧
    (s.setPointer p).rs.working = s.rs.working ∧ (s.setPointer p).rs.idle = s.rs.idle ∧
    (s.setPointer p).rs.statusTimer = s.rs.statusTimer ∧ (s.setPointer p).rs.blockWrite = s.rs.blockWrite ∧
    (s.setPointer p).nv = s.nv ∧ (s.setPointer p).free = s.free ∧ (s.setPointer p).pending = s.pending := by
  simp [State.setPointer]

/-- What `State.readAbove` leaves unchanged. -/
@[simp] theorem State.readAbove_frame (s : State) (a p : Nat) :
    (s.readAbove a p).boot = s.boot ∧ (s.readAbove a p).cfg = s.cfg ∧
    (s.readAbove a p).li.idle = s.li.idle ∧ (s.readAbove a p).li.receiver = s.li.receiver ∧
    (s.readAbove a p).li.transmitter = s.li.transmitter ∧
    (s.readAbove a p).li.lastHazard = s.li.lastHazard ∧ (s.readAbove a p).pt = s.pt ∧
    (s.readAbove a p).ms = s.ms ∧ (s.readAbove a p).sq = s.sq ∧ (s.readAbove a p).ch = s.ch ∧
    (s.readAbove a p).mu = s.mu ∧ (s.readAbove a p).ac = s.ac ∧ (s.readAbove a p).pu = s.pu ∧
    (s.readAbove a p).rs.lastSequence = s.rs.lastSequence ∧
    (s.readAbove a p).rs.writePosition = s.rs.writePosition ∧ (s.readAbove a p).rs.full = s.rs.full ∧
    (s.readAbove a p).rs.fault = s.rs.fault ∧ (s.readAbove a p).rs.commitQueue = s.rs.commitQueue ∧
    (s.readAbove a p).rs.commit = s.rs.commit ∧ (s.readAbove a p).rs.target = s.rs.target ∧
    (s.readAbove a p).rs.supplyLow = s.rs.supplyLow ∧ (s.readAbove a p).rs.supplyBelow = s.rs.supplyBelow ∧
    (s.readAbove a p).rs.lock = s.rs.lock ∧
    (s.readAbove a p).rs.working = s.rs.working ∧ (s.readAbove a p).rs.idle = s.rs.idle ∧
    (s.readAbove a p).rs.statusTimer = s.rs.statusTimer ∧
    (s.readAbove a p).rs.blockWrite = s.rs.blockWrite ∧ (s.readAbove a p).nv = s.nv ∧
    (s.readAbove a p).pending = s.pending := by
  dsimp only [State.readAbove]; (repeat' split) <;> simp

/-- What `State.answerConfig` leaves unchanged. -/
@[simp] theorem State.answerConfig_frame (s : State) (a k st : Nat) (p : Byte) (v : Nat) :
    (s.answerConfig a k st p v).boot = s.boot ∧ (s.answerConfig a k st p v).cfg = s.cfg ∧
    (s.answerConfig a k st p v).li.idle = s.li.idle ∧
    (s.answerConfig a k st p v).li.receiver = s.li.receiver ∧
    (s.answerConfig a k st p v).li.transmitter = s.li.transmitter ∧
    (s.answerConfig a k st p v).li.lastHazard = s.li.lastHazard ∧ (s.answerConfig a k st p v).pt = s.pt ∧
    (s.answerConfig a k st p v).ms = s.ms ∧ (s.answerConfig a k st p v).sq = s.sq ∧
    (s.answerConfig a k st p v).ch = s.ch ∧ (s.answerConfig a k st p v).mu = s.mu ∧
    (s.answerConfig a k st p v).ac = s.ac ∧ (s.answerConfig a k st p v).pu = s.pu ∧
    (s.answerConfig a k st p v).rs = s.rs ∧ (s.answerConfig a k st p v).nv = s.nv ∧
    (s.answerConfig a k st p v).free = s.free ∧ (s.answerConfig a k st p v).pending = s.pending := by
  simp [State.answerConfig]

/-- What `State.setLock` leaves unchanged. -/
@[simp] theorem State.setLock_frame (s : State) (l : Lock) :
    (s.setLock l).boot = s.boot ∧ (s.setLock l).cfg = s.cfg ∧ (s.setLock l).li = s.li ∧
    (s.setLock l).pt = s.pt ∧ (s.setLock l).ms = s.ms ∧ (s.setLock l).sq = s.sq ∧ (s.setLock l).ch = s.ch ∧
    (s.setLock l).mu = s.mu ∧ (s.setLock l).ac = s.ac ∧ (s.setLock l).pu = s.pu ∧
    (s.setLock l).rs.lastSequence = s.rs.lastSequence ∧
    (s.setLock l).rs.writePosition = s.rs.writePosition ∧ (s.setLock l).rs.full = s.rs.full ∧
    (s.setLock l).rs.fault = s.rs.fault ∧ (s.setLock l).rs.commitQueue = s.rs.commitQueue ∧
    (s.setLock l).rs.commit = s.rs.commit ∧ (s.setLock l).rs.readPointer = s.rs.readPointer ∧
    (s.setLock l).rs.target = s.rs.target ∧ (s.setLock l).rs.supplyLow = s.rs.supplyLow ∧
    (s.setLock l).rs.supplyBelow = s.rs.supplyBelow ∧
    (s.setLock l).rs.working = s.rs.working ∧ (s.setLock l).rs.statusTimer = s.rs.statusTimer ∧
    (s.setLock l).rs.blockWrite = s.rs.blockWrite ∧ (s.setLock l).nv = s.nv ∧ (s.setLock l).free = s.free ∧
    (s.setLock l).pending = s.pending := by
  dsimp only [State.setLock]; (repeat' split) <;> simp

/-- What `State.takeKey` leaves unchanged. -/
@[simp] theorem State.takeKey_frame (s : State) (a k : Nat) :
    (s.takeKey a k).boot = s.boot ∧ (s.takeKey a k).cfg = s.cfg ∧ (s.takeKey a k).li.idle = s.li.idle ∧
    (s.takeKey a k).li.receiver = s.li.receiver ∧ (s.takeKey a k).li.transmitter = s.li.transmitter ∧
    (s.takeKey a k).li.lastHazard = s.li.lastHazard ∧ (s.takeKey a k).pt = s.pt ∧
    (s.takeKey a k).ms = s.ms ∧ (s.takeKey a k).sq = s.sq ∧ (s.takeKey a k).ch = s.ch ∧
    (s.takeKey a k).mu = s.mu ∧ (s.takeKey a k).ac = s.ac ∧ (s.takeKey a k).pu = s.pu ∧
    (s.takeKey a k).rs.lastSequence = s.rs.lastSequence ∧
    (s.takeKey a k).rs.writePosition = s.rs.writePosition ∧ (s.takeKey a k).rs.full = s.rs.full ∧
    (s.takeKey a k).rs.fault = s.rs.fault ∧ (s.takeKey a k).rs.commitQueue = s.rs.commitQueue ∧
    (s.takeKey a k).rs.commit = s.rs.commit ∧ (s.takeKey a k).rs.readPointer = s.rs.readPointer ∧
    (s.takeKey a k).rs.target = s.rs.target ∧ (s.takeKey a k).rs.supplyLow = s.rs.supplyLow ∧
    (s.takeKey a k).rs.supplyBelow = s.rs.supplyBelow ∧
    (s.takeKey a k).rs.working = s.rs.working ∧ (s.takeKey a k).rs.statusTimer = s.rs.statusTimer ∧
    (s.takeKey a k).rs.blockWrite = s.rs.blockWrite ∧ (s.takeKey a k).nv = s.nv ∧
    (s.takeKey a k).free = s.free ∧ (s.takeKey a k).pending = s.pending := by
  dsimp only [State.takeKey]; (repeat' split) <;> simp

/-- What `State.valueRead` leaves unchanged. -/
@[simp] theorem State.valueRead_frame (s : State) (n : Nat) :
    (s.valueRead n).boot = s.boot ∧ (s.valueRead n).cfg = s.cfg ∧ (s.valueRead n).li = s.li ∧
    (s.valueRead n).pt = s.pt ∧ (s.valueRead n).ms = s.ms ∧ (s.valueRead n).sq = s.sq ∧
    (s.valueRead n).ch = s.ch ∧ (s.valueRead n).mu = s.mu ∧ (s.valueRead n).ac = s.ac ∧
    (s.valueRead n).pu = s.pu ∧ (s.valueRead n).rs = s.rs ∧ (s.valueRead n).nv = s.nv ∧
    (s.valueRead n).pending = s.pending := by
  dsimp only [State.valueRead]; (repeat' split) <;> simp

/-- What `State.setParam` leaves unchanged. -/
@[simp] theorem State.setParam_frame (s : State) (n v : Nat) :
    (s.setParam n v).boot = s.boot ∧ (s.setParam n v).cfg = s.cfg ∧ (s.setParam n v).li = s.li ∧
    (s.setParam n v).pt = s.pt ∧ (s.setParam n v).ms = s.ms ∧ (s.setParam n v).sq = s.sq ∧
    (s.setParam n v).ch = s.ch ∧ (s.setParam n v).mu = s.mu ∧ (s.setParam n v).ac = s.ac ∧
    (s.setParam n v).pu = s.pu ∧ (s.setParam n v).rs.lastSequence = s.rs.lastSequence ∧
    (s.setParam n v).rs.writePosition = s.rs.writePosition ∧ (s.setParam n v).rs.full = s.rs.full ∧
    (s.setParam n v).rs.fault = s.rs.fault ∧ (s.setParam n v).rs.commitQueue = s.rs.commitQueue ∧
    (s.setParam n v).rs.commit = s.rs.commit ∧ (s.setParam n v).rs.readPointer = s.rs.readPointer ∧
    (s.setParam n v).rs.target = s.rs.target ∧ (s.setParam n v).rs.supplyLow = s.rs.supplyLow ∧
    (s.setParam n v).rs.supplyBelow = s.rs.supplyBelow ∧
    (s.setParam n v).rs.lock = s.rs.lock ∧ (s.setParam n v).rs.idle = s.rs.idle ∧
    (s.setParam n v).rs.statusTimer = s.rs.statusTimer ∧ (s.setParam n v).rs.blockWrite = s.rs.blockWrite ∧
    (s.setParam n v).nv = s.nv ∧ (s.setParam n v).free = s.free ∧ (s.setParam n v).pending = s.pending := by
  simp [State.setParam]

/-- What `State.takeWrite` leaves unchanged. -/
@[simp] theorem State.takeWrite_frame (s : State) (a : Nat) (p : Byte) (v : Nat) :
    (s.takeWrite a p v).boot = s.boot ∧ (s.takeWrite a p v).cfg = s.cfg ∧
    (s.takeWrite a p v).li.idle = s.li.idle ∧ (s.takeWrite a p v).li.receiver = s.li.receiver ∧
    (s.takeWrite a p v).li.transmitter = s.li.transmitter ∧
    (s.takeWrite a p v).li.lastHazard = s.li.lastHazard ∧ (s.takeWrite a p v).pt = s.pt ∧
    (s.takeWrite a p v).ms = s.ms ∧ (s.takeWrite a p v).sq = s.sq ∧ (s.takeWrite a p v).ch = s.ch ∧
    (s.takeWrite a p v).mu = s.mu ∧ (s.takeWrite a p v).ac = s.ac ∧ (s.takeWrite a p v).pu = s.pu ∧
    (s.takeWrite a p v).rs.lastSequence = s.rs.lastSequence ∧
    (s.takeWrite a p v).rs.writePosition = s.rs.writePosition ∧ (s.takeWrite a p v).rs.full = s.rs.full ∧
    (s.takeWrite a p v).rs.fault = s.rs.fault ∧ (s.takeWrite a p v).rs.commitQueue = s.rs.commitQueue ∧
    (s.takeWrite a p v).rs.commit = s.rs.commit ∧ (s.takeWrite a p v).rs.readPointer = s.rs.readPointer ∧
    (s.takeWrite a p v).rs.target = s.rs.target ∧ (s.takeWrite a p v).rs.supplyLow = s.rs.supplyLow ∧
    (s.takeWrite a p v).rs.supplyBelow = s.rs.supplyBelow ∧
    (s.takeWrite a p v).rs.statusTimer = s.rs.statusTimer ∧
    (s.takeWrite a p v).rs.blockWrite = s.rs.blockWrite ∧ (s.takeWrite a p v).nv = s.nv ∧
    (s.takeWrite a p v).pending = s.pending := by
  dsimp only [State.takeWrite]; (repeat' split) <;> simp

/-- What `State.takeCommit` leaves unchanged. -/
@[simp] theorem State.takeCommit_frame (s : State) (a : Nat) :
    (s.takeCommit a).boot = s.boot ∧ (s.takeCommit a).cfg = s.cfg ∧ (s.takeCommit a).li.idle = s.li.idle ∧
    (s.takeCommit a).li.receiver = s.li.receiver ∧ (s.takeCommit a).li.transmitter = s.li.transmitter ∧
    (s.takeCommit a).li.lastHazard = s.li.lastHazard ∧ (s.takeCommit a).pt = s.pt ∧
    (s.takeCommit a).ms = s.ms ∧ (s.takeCommit a).sq = s.sq ∧ (s.takeCommit a).ch = s.ch ∧
    (s.takeCommit a).mu = s.mu ∧ (s.takeCommit a).ac = s.ac ∧ (s.takeCommit a).pu = s.pu ∧
    (s.takeCommit a).rs.lastSequence = s.rs.lastSequence ∧
    (s.takeCommit a).rs.writePosition = s.rs.writePosition ∧ (s.takeCommit a).rs.full = s.rs.full ∧
    (s.takeCommit a).rs.fault = s.rs.fault ∧ (s.takeCommit a).rs.commitQueue = s.rs.commitQueue ∧
    (s.takeCommit a).rs.commit = s.rs.commit ∧ (s.takeCommit a).rs.readPointer = s.rs.readPointer ∧
    (s.takeCommit a).rs.target = s.rs.target ∧ (s.takeCommit a).rs.supplyLow = s.rs.supplyLow ∧
    (s.takeCommit a).rs.supplyBelow = s.rs.supplyBelow ∧
    (s.takeCommit a).rs.working = s.rs.working ∧ (s.takeCommit a).rs.statusTimer = s.rs.statusTimer ∧
    (s.takeCommit a).nv = s.nv ∧ (s.takeCommit a).free = s.free ∧ (s.takeCommit a).pending = s.pending := by
  dsimp only [State.takeCommit]; (repeat' split) <;> simp

/-- What `State.answerCommits` leaves unchanged. -/
@[simp] theorem State.answerCommits_frame (s : State) (l : List Nat) (n : Nat) :
    (s.answerCommits l n).boot = s.boot ∧ (s.answerCommits l n).cfg = s.cfg ∧
    (s.answerCommits l n).li.idle = s.li.idle ∧ (s.answerCommits l n).li.receiver = s.li.receiver ∧
    (s.answerCommits l n).li.transmitter = s.li.transmitter ∧
    (s.answerCommits l n).li.lastHazard = s.li.lastHazard ∧ (s.answerCommits l n).pt = s.pt ∧
    (s.answerCommits l n).ms = s.ms ∧ (s.answerCommits l n).sq = s.sq ∧ (s.answerCommits l n).ch = s.ch ∧
    (s.answerCommits l n).mu = s.mu ∧ (s.answerCommits l n).ac = s.ac ∧ (s.answerCommits l n).pu = s.pu ∧
    (s.answerCommits l n).rs = s.rs ∧ (s.answerCommits l n).nv = s.nv ∧ (s.answerCommits l n).free = s.free ∧
    (s.answerCommits l n).pending = s.pending := by
  induction l generalizing s with
  | nil => simp [State.answerCommits]
  | cons a l ih => simpa [State.answerCommits] using ih (s.answerConfig a 0x7E n 0 0)

/-- What `State.endBlockWrite` leaves unchanged. -/
@[simp] theorem State.endBlockWrite_frame (s : State) (w : BlockWrite) (ws : List Half) (b : Bool) :
    (s.endBlockWrite w ws b).boot = s.boot ∧ (s.endBlockWrite w ws b).cfg = s.cfg ∧
    (s.endBlockWrite w ws b).li.idle = s.li.idle ∧ (s.endBlockWrite w ws b).li.receiver = s.li.receiver ∧
    (s.endBlockWrite w ws b).li.transmitter = s.li.transmitter ∧
    (s.endBlockWrite w ws b).li.lastHazard = s.li.lastHazard ∧ (s.endBlockWrite w ws b).pt = s.pt ∧
    (s.endBlockWrite w ws b).ms = s.ms ∧ (s.endBlockWrite w ws b).sq = s.sq ∧
    (s.endBlockWrite w ws b).ch = s.ch ∧ (s.endBlockWrite w ws b).mu = s.mu ∧
    (s.endBlockWrite w ws b).ac = s.ac ∧ (s.endBlockWrite w ws b).pu = s.pu ∧
    (s.endBlockWrite w ws b).rs.lastSequence = s.rs.lastSequence ∧
    (s.endBlockWrite w ws b).rs.writePosition = s.rs.writePosition ∧
    (s.endBlockWrite w ws b).rs.full = s.rs.full ∧ (s.endBlockWrite w ws b).rs.fault = s.rs.fault ∧
    (s.endBlockWrite w ws b).rs.commitQueue = s.rs.commitQueue ∧
    (s.endBlockWrite w ws b).rs.commit = s.rs.commit ∧
    (s.endBlockWrite w ws b).rs.readPointer = s.rs.readPointer ∧
    (s.endBlockWrite w ws b).rs.target = s.rs.target ∧
    (s.endBlockWrite w ws b).rs.supplyLow = s.rs.supplyLow ∧
    (s.endBlockWrite w ws b).rs.supplyBelow = s.rs.supplyBelow ∧
    (s.endBlockWrite w ws b).rs.working = s.rs.working ∧
    (s.endBlockWrite w ws b).rs.statusTimer = s.rs.statusTimer ∧
    (s.endBlockWrite w ws b).nv.slots = s.nv.slots ∧
    (s.endBlockWrite w ws b).nv.startCounter = s.nv.startCounter ∧
    (s.endBlockWrite w ws b).nv.factory = s.nv.factory ∧ (s.endBlockWrite w ws b).free = s.free ∧
    (s.endBlockWrite w ws b).pending = s.pending := by
  dsimp only [State.endBlockWrite]; (repeat' split) <;> simp

/-- What `State.cutBlockWrite` leaves unchanged. -/
@[simp] theorem State.cutBlockWrite_frame (s : State) :
    (s.cutBlockWrite).boot = s.boot ∧ (s.cutBlockWrite).cfg = s.cfg ∧
    (s.cutBlockWrite).li.idle = s.li.idle ∧ (s.cutBlockWrite).li.receiver = s.li.receiver ∧
    (s.cutBlockWrite).li.transmitter = s.li.transmitter ∧
    (s.cutBlockWrite).li.lastHazard = s.li.lastHazard ∧ (s.cutBlockWrite).pt = s.pt ∧
    (s.cutBlockWrite).ms = s.ms ∧ (s.cutBlockWrite).sq = s.sq ∧ (s.cutBlockWrite).ch = s.ch ∧
    (s.cutBlockWrite).mu = s.mu ∧ (s.cutBlockWrite).ac = s.ac ∧ (s.cutBlockWrite).pu = s.pu ∧
    (s.cutBlockWrite).rs.lastSequence = s.rs.lastSequence ∧
    (s.cutBlockWrite).rs.writePosition = s.rs.writePosition ∧ (s.cutBlockWrite).rs.full = s.rs.full ∧
    (s.cutBlockWrite).rs.fault = s.rs.fault ∧ (s.cutBlockWrite).rs.commitQueue = s.rs.commitQueue ∧
    (s.cutBlockWrite).rs.commit = s.rs.commit ∧ (s.cutBlockWrite).rs.readPointer = s.rs.readPointer ∧
    (s.cutBlockWrite).rs.target = s.rs.target ∧ (s.cutBlockWrite).rs.supplyLow = s.rs.supplyLow ∧
    (s.cutBlockWrite).rs.supplyBelow = s.rs.supplyBelow ∧
    (s.cutBlockWrite).rs.working = s.rs.working ∧ (s.cutBlockWrite).rs.statusTimer = s.rs.statusTimer ∧
    (s.cutBlockWrite).nv.slots = s.nv.slots ∧ (s.cutBlockWrite).nv.startCounter = s.nv.startCounter ∧
    (s.cutBlockWrite).nv.factory = s.nv.factory ∧ (s.cutBlockWrite).pending = s.pending := by
  dsimp only [State.cutBlockWrite]; (repeat' split) <;> simp

/-- What `State.sendServiceStatus` leaves unchanged. -/
@[simp] theorem State.sendServiceStatus_frame (s : State) :
    (s.sendServiceStatus).boot = s.boot ∧ (s.sendServiceStatus).cfg = s.cfg ∧
    (s.sendServiceStatus).li.idle = s.li.idle ∧ (s.sendServiceStatus).li.receiver = s.li.receiver ∧
    (s.sendServiceStatus).li.transmitter = s.li.transmitter ∧
    (s.sendServiceStatus).li.lastHazard = s.li.lastHazard ∧ (s.sendServiceStatus).pt = s.pt ∧
    (s.sendServiceStatus).ms = s.ms ∧ (s.sendServiceStatus).sq = s.sq ∧ (s.sendServiceStatus).ch = s.ch ∧
    (s.sendServiceStatus).mu = s.mu ∧ (s.sendServiceStatus).ac = s.ac ∧ (s.sendServiceStatus).pu = s.pu ∧
    (s.sendServiceStatus).rs.lastSequence = s.rs.lastSequence ∧
    (s.sendServiceStatus).rs.writePosition = s.rs.writePosition ∧
    (s.sendServiceStatus).rs.full = s.rs.full ∧ (s.sendServiceStatus).rs.fault = s.rs.fault ∧
    (s.sendServiceStatus).rs.commitQueue = s.rs.commitQueue ∧
    (s.sendServiceStatus).rs.commit = s.rs.commit ∧
    (s.sendServiceStatus).rs.readPointer = s.rs.readPointer ∧
    (s.sendServiceStatus).rs.target = s.rs.target ∧ (s.sendServiceStatus).rs.supplyLow = s.rs.supplyLow ∧
    (s.sendServiceStatus).rs.supplyBelow = s.rs.supplyBelow ∧
    (s.sendServiceStatus).rs.lock = s.rs.lock ∧ (s.sendServiceStatus).rs.working = s.rs.working ∧
    (s.sendServiceStatus).rs.idle = s.rs.idle ∧ (s.sendServiceStatus).rs.blockWrite = s.rs.blockWrite ∧
    (s.sendServiceStatus).nv = s.nv ∧ (s.sendServiceStatus).free = s.free ∧
    (s.sendServiceStatus).pending = s.pending := by
  simp [State.sendServiceStatus]

/-- What `State.cutCommit` leaves unchanged. -/
@[simp] theorem State.cutCommit_frame (s : State) :
    (s.cutCommit).boot = s.boot ∧ (s.cutCommit).cfg = s.cfg ∧ (s.cutCommit).li = s.li ∧
    (s.cutCommit).pt = s.pt ∧ (s.cutCommit).ms = s.ms ∧ (s.cutCommit).sq = s.sq ∧ (s.cutCommit).ch = s.ch ∧
    (s.cutCommit).mu = s.mu ∧ (s.cutCommit).ac = s.ac ∧ (s.cutCommit).pu = s.pu ∧ (s.cutCommit).rs = s.rs ∧
    (s.cutCommit).nv.block = s.nv.block ∧ (s.cutCommit).nv.startCounter = s.nv.startCounter ∧
    (s.cutCommit).nv.factory = s.nv.factory ∧ (s.cutCommit).pending = s.pending := by
  dsimp only [State.cutCommit]; (repeat' split) <;> simp

/-- What `State.cutBlockAtStart` leaves unchanged. -/
@[simp] theorem State.cutBlockAtStart_frame (s : State) :
    (s.cutBlockAtStart).boot = s.boot ∧ (s.cutBlockAtStart).cfg = s.cfg ∧ (s.cutBlockAtStart).li = s.li ∧
    (s.cutBlockAtStart).pt = s.pt ∧ (s.cutBlockAtStart).ms = s.ms ∧ (s.cutBlockAtStart).sq = s.sq ∧
    (s.cutBlockAtStart).ch = s.ch ∧ (s.cutBlockAtStart).mu = s.mu ∧ (s.cutBlockAtStart).ac = s.ac ∧
    (s.cutBlockAtStart).pu = s.pu ∧ (s.cutBlockAtStart).rs = s.rs ∧
    (s.cutBlockAtStart).nv.slots = s.nv.slots ∧ (s.cutBlockAtStart).nv.startCounter = s.nv.startCounter ∧
    (s.cutBlockAtStart).nv.factory = s.nv.factory ∧ (s.cutBlockAtStart).pending = s.pending := by
  dsimp only [State.cutBlockAtStart]; (repeat' split) <;> simp

/-- What the entry of the start hold keeps: the nonvolatile memory but for what it cuts off, and the waiting
commands. Everything else stands at its value after start. -/
theorem State.enterHold_eq (s : State) (cause : StartCause) :
    s.enterHold cause = { boot := { phase := .hold, cause := cause }
                          rs := { supplyBelow := s.rs.supplyBelow }
                          nv := (s.enterHold cause).nv
                          free := (s.enterHold cause).free, pending := s.pending } := by
  simp [State.enterHold, State.emptied]

/-- The entry of the start hold leaves the start counter and the factory block, and with no write under way the
slots and the configuration block. -/
theorem State.enterHold_nv (s : State) (cause : StartCause) :
    (s.enterHold cause).nv.startCounter = s.nv.startCounter ∧ (s.enterHold cause).nv.factory = s.nv.factory
    ∧ (s.rs.commit = none → (s.enterHold cause).nv.slots = s.nv.slots)
    ∧ (s.rs.blockWrite = none → (s.enterHold cause).nv.block = s.nv.block) := by
  refine ⟨by simp [State.enterHold, State.emptied], by simp [State.enterHold, State.emptied],
    fun h => ?_, fun h => ?_⟩
  · simp [State.enterHold, State.emptied, State.cutCommit, h]
  · have h' : s.cutCommit.rs.blockWrite = none := by simp [h]
    simp only [State.enterHold, State.emptied, State.cutBlockAtStart, h']
    simp

/-- The supply found in the hold changes that mark alone. -/
@[simp] theorem State.findSupply_frame (s : State) (d : Nat) :
    (s.findSupply d).boot = s.boot ∧ (s.findSupply d).cfg = s.cfg ∧ (s.findSupply d).li = s.li ∧
    (s.findSupply d).pt = s.pt ∧ (s.findSupply d).ms = s.ms ∧ (s.findSupply d).sq = s.sq ∧
    (s.findSupply d).ch = s.ch ∧ (s.findSupply d).mu = s.mu ∧ (s.findSupply d).ac = s.ac ∧
    (s.findSupply d).pu = s.pu ∧ (s.findSupply d).nv = s.nv ∧ (s.findSupply d).free = s.free ∧
    (s.findSupply d).pending = s.pending ∧
    (s.findSupply d).rs = { s.rs with supplyBelow := decide (d < 180) } := by
  exact ⟨rfl, rfl, rfl, rfl, rfl, rfl, rfl, rfl, rfl, rfl, rfl, rfl, rfl, rfl⟩

/-- What `State.checkFactory` leaves unchanged. -/
@[simp] theorem State.checkFactory_frame (s : State) :
    (s.checkFactory).cfg = s.cfg ∧ (s.checkFactory).li = s.li ∧ (s.checkFactory).pt = s.pt ∧
    (s.checkFactory).ms = s.ms ∧ (s.checkFactory).sq = s.sq ∧ (s.checkFactory).ch = s.ch ∧
    (s.checkFactory).mu = s.mu ∧ (s.checkFactory).ac = s.ac ∧ (s.checkFactory).pu.sources = s.pu.sources ∧
    (s.checkFactory).rs = s.rs ∧ (s.checkFactory).nv = s.nv ∧ (s.checkFactory).free = s.free ∧
    (s.checkFactory).pending = s.pending := by
  dsimp only [State.checkFactory]; (repeat' split) <;> simp

/-- What `State.loadConfig` leaves unchanged. -/
@[simp] theorem State.loadConfig_frame (s : State) :
    (s.loadConfig).li = s.li ∧ (s.loadConfig).pt = s.pt ∧ (s.loadConfig).ms = s.ms ∧
    (s.loadConfig).sq = s.sq ∧ (s.loadConfig).ch = s.ch ∧ (s.loadConfig).mu = s.mu ∧
    (s.loadConfig).ac = s.ac ∧ (s.loadConfig).pu = s.pu ∧ (s.loadConfig).rs = s.rs ∧
    (s.loadConfig).nv = s.nv ∧ (s.loadConfig).free = s.free ∧ (s.loadConfig).pending = s.pending := by
  dsimp only [State.loadConfig]; (repeat' split) <;> simp

/-- What `State.enterService` leaves unchanged. -/
@[simp] theorem State.enterService_frame (s : State) :
    (s.enterService).li = s.li ∧ (s.enterService).pt = s.pt ∧ (s.enterService).ms = s.ms ∧
    (s.enterService).sq = s.sq ∧ (s.enterService).ch = s.ch ∧ (s.enterService).mu = s.mu ∧
    (s.enterService).ac = s.ac ∧ (s.enterService).pu = s.pu ∧
    (s.enterService).rs.lastSequence = s.rs.lastSequence ∧
    (s.enterService).rs.writePosition = s.rs.writePosition ∧ (s.enterService).rs.full = s.rs.full ∧
    (s.enterService).rs.fault = s.rs.fault ∧ (s.enterService).rs.commitQueue = s.rs.commitQueue ∧
    (s.enterService).rs.commit = s.rs.commit ∧ (s.enterService).rs.readPointer = s.rs.readPointer ∧
    (s.enterService).rs.target = s.rs.target ∧ (s.enterService).rs.supplyLow = s.rs.supplyLow ∧
    (s.enterService).rs.supplyBelow = s.rs.supplyBelow ∧
    (s.enterService).rs.blockWrite = s.rs.blockWrite ∧ (s.enterService).nv = s.nv ∧
    (s.enterService).free = s.free ∧ (s.enterService).pending = s.pending := by
  simp [State.enterService]

/-- What `State.enterConfigFault` leaves unchanged. -/
@[simp] theorem State.enterConfigFault_frame (s : State) :
    (s.enterConfigFault).li = s.li ∧ (s.enterConfigFault).pt = s.pt ∧ (s.enterConfigFault).ms = s.ms ∧
    (s.enterConfigFault).sq = s.sq ∧ (s.enterConfigFault).ch = s.ch ∧ (s.enterConfigFault).mu = s.mu ∧
    (s.enterConfigFault).ac = s.ac ∧ (s.enterConfigFault).pu.sources = s.pu.sources ∧
    (s.enterConfigFault).rs.lastSequence = s.rs.lastSequence ∧
    (s.enterConfigFault).rs.writePosition = s.rs.writePosition ∧ (s.enterConfigFault).rs.full = s.rs.full ∧
    (s.enterConfigFault).rs.fault = s.rs.fault ∧ (s.enterConfigFault).rs.commitQueue = s.rs.commitQueue ∧
    (s.enterConfigFault).rs.commit = s.rs.commit ∧ (s.enterConfigFault).rs.readPointer = s.rs.readPointer ∧
    (s.enterConfigFault).rs.target = s.rs.target ∧ (s.enterConfigFault).rs.supplyLow = s.rs.supplyLow ∧
    (s.enterConfigFault).rs.supplyBelow = s.rs.supplyBelow ∧
    (s.enterConfigFault).rs.lock = s.rs.lock ∧ (s.enterConfigFault).rs.working = s.rs.working ∧
    (s.enterConfigFault).rs.idle = s.rs.idle ∧ (s.enterConfigFault).rs.blockWrite = s.rs.blockWrite ∧
    (s.enterConfigFault).nv = s.nv ∧ (s.enterConfigFault).free = s.free ∧
    (s.enterConfigFault).pending = s.pending := by
  simp [State.enterConfigFault]

/-- What `State.scan` leaves unchanged. -/
@[simp] theorem State.scan_frame (s : State) :
    (s.scan).boot = s.boot ∧ (s.scan).cfg = s.cfg ∧ (s.scan).li = s.li ∧ (s.scan).pt = s.pt ∧
    (s.scan).ms = s.ms ∧ (s.scan).sq = s.sq ∧ (s.scan).ch = s.ch ∧ (s.scan).mu = s.mu ∧ (s.scan).ac = s.ac ∧
    (s.scan).pu.sources = s.pu.sources ∧ (s.scan).rs.fault = s.rs.fault ∧
    (s.scan).rs.commitQueue = s.rs.commitQueue ∧ (s.scan).rs.commit = s.rs.commit ∧
    (s.scan).rs.readPointer = s.rs.readPointer ∧ (s.scan).rs.target = s.rs.target ∧
    (s.scan).rs.supplyLow = s.rs.supplyLow ∧ (s.scan).rs.supplyBelow = s.rs.supplyBelow ∧
    (s.scan).rs.lock = s.rs.lock ∧
    (s.scan).rs.working = s.rs.working ∧ (s.scan).rs.idle = s.rs.idle ∧
    (s.scan).rs.statusTimer = s.rs.statusTimer ∧ (s.scan).rs.blockWrite = s.rs.blockWrite ∧
    (s.scan).nv = s.nv ∧ (s.scan).free = s.free ∧ (s.scan).pending = s.pending := by
  dsimp only [State.scan]; (repeat' split) <;> simp

/-- What `State.raiseCounter` leaves unchanged. -/
@[simp] theorem State.raiseCounter_frame (s : State) :
    (s.raiseCounter).boot = s.boot ∧ (s.raiseCounter).cfg = s.cfg ∧ (s.raiseCounter).li = s.li ∧
    (s.raiseCounter).pt = s.pt ∧ (s.raiseCounter).ms = s.ms ∧ (s.raiseCounter).sq = s.sq ∧
    (s.raiseCounter).ch = s.ch ∧ (s.raiseCounter).mu = s.mu ∧ (s.raiseCounter).ac = s.ac ∧
    (s.raiseCounter).pu = s.pu ∧ (s.raiseCounter).rs = s.rs ∧ (s.raiseCounter).nv.slots = s.nv.slots ∧
    (s.raiseCounter).nv.block = s.nv.block ∧ (s.raiseCounter).nv.factory = s.nv.factory ∧
    (s.raiseCounter).free = s.free ∧ (s.raiseCounter).pending = s.pending := by
  simp [State.raiseCounter]

/-- What `State.armContinuous` leaves unchanged. -/
@[simp] theorem State.armContinuous_frame (s : State) :
    (s.armContinuous).boot.phase = s.boot.phase ∧ (s.armContinuous).boot.cause = s.boot.cause ∧
    (s.armContinuous).boot.address = s.boot.address ∧ (s.armContinuous).boot.factoryOk = s.boot.factoryOk ∧
    (s.armContinuous).boot.joining = s.boot.joining ∧ (s.armContinuous).cfg = s.cfg ∧
    (s.armContinuous).li = s.li ∧ (s.armContinuous).pt = s.pt ∧ (s.armContinuous).ms = s.ms ∧
    (s.armContinuous).sq = s.sq ∧ (s.armContinuous).ch = s.ch ∧ (s.armContinuous).mu.ch = s.mu.ch ∧
    (s.armContinuous).mu.filters = s.mu.filters ∧ (s.armContinuous).mu.discA = s.mu.discA ∧
    (s.armContinuous).mu.discB = s.mu.discB ∧ (s.armContinuous).mu.presentA = s.mu.presentA ∧
    (s.armContinuous).mu.presentB = s.mu.presentB ∧ (s.armContinuous).mu.window = s.mu.window ∧
    (s.armContinuous).mu.zero = s.mu.zero ∧ (s.armContinuous).mu.zeroRejected = s.mu.zeroRejected ∧
    (s.armContinuous).ac = s.ac ∧ (s.armContinuous).pu = s.pu ∧ (s.armContinuous).rs = s.rs ∧
    (s.armContinuous).nv = s.nv ∧ (s.armContinuous).free = s.free ∧ (s.armContinuous).pending = s.pending := by
  simp [State.armContinuous]

/-- What `State.normalStart` leaves unchanged. -/
@[simp] theorem State.normalStart_frame (s : State) :
    (s.normalStart).li = s.li ∧ (s.normalStart).pt = s.pt ∧ (s.normalStart).ms = s.ms ∧
    (s.normalStart).sq = s.sq ∧ (s.normalStart).ch = s.ch ∧ (s.normalStart).mu.ch = s.mu.ch ∧
    (s.normalStart).mu.filters = s.mu.filters ∧ (s.normalStart).mu.discA = s.mu.discA ∧
    (s.normalStart).mu.discB = s.mu.discB ∧ (s.normalStart).mu.presentA = s.mu.presentA ∧
    (s.normalStart).mu.presentB = s.mu.presentB ∧ (s.normalStart).mu.window = s.mu.window ∧
    (s.normalStart).mu.zero = s.mu.zero ∧ (s.normalStart).mu.zeroRejected = s.mu.zeroRejected ∧
    (s.normalStart).ac = s.ac ∧ (s.normalStart).pu.sources = s.pu.sources ∧
    (s.normalStart).rs.fault = s.rs.fault ∧ (s.normalStart).rs.commitQueue = s.rs.commitQueue ∧
    (s.normalStart).rs.commit = s.rs.commit ∧ (s.normalStart).rs.readPointer = s.rs.readPointer ∧
    (s.normalStart).rs.target = s.rs.target ∧ (s.normalStart).rs.supplyLow = s.rs.supplyLow ∧
    (s.normalStart).rs.supplyBelow = s.rs.supplyBelow ∧
    (s.normalStart).rs.lock = s.rs.lock ∧ (s.normalStart).rs.working = s.rs.working ∧
    (s.normalStart).rs.idle = s.rs.idle ∧ (s.normalStart).rs.statusTimer = s.rs.statusTimer ∧
    (s.normalStart).rs.blockWrite = s.rs.blockWrite ∧ (s.normalStart).nv.slots = s.nv.slots ∧
    (s.normalStart).nv.block = s.nv.block ∧ (s.normalStart).nv.factory = s.nv.factory ∧
    (s.normalStart).free = s.free ∧ (s.normalStart).pending = s.pending := by
  simp [State.normalStart]

/-- What `State.afterStrap` leaves unchanged. -/
@[simp] theorem State.afterStrap_frame (s : State) :
    (s.afterStrap).li = s.li ∧ (s.afterStrap).pt = s.pt ∧ (s.afterStrap).ms = s.ms ∧ (s.afterStrap).sq = s.sq ∧
    (s.afterStrap).ch = s.ch ∧ (s.afterStrap).mu.ch = s.mu.ch ∧ (s.afterStrap).mu.filters = s.mu.filters ∧
    (s.afterStrap).mu.discA = s.mu.discA ∧ (s.afterStrap).mu.discB = s.mu.discB ∧
    (s.afterStrap).mu.presentA = s.mu.presentA ∧ (s.afterStrap).mu.presentB = s.mu.presentB ∧
    (s.afterStrap).mu.window = s.mu.window ∧ (s.afterStrap).mu.zero = s.mu.zero ∧
    (s.afterStrap).mu.zeroRejected = s.mu.zeroRejected ∧ (s.afterStrap).ac = s.ac ∧
    (s.afterStrap).pu.sources = s.pu.sources ∧ (s.afterStrap).rs.fault = s.rs.fault ∧
    (s.afterStrap).rs.commitQueue = s.rs.commitQueue ∧ (s.afterStrap).rs.commit = s.rs.commit ∧
    (s.afterStrap).rs.readPointer = s.rs.readPointer ∧ (s.afterStrap).rs.target = s.rs.target ∧
    (s.afterStrap).rs.supplyLow = s.rs.supplyLow ∧ (s.afterStrap).rs.supplyBelow = s.rs.supplyBelow ∧
    (s.afterStrap).rs.blockWrite = s.rs.blockWrite ∧
    (s.afterStrap).nv.slots = s.nv.slots ∧ (s.afterStrap).nv.block = s.nv.block ∧
    (s.afterStrap).nv.factory = s.nv.factory ∧ (s.afterStrap).free = s.free ∧
    (s.afterStrap).pending = s.pending := by
  dsimp only [State.afterStrap]; (repeat' split) <;> simp

/-- What `State.enterRun` leaves unchanged. -/
@[simp] theorem State.enterRun_frame (s : State) :
    (s.enterRun).cfg = s.cfg ∧ (s.enterRun).li.idle = s.li.idle ∧ (s.enterRun).li.receiver = s.li.receiver ∧
    (s.enterRun).li.transmitter = s.li.transmitter ∧ (s.enterRun).li.lastHazard = s.li.lastHazard ∧
    (s.enterRun).pt = s.pt ∧ (s.enterRun).ms.listA = s.ms.listA ∧ (s.enterRun).ms.listB = s.ms.listB ∧
    (s.enterRun).ms.marks = s.ms.marks ∧ (s.enterRun).ms.backoff = s.ms.backoff ∧
    (s.enterRun).ms.call = s.ms.call ∧ (s.enterRun).sq = s.sq ∧ (s.enterRun).ch.cls = s.ch.cls ∧
    (s.enterRun).ch.door = s.ch.door ∧ (s.enterRun).ch.doorOpen = s.ch.doorOpen ∧
    (s.enterRun).ch.sweepWait = s.ch.sweepWait ∧ (s.enterRun).ch.sweep = s.ch.sweep ∧
    (s.enterRun).ch.sweepRetry = s.ch.sweepRetry ∧ (s.enterRun).ch.path = s.ch.path ∧
    (s.enterRun).mu.ch = s.mu.ch ∧ (s.enterRun).mu.filters = s.mu.filters ∧
    (s.enterRun).mu.cmp.pulldown = s.mu.cmp.pulldown ∧
    (s.enterRun).mu.cmp.ambientWatch = s.mu.cmp.ambientWatch ∧
    (s.enterRun).mu.cmp.ambientStop = s.mu.cmp.ambientStop ∧
    (s.enterRun).mu.cmp.headerHigh = s.mu.cmp.headerHigh ∧
    (s.enterRun).mu.cmp.headerRecovered = s.mu.cmp.headerRecovered ∧
    (s.enterRun).mu.cmp.oxygenUnder = s.mu.cmp.oxygenUnder ∧
    (s.enterRun).mu.cmp.oxygenHigh = s.mu.cmp.oxygenHigh ∧
    (s.enterRun).mu.cmp.chamberWatch = s.mu.cmp.chamberWatch ∧
    (s.enterRun).mu.cmp.chamberStop = s.mu.cmp.chamberStop ∧
    (s.enterRun).mu.cmp.purgeNeeded = s.mu.cmp.purgeNeeded ∧
    (s.enterRun).mu.cmp.purgeClear = s.mu.cmp.purgeClear ∧ (s.enterRun).mu.cmp.quiet = s.mu.cmp.quiet ∧
    (s.enterRun).mu.discA = s.mu.discA ∧ (s.enterRun).mu.discB = s.mu.discB ∧
    (s.enterRun).mu.presentA = s.mu.presentA ∧ (s.enterRun).mu.presentB = s.mu.presentB ∧
    (s.enterRun).mu.zero = s.mu.zero ∧ (s.enterRun).mu.zeroRejected = s.mu.zeroRejected ∧
    (s.enterRun).ac.queue = s.ac.queue ∧ (s.enterRun).ac.intake = s.ac.intake ∧
    (s.enterRun).ac.chamber = s.ac.chamber ∧ (s.enterRun).ac.nextNumber = s.ac.nextNumber ∧
    (s.enterRun).pu.codes = s.pu.codes ∧ (s.enterRun).pu.sources = s.pu.sources ∧ (s.enterRun).rs = s.rs ∧
    (s.enterRun).nv = s.nv ∧ (s.enterRun).free = s.free ∧ (s.enterRun).pending = s.pending := by
  dsimp only [State.enterRun]; (repeat' split) <;> simp

/-- What `State.offerTransmitted` leaves unchanged. -/
@[simp] theorem State.offerTransmitted_frame (s : State) :
    (s.offerTransmitted).boot = s.boot ∧ (s.offerTransmitted).cfg = s.cfg ∧
    (s.offerTransmitted).li.idle = s.li.idle ∧ (s.offerTransmitted).li.receiver = s.li.receiver ∧
    (s.offerTransmitted).li.transmitter = s.li.transmitter ∧
    (s.offerTransmitted).li.lastHazard = s.li.lastHazard ∧ (s.offerTransmitted).pt = s.pt ∧
    (s.offerTransmitted).ms = s.ms ∧ (s.offerTransmitted).sq = s.sq ∧ (s.offerTransmitted).ch = s.ch ∧
    (s.offerTransmitted).mu = s.mu ∧ (s.offerTransmitted).ac.queue = s.ac.queue ∧
    (s.offerTransmitted).ac.intake = s.ac.intake ∧ (s.offerTransmitted).ac.chamber = s.ac.chamber ∧
    (s.offerTransmitted).ac.nextNumber = s.ac.nextNumber ∧ (s.offerTransmitted).pu = s.pu ∧
    (s.offerTransmitted).rs = s.rs ∧ (s.offerTransmitted).nv = s.nv ∧ (s.offerTransmitted).free = s.free ∧
    (s.offerTransmitted).pending = s.pending := by
  dsimp only [State.offerTransmitted]; (repeat' split) <;> simp

/-- What `State.ownHeard` leaves unchanged. -/
@[simp] theorem State.ownHeard_frame (s : State) (t : Telegram) :
    (s.ownHeard t).boot = s.boot ∧ (s.ownHeard t).cfg = s.cfg ∧ (s.ownHeard t).li.idle = s.li.idle ∧
    (s.ownHeard t).li.receiver = s.li.receiver ∧ (s.ownHeard t).li.transmitter = s.li.transmitter ∧
    (s.ownHeard t).li.lastHazard = s.li.lastHazard ∧ (s.ownHeard t).pt = s.pt ∧
    (s.ownHeard t).ms.own = s.ms.own ∧ (s.ownHeard t).ms.marks = s.ms.marks ∧
    (s.ownHeard t).ms.backoff = s.ms.backoff ∧ (s.ownHeard t).sq = s.sq ∧ (s.ownHeard t).ch.st = s.ch.st ∧
    (s.ownHeard t).ch.pending = s.ch.pending ∧ (s.ownHeard t).ch.cls = s.ch.cls ∧
    (s.ownHeard t).ch.door = s.ch.door ∧ (s.ownHeard t).ch.doorOpen = s.ch.doorOpen ∧
    (s.ownHeard t).ch.sweepWait = s.ch.sweepWait ∧ (s.ownHeard t).ch.sweep = s.ch.sweep ∧
    (s.ownHeard t).ch.sweepRetry = s.ch.sweepRetry ∧ (s.ownHeard t).ch.zeroDone = s.ch.zeroDone ∧
    (s.ownHeard t).mu = s.mu ∧ (s.ownHeard t).ac.queue = s.ac.queue ∧
    (s.ownHeard t).ac.intake = s.ac.intake ∧ (s.ownHeard t).ac.chamber = s.ac.chamber ∧
    (s.ownHeard t).ac.nextNumber = s.ac.nextNumber ∧ (s.ownHeard t).pu.sources = s.pu.sources ∧
    (s.ownHeard t).rs = s.rs ∧ (s.ownHeard t).nv = s.nv ∧ (s.ownHeard t).free = s.free ∧
    (s.ownHeard t).pending = s.pending := by
  dsimp only [State.ownHeard]; (repeat' split) <;> simp

end Sys2Proof.Machine
end

