-- ==== Sys2Proof/Laws/Memory.lean ====
section
/-! SUPPORT. The record store's cells: every write keeps the canonical form, a read after a write gives the value
written, a write leaves every other byte alone, and a slot with no listed cell is EMPTY. -/

namespace Sys2Proof.Machine

/-- Every address of the cells is above a bound. -/
def above (b : Nat) (m : List Host.Cell) : Prop := ∀ c ∈ m, b < c.1

/-- Canonical cells: no blank entry, and every later address above each. -/
theorem cellsWf_cons (k : Nat) (v : Byte) (m : List Host.Cell) :
    cellsWf ((k, v) :: m) = true ↔ v ≠ blankByte ∧ above k m ∧ cellsWf m = true := by
  induction m generalizing k v with
  | nil => simp [cellsWf, above]
  | cons c r ih =>
    obtain ⟨k', v'⟩ := c
    simp only [cellsWf, Bool.and_eq_true, bne_iff_ne, decide_eq_true_eq]
    constructor
    · rintro ⟨hv, hk, hr⟩
      refine ⟨hv, ?_, hr⟩
      intro c hc
      rcases List.mem_cons.mp hc with rfl | hc
      · exact hk
      · exact Nat.lt_trans hk (((ih k' v').mp hr).2.1 c hc)
    · rintro ⟨hv, ha, hr⟩
      exact ⟨hv, ha (k', v') (by simp), hr⟩

/-- An address below every listed one reads blank. -/
theorem readCell_above (m : List Host.Cell) (a : Nat) (h : above a m) : readCell m a = blankByte := by
  induction m with
  | nil => rfl
  | cons c r ih =>
    obtain ⟨k, v⟩ := c
    have hk : a < k := h (k, v) (by simp)
    have hne : a ≠ k := by omega
    simp only [readCell, if_neg hne]
    exact ih fun c hc => h c (by simp [hc])

/-- A write adds no address but its own. -/
theorem above_writeCell (b : Nat) (m : List Host.Cell) (a : Nat) (v : Byte) (h : above b m) (hb : b < a) :
    above b (writeCell m a v) := by
  induction m with
  | nil =>
    unfold writeCell
    split
    · exact h
    · intro c hc; simp at hc; subst hc; exact hb
  | cons c r ih =>
    obtain ⟨k, w⟩ := c
    have hk : b < k := h (k, w) (by simp)
    have hr : above b r := fun c hc => h c (by simp [hc])
    unfold writeCell
    (repeat' split) <;> intro c hc <;> (try simp only [List.mem_cons] at hc)
    · rcases hc with rfl | hc
      · exact hk
      · exact hr c hc
    · rcases hc with rfl | rfl | hc
      · exact hb
      · exact hk
      · exact hr c hc
    · exact hr c hc
    · rcases hc with rfl | hc
      · exact hb
      · exact hr c hc
    · rcases hc with rfl | hc
      · exact hk
      · exact ih hr c hc

/-- A write of one byte keeps the canonical form. -/
theorem writeCell_wf (m : List Host.Cell) (a : Nat) (v : Byte) (h : cellsWf m = true) :
    cellsWf (writeCell m a v) = true := by
  induction m with
  | nil =>
    unfold writeCell
    split
    · rfl
    · rename_i hv; simp [cellsWf, hv]
  | cons c r ih =>
    obtain ⟨k, w⟩ := c
    obtain ⟨hw, ha, hr⟩ := (cellsWf_cons k w r).mp h
    unfold writeCell
    split
    · rename_i hk
      split
      · exact h
      · rename_i hv
        refine (cellsWf_cons a v _).mpr ⟨hv, ?_, h⟩
        intro c hc
        rcases List.mem_cons.mp hc with rfl | hc
        · exact hk
        · exact Nat.lt_trans hk (ha c hc)
    · split
      · rename_i hk
        split
        · exact hr
        · rename_i hv
          exact (cellsWf_cons a v r).mpr ⟨hv, by rw [hk]; exact ha, hr⟩
      · exact (cellsWf_cons k w _).mpr ⟨hw, above_writeCell k r a v ha (by omega), ih hr⟩

/-- A write of several bytes keeps the canonical form. -/
theorem writeCells_wf (m : List Host.Cell) (base : Nat) (vs : List Byte) (h : cellsWf m = true) :
    cellsWf (writeCells m base vs) = true := by
  induction vs generalizing m base with
  | nil => exact h
  | cons v vs ih => exact ih _ _ (writeCell_wf m base v h)

/-- A write leaves every other address alone. -/
theorem readCell_writeCell_other (m : List Host.Cell) (a b : Nat) (v : Byte) (h : b ≠ a) :
    readCell (writeCell m a v) b = readCell m b := by
  induction m with
  | nil =>
    unfold writeCell
    split
    · rfl
    · simp [readCell, h]
  | cons c r ih =>
    obtain ⟨k, w⟩ := c
    unfold writeCell
    split
    · split
      · rfl
      · simp [readCell, h]
    · split
      · rename_i hk; subst hk
        split <;> simp [readCell, h]
      · simp [readCell, ih]

/-- A read after a write of the same address gives the value written. -/
theorem readCell_writeCell_same (m : List Host.Cell) (a : Nat) (v : Byte) (h : cellsWf m = true) :
    readCell (writeCell m a v) a = v := by
  induction m with
  | nil =>
    unfold writeCell
    split
    · rename_i hv; simp [readCell, hv]
    · simp [readCell]
  | cons c r ih =>
    obtain ⟨k, w⟩ := c
    obtain ⟨_, ha, hr⟩ := (cellsWf_cons k w r).mp h
    unfold writeCell
    split
    · rename_i hk
      split
      · rename_i hv
        rw [hv]
        exact readCell_above _ a fun c hc => by
          rcases List.mem_cons.mp hc with rfl | hc
          · exact hk
          · exact Nat.lt_trans hk (ha c hc)
      · simp [readCell]
    · split
      · rename_i hk; subst hk
        split
        · rename_i hv; rw [hv]; exact readCell_above r a ha
        · simp [readCell]
      · rename_i hk
        simp [readCell, hk, ih hr]

/-- A write of several bytes leaves every address outside them alone. -/
theorem readCell_writeCells_other (m : List Host.Cell) (base : Nat) (vs : List Byte) (b : Nat)
    (h : b < base ∨ base + vs.length ≤ b) : readCell (writeCells m base vs) b = readCell m b := by
  induction vs generalizing m base with
  | nil => rfl
  | cons v vs ih =>
    simp only [List.length_cons] at h
    simp only [writeCells]
    rw [ih _ _ (by omega), readCell_writeCell_other _ _ _ _ (by omega)]

/-- A read after a write of several bytes gives the byte written there. -/
theorem readCell_writeCells_same (m : List Host.Cell) (base : Nat) (vs : List Byte) (i : Nat)
    (h : cellsWf m = true) (hi : i < vs.length) :
    readCell (writeCells m base vs) (base + i) = vs.getD i 0 := by
  induction vs generalizing m base i with
  | nil => simp at hi
  | cons v vs ih =>
    simp only [writeCells]
    cases i with
    | zero =>
      rw [readCell_writeCells_other _ _ _ _ (by omega)]
      exact readCell_writeCell_same m base v h
    | succ j =>
      have := ih (writeCell m base v) (base + 1) j (writeCell_wf _ _ _ h) (by simpa using hi)
      rw [show base + (j + 1) = base + 1 + j by omega, this]
      simp

/-- A slot of which no cell is listed reads as 64 blank bytes, and its check word does not match: EMPTY. -/
theorem blank_slot_empty (m : List Host.Cell) (n : Nat) (h : ∀ i < 64, readCell m (64 * n + i) = blankByte) :
    slotState m n = .empty := by
  have hb : slotBytes m n = List.replicate 64 blankByte := by
    apply List.ext_getElem (by simp [slotBytes])
    intro i h1 h2
    simp only [slotBytes, List.length_map, List.length_range] at h1
    rw [List.getElem_replicate]
    simpa [slotBytes] using h i h1
  rw [slotState, hb]
  decide +kernel

end Sys2Proof.Machine
end

