-- ==== Sys2Proof/Laws/Reaction.lean ====
section
/-! SUPPORT. What SQ's reaction and the STATUS at the end of a step do to the fault code set, to DE and to the
working state of the extraction queue. -/

namespace Sys2Proof.Machine

/-! ### The fault code set -/

/-- A code put into the set is the only new member. -/
theorem mem_insertCode (a c : Nat) (l : List Nat) : a ∈ insertCode c l ↔ a = c ∨ a ∈ l := by
  induction l with
  | nil => simp [insertCode]
  | cons x xs ih =>
    unfold insertCode
    split
    · simp
    · split
      · rename_i h; simp [h]
      · simp only [List.mem_cons, ih]; tauto

/-- The set after an addition. -/
@[simp] theorem State.addCode_codes (s : State) (c : Nat) :
    (s.addCode c).pu.codes = insertCode c s.pu.codes := rfl

/-- The set after a removal. -/
@[simp] theorem State.removeCode_codes (s : State) (c : Nat) :
    (s.removeCode c).pu.codes = s.pu.codes.filter (· ≠ c) := rfl

/-- DE after an addition is what R144 makes of it. -/
theorem State.addCode_de (s : State) (c : Nat) : (s.addCode c).pu.de = (s.addCode c).driveRule := rfl

/-- DE after a removal is what R144 makes of it. -/
theorem State.removeCode_de (s : State) (c : Nat) : (s.removeCode c).pu.de = (s.removeCode c).driveRule := rfl

/-- The rule of R144 reads the phase, the modes and the code set alone. -/
theorem State.driveRule_congr {s t : State} (hb : t.boot = s.boot) (hc : t.cfg = s.cfg)
    (hp : t.pu.codes = s.pu.codes) : t.driveRule = s.driveRule := by
  simp [State.driveRule, State.inRun, State.phase, hb, hc, hp]

/-- The codes a reaction of SQ may raise: CLASS MISMATCH, MIXED ROUTING and PURGE FALLBACK. -/
def reactionCodes : List Nat := [6, 7, 25]

/-- What a part of a reaction may do to PU: other codes stay, and DE keeps agreeing with R144. -/
structure PuKept (s t : State) : Prop where
  codes : ∀ c, c ∉ reactionCodes → (c ∈ t.pu.codes ↔ c ∈ s.pu.codes)
  de : s.pu.de = s.driveRule → t.pu.de = t.driveRule

/-- No change. -/
theorem PuKept.refl (s : State) : PuKept s s := ⟨fun _ _ => Iff.rfl, id⟩

/-- A further part that leaves PU, the phase and the configuration alone. -/
theorem PuKept.step {s t u : State} (h : PuKept s t) (hb : u.boot = t.boot) (hc : u.cfg = t.cfg)
    (hp : u.pu = t.pu) : PuKept s u :=
  ⟨fun c a => by rw [hp]; exact h.codes c a, fun d => by
    rw [State.driveRule_congr hb hc (by rw [hp]), hp]; exact h.de d⟩

/-- A further part that raises one of the reaction's codes. -/
theorem PuKept.add {s t : State} (h : PuKept s t) (c : Nat) (hc : c ∈ reactionCodes) :
    PuKept s (t.addCode c) :=
  ⟨fun a ha => by
    simp only [State.addCode_codes, mem_insertCode, ← h.codes a ha]
    constructor
    · rintro (rfl | m)
      · exact absurd hc ha
      · exact m
    · exact Or.inr, fun _ => rfl⟩

/-- Two parts, one after the other. -/
theorem PuKept.trans {s t u : State} (h : PuKept s t) (k : PuKept t u) : PuKept s u :=
  ⟨fun c a => (k.codes c a).trans (h.codes c a), fun d => k.de (h.de d)⟩

/-- The route change of R62 raises code 7. -/
theorem State.routeChange_pu (s : State) : PuKept s s.routeChange := by
  have h : PuKept s ((s.setSq { s.sq with routeB := true }).onActive QueueEntry.rerouted) :=
    (PuKept.refl s).step (by simp) (by simp) (by simp)
  exact (h.add 7 (by decide)).step (by simp [State.routeChange]) (by simp [State.routeChange])
    (by simp [State.routeChange])

/-- The entry of E5 raises no code but 7. -/
theorem State.enterE5_pu (s : State) : PuKept s s.enterE5 := by
  simp only [State.enterE5]
  have h : PuKept s ((s.enterTimed .e5).setPulldown Comparator.disarm) :=
    (PuKept.refl s).step (by simp) (by simp) (by simp)
  split
  · exact h.trans (State.routeChange_pu _)
  · exact h

/-- The end of E3 raises no code but 6. -/
theorem State.endClassify_pu (s : State) : PuKept s s.endClassify := by
  have h : PuKept s (s.onActive (QueueEntry.routed s.declaredClass s.sq.detected)) :=
    (PuKept.refl s).step (by simp) (by simp) (by simp)
  simp only [State.endClassify]
  split
  · exact (h.add 6 (by decide)).step (by simp) (by simp) (by simp)
  · exact h.step (by simp) (by simp) (by simp)

/-- Nor does a seat in E4. -/
theorem State.settleE4_pu (s : State) : PuKept s s.settleE4 := by
  unfold State.settleE4
  split
  · have h : PuKept s (s.setSq { s.sq with starve := Timer.stopped }) := (PuKept.refl s).step rfl rfl rfl
    exact PuKept.step (h.trans (State.enterE5_pu _)) (by simp) (by simp) (by simp)
  · exact PuKept.refl s

/-- The reaction at an EXTRACTION station raises no code but 6 and 7. -/
theorem State.settleExtraction_pu (s : State) : PuKept s s.settleExtraction := by
  unfold State.settleExtraction
  have h (t : State) (k : PuKept s t) : PuKept s t.settleStarve := k.step (by simp) (by simp) (by simp)
  apply h
  split
  · exact PuKept.step (PuKept.refl s) (by simp) (by simp) (by simp)
  · exact PuKept.step (PuKept.refl s) (by simp) (by simp) (by simp)
  · simp only [State.settleE3]
    have h (x : Sequence) : PuKept s (s.setSq x) :=
      PuKept.step (PuKept.refl s) (by simp) (by simp) (by simp)
    split
    · exact (h _).trans (State.endClassify_pu _)
    · exact h _
  · exact s.settleE4_pu
  · exact PuKept.step (PuKept.refl s) (by simp) (by simp) (by simp)
  · exact PuKept.step (PuKept.refl s) (by simp) (by simp) (by simp)
  · exact PuKept.refl s
  · exact PuKept.refl s

/-- The move of the purge path to VENT raises no code but 25. -/
theorem State.pathToVent_pu (s : State) : PuKept s s.pathToVent := by
  have h : PuKept s (s.setCh { s.ch with path := .vent }) := (PuKept.refl s).step rfl rfl rfl
  exact h.add 25 (by decide)

/-- A change of the chamber's state raises no code but 25. -/
theorem State.chamberMove_pu (s t : State) (h : s.chamberMove = some t) : PuKept s t := by
  unfold State.chamberMove at h
  (repeat' split at h) <;> cases h <;> first
    | exact State.pathToVent_pu s
    | exact PuKept.step (PuKept.refl s) (by simp) (by simp) (by simp)

/-- Neither do several, one after another. -/
theorem State.chamberMoves_pu (n : Nat) (s : State) : PuKept s (State.chamberMoves n s) := by
  induction n generalizing s with
  | zero => exact PuKept.refl s
  | succ n ih =>
    unfold State.chamberMoves
    split
    · rename_i t h
      exact (s.chamberMove_pu t h).trans (ih t)
    · exact PuKept.refl s

/-- The chamber's reaction raises no code but 25. -/
theorem State.settleChamber_pu (s : State) : PuKept s s.settleChamber := by
  unfold State.settleChamber
  split
  · exact PuKept.refl s
  · exact PuKept.step (s.chamberMoves_pu 6) (by simp) (by simp) (by simp)

/-- SQ's reaction in either role. -/
theorem State.settle_pu (s : State) : PuKept s s.settle := by
  unfold State.settle
  split
  · exact s.settleChamber_pu
  · exact s.settleExtraction_pu

/-- The end of a step: only the codes of SQ's reaction may come into the set, and DE keeps its rule. -/
theorem State.concludeIf_pu (s : State) (b : Bool) (old : State) : PuKept s (s.concludeIf b old) :=
  PuKept.step s.settle_pu (by simp [State.concludeIf]) (by simp [State.concludeIf])
    (by simp [State.concludeIf])

/-- The same for a step without a change before SQ follows. -/
theorem State.conclude_pu (s old : State) : PuKept s (s.conclude old) := s.concludeIf_pu false old

/-! ### The extraction queue -/

/-- An equal queue has equal working states. -/
theorem State.queueWork_congr {s t : State} (h : t.ac.queue = s.ac.queue) : t.queueWork = s.queueWork := by
  simp [State.queueWork, h]

/-- A change of the ACTIVE account that leaves its working state alone. -/
theorem State.onActive_work (s : State) (f : QueueEntry → QueueEntry) (hf : ∀ e, (f e).work = e.work) :
    (s.onActive f).queueWork = s.queueWork := by
  simp only [State.queueWork, State.onActive, State.setQueue, State.setAc_ac, List.map_map]
  apply List.map_congr_left
  intro e _
  simp only [Function.comp]
  split
  · exact hf e
  · rfl

/-- The route change of R62 touches no working state. -/
theorem State.routeChange_work (s : State) : s.routeChange.queueWork = s.queueWork := by
  have h : ((s.setSq { s.sq with routeB := true }).onActive QueueEntry.rerouted).queueWork = s.queueWork :=
    (State.onActive_work _ QueueEntry.rerouted fun e => rfl).trans (State.queueWork_congr rfl)
  exact (State.queueWork_congr (by simp [State.routeChange])).trans h

/-- Neither does the entry of E5. -/
theorem State.enterE5_work (s : State) : s.enterE5.queueWork = s.queueWork := by
  simp only [State.enterE5]
  split
  · exact (State.routeChange_work _).trans (State.queueWork_congr (by simp))
  · exact State.queueWork_congr (by simp)

/-- Nor the end of E3. -/
theorem State.endClassify_work (s : State) : s.endClassify.queueWork = s.queueWork := by
  have h := State.onActive_work s (QueueEntry.routed s.declaredClass s.sq.detected) (fun e => rfl)
  simp only [State.endClassify]
  split <;> exact (State.queueWork_congr (by simp)).trans h

/-- Nor a seat in E4. -/
theorem State.settleE4_work (s : State) : s.settleE4.queueWork = s.queueWork := by
  unfold State.settleE4
  split
  · have h : (s.setSq { s.sq with starve := Timer.stopped }).enterE5.queueWork = s.queueWork :=
      (State.enterE5_work _).trans (State.queueWork_congr rfl)
    exact (State.queueWork_congr (by simp)).trans h
  · rfl

/-- The starvation timer leaves the queue. -/
theorem State.settleStarve_queue (s : State) : s.settleStarve.ac.queue = s.ac.queue := by simp

/-- SQ's reaction touches no working state of the extraction queue. -/
theorem State.settle_work (s : State) : s.settle.queueWork = s.queueWork := by
  unfold State.settle
  split
  · exact State.queueWork_congr (by simp)
  · unfold State.settleExtraction
    refine (State.queueWork_congr (State.settleStarve_queue _)).trans ?_
    split
    · exact State.queueWork_congr (by simp)
    · exact State.queueWork_congr (by simp)
    · simp only [State.settleE3]
      split
      · exact (State.endClassify_work _).trans (State.queueWork_congr (by simp))
      · exact State.queueWork_congr (by simp)
    · exact s.settleE4_work
    · exact State.queueWork_congr (by simp)
    · exact State.queueWork_congr (by simp)
    · rfl
    · rfl

/-- The end of a step touches no working state of the extraction queue. -/
theorem State.conclude_work (s old : State) : (s.conclude old).queueWork = s.queueWork := by
  unfold State.conclude State.concludeIf
  exact (State.queueWork_congr (by simp)).trans s.settle_work

/-! ### Steps in which SQ has no reaction -/

/-- At an EXTRACTION station in E0 or E7 the end of a step is the STATUS alone. -/
theorem State.conclude_rest (s old : State) (hr : s.cfg.role = .extraction)
    (h : s.sq.step = .e0 ∨ s.sq.step = .e7) : s.conclude old = s.announceIf false old := by
  have hf : s.isFoam = false := by simp [State.isFoam, hr]
  rcases h with h | h <;>
    simp [State.conclude, State.concludeIf, State.summaryMoves, State.settle, hf, State.settleExtraction,
      State.settleStarve, h]

end Sys2Proof.Machine
end

