-- ==== Sys2Proof/Tests/Slice0.lean ====
section
/-! SUPPORT. Tests: the WellFormed smoke test, the spec's worked examples, small single commands, and for each
obligation with hypotheses a witness that a concrete state meets them, clause by clause. -/

namespace Sys2Proof.Tests

open Sys2Proof Sys2Proof.Machine

set_option Elab.async false

/-! ### WellFormed refuses ill-formed commands -/

/-- A telegram of this many zero bytes from station 3 to all. -/
def zeros (n : Nat) : Frame := ⟨3, 31, List.replicate n 0⟩

theorem test_long_payload_refused : (Instr.status (zeros 49)).wf = false := by decide
theorem test_longest_payload_accepted : (Instr.offer (zeros 48)).wf = true := by decide
theorem test_known_kind_code_refused : (Instr.kindCodeNotInTable 0x10 (zeros 0)).wf = false := by decide
theorem test_unknown_kind_code_accepted : (Instr.kindCodeNotInTable 0x11 (zeros 0)).wf = true := by decide
theorem test_bad_origin_refused : (Instr.carryOverExpiry ⟨24, 0, 1⟩).wf = false := by decide
theorem test_bad_count_refused : (Instr.carryOverExpiry ⟨23, 256, 1⟩).wf = false := by decide
theorem test_number_zero_refused : (Instr.carryOverExpiry ⟨0, 0, 0⟩).wf = false := by decide
theorem test_number_above_refused : (Instr.carryOverExpiry ⟨0, 0, 65536⟩).wf = false := by decide
theorem test_short_block_refused : (Instr.configCommitVerify (List.replicate 55 0)).wf = false := by decide
theorem test_short_slot_refused : (Instr.commitVerify (List.replicate 63 0)).wf = false := by decide

/-! ### The table gives no bits -/

theorem test_no_word_spells_a_command : decodeTableWord 16 0x1234 = none := by decide

/-! ### The check word and the blocks -/

/-- The CRC of the nine characters 1 to 9 with this polynomial and initial value, a published check value. -/
theorem test_check_word_of_digits :
    checkWord [0x31, 0x32, 0x33, 0x34, 0x35, 0x36, 0x37, 0x38, 0x39] = 0xAEE7 := by decide +kernel
theorem test_default_block_valid : blockValid defaultBlock = true := by decide +kernel
theorem test_default_block_is_the_defaults : settingsOf defaultBlock = {} := by decide +kernel
theorem test_default_factory_valid : factoryValid defaultFactory = true := by decide +kernel
/-- R157, R178: SYNC, kind, source, destination, length, payload. -/
theorem test_frame_layout :
    (frameBytes .claim ⟨4, 31, [1, 1, 0, 0, 120]⟩).take 10 = [0xC9, 0x20, 4, 31, 5, 1, 1, 0, 0, 120] := by
  decide
theorem test_own_frame_is_valid :
    receptionDiscarded ⟨frameBytes .claim ⟨4, 31, [1, 1, 0, 0, 120]⟩, false, false⟩ = false := by
  decide +kernel
theorem test_bad_check_word_is_discarded :
    receptionDiscarded ⟨(frameBytes .claim ⟨4, 31, [1, 1, 0, 0, 120]⟩).set 5 2, false, false⟩ = true := by
  decide +kernel
theorem test_blank_slot_reads_empty : slotState [] 5 = .empty := by decide +kernel

/-! ### Worked examples of the spec -/

/-- Section 1.10, cases a to h. -/
theorem test_outcomes :
    outcomeOf true true 0 (some 0) 900 = .abandoned ∧ outcomeOf false true 12 (some 10) 900 = .empty
    ∧ outcomeOf false true 35 none 900 = .unrated ∧ outcomeOf false false 12 none 900 = .unrated
    ∧ outcomeOf false false 1386 (some 990) 900 = .complete
    ∧ outcomeOf false false 1000 (some 714) 900 = .short
    ∧ outcomeOf false false 12 (some 10) 900 = .short ∧ outcomeOf false true 19 none 900 = .empty := by decide
/-- Section 2.8: the sums 1,312 and 70,432. -/
theorem test_zero_accepted_and_rejected :
    zeroOf ⟨true, 32, 1312, false, 0⟩ = some 41 ∧ zeroOf ⟨true, 32, 70432, false, 0⟩ = none
    ∧ zeroOf ⟨true, 32, 1312, true, 0⟩ = none := by decide
/-- Section 2.8: increments with z = 41. -/
theorem test_increments :
    increment 1200 41 = 1159 ∧ increment 41 41 = 0 ∧ increment 30 41 = 0 ∧ increment 65535 41 = 65494
    ∧ increment 1000 41 = 959 := by decide
/-- Section 2.8, cases 1 and 2. -/
theorem test_masses_and_yields :
    massOf 13862400 = 1386 ∧ yieldOf 1386 1400 = 990 ∧ massOf 1205500 = 121 ∧ massOf 10395600 = 1040
    ∧ massOf 11601100 = 1160 ∧ yieldOf 1160 1250 = 928 := by decide

/-- An unseated entry of station `a`. -/
def waits (a : Nat) (role : Role) (c : ClaimClass) (d : Nat) : ClaimEntry := ⟨a, role, c, d, false⟩
/-- A run on route A with 300 g/min, the receiver accepting. -/
def runA (l : List ClaimEntry) : List ClaimEntry := seatRun .A 300 true false .noHazard l
/-- Stations 3, 5 and 7 after their CLAIMs of section 5.7. -/
def three : List ClaimEntry :=
  runA (joinList (waits 7 .extraction .ordinary 120) (runA (joinList (waits 5 .extraction .ordinary 120)
    (runA (joinList (waits 3 .extraction .ordinary 120) [])))))
/-- The claimants with their seats. -/
def seats (l : List ClaimEntry) : List (Nat × Bool) := l.map fun e => (e.claimant, e.seated)

/-- Section 5.7: station 7 waits. -/
theorem test_third_claim_waits : seats three = [(3, true), (5, true), (7, false)] := by decide
/-- Section 5.7: the PRIORITY claim of 200 displaces 5 and 3. -/
theorem test_displacement :
    seats (runA (joinList (waits 20 .foam .priority 200) three))
      = [(20, true), (3, false), (5, false), (7, false)] := by decide
/-- Section 5.7: its RELEASE seats 3 and 5 again. -/
theorem test_release_seats_again :
    seats (runA (leaveList 20 (runA (joinList (waits 20 .foam .priority 200) three))))
      = [(3, true), (5, true), (7, false)] := by decide
/-- Section 9.6: the backoffs of stations 9 and 3 after their first collision. -/
theorem test_backoffs :
    (Telegram.collided 9 ⟨.offer, 20, [], 2, 0, 0, 0⟩).backoff = 6
    ∧ (Telegram.collided 3 ⟨.claim, 31, [], 2, 0, 0, 0⟩).backoff = 10 := by decide

/-! ### Small states -/

/-- An edge of an input is due. -/
def due (up : Bool) : Filter := ⟨true, !up, up, 5⟩
/-- An input that has been on for long. -/
def isOn : Filter := ⟨true, true, true, 0⟩
/-- An expired timer. -/
def expired : Timer := ⟨.running, 0⟩
/-- An EXTRACTION station at address 0 in RUN with the gate open, following a telegram. -/
def ex : State :=
  { boot := { phase := .run, address := 0 }, pu := { de := true }, li := { receiver := .receiving }
    mu := { filters := { ilk := isOn } } }
/-- A FOAM station in READY with the gate open. -/
def fo : State := { ex with cfg := { role := .foam }, ch := { pending := false, st := .ready } }
/-- The station in a step with its timer expired. -/
def inStep (st : Machine.Step) : State := { ex with sq := { step := st, timer := expired } }
/-- The station with these filters. -/
def filtered (s : State) (f : Filters) : State := { s with mu := { s.mu with filters := f } }
/-- The station with these comparators. -/
def compared (s : State) (c : Comparators) : State := { s with mu := { s.mu with cmp := c } }
/-- A comparator about to be met. -/
def ripe (n : Nat) : Comparator := ⟨true, n, false⟩
/-- An account of number `n`. -/
def acct (n : Nat) : Account := { key := ⟨0, 1, n⟩ }
/-- A queue of one account in a state. -/
def queued (s : State) (st : QueueState) : State :=
  { s with ac := { s.ac with queue := [{ account := acct 1, st := st }] } }
/-- A telegram from a station to address 0. -/
def msg (src : Byte) (p : List Byte) : Frame := ⟨src, 0, p⟩
/-- The gateway's telegrams. -/
def gate (p : List Byte) : Frame := msg 23 p
/-- The next state of a command, the state itself where there is none. -/
def after (c : Instr) (s : State) : State :=
  match exec c s with
  | .next t => t
  | .fault _ => s
  | .refused _ => s
/-- A LIVE peer at address 5. -/
def withPeer (s : State) (e : Peer) : State := { s with pt := { s.pt with entries := s.pt.entries.set 5 e } }

/-! ### Single commands -/

theorem test_start_edge_makes_untagged_account :
    (after .startEdge (filtered ex { ilk := isOn, str := due true })).sq.step = .e1 := by decide +kernel
theorem test_start_edge_is_permitted_once :
    (after .startEdge (queued (filtered ex { ilk := isOn, str := due true }) .active)).sq.step = .e0 := by
  decide +kernel
theorem test_clc_rise_enters_zero :
    (after .clcRise { inStep .e1 with mu := { filters := { ilk := isOn, in2 := due true } } }).mu.window.isOpen
      = true := by decide +kernel
/-- R57: UNKNOWN and not detected goes to route A. -/
theorem test_undeclared_gas_goes_to_A :
    (after .classifyTimeExpiry (queued (inStep .e3) .active)).ms.own = some ⟨.A, .ordinary, 120⟩ := by
  decide +kernel
/-- R57: HALO and detected goes to route B with code 6. -/
theorem test_declared_halo_detected :
    (let t := after .classifyTimeExpiry { inStep .e3 with
      sq := { step := .e3, timer := expired, detected := true }
      ac := { ex.ac with queue := [{ account := { acct 1 with refClass := .halo }, st := .active }] } }
    (t.sq.routeB, t.pu.codes)) = (true, [6]) := by decide +kernel
theorem test_rise_at_limit_passes : riseOk 30 100 130 = true ∧ riseOk 30 100 131 = false := by decide
theorem test_rise_over_range_fails : riseOk 30 100 65535 = false ∧ riseOk 30 65535 0 = false := by decide
theorem test_release_end_makes_done :
    ((after .releaseTimeExpiry (queued (inStep .e7) .active)).ac.queue.map (·.st)) = [.done] := by
  decide +kernel
theorem test_claim_takes_an_entry :
    seats (after (.claim ⟨7, 31, [1, 1, 0, 0, 120]⟩) ex).ms.listA = [(7, true)] := by decide +kernel
theorem test_claim_of_a_gateway_is_discarded :
    (after (.claim ⟨7, 31, [4, 1, 0, 0, 120]⟩) ex).ms.listA = [] := by decide +kernel
theorem test_claim_on_B_needs_no_hazard :
    seats (after (.claim ⟨7, 31, [1, 2, 0, 0, 120]⟩) { ex with pt := { ex.pt with ownHazard := .watch } }).ms.listB
      = [(7, false)] := by decide +kernel
theorem test_purge_call_is_answered :
    (after (.purgeCall ⟨7, 31, []⟩) ex).li.queue.map (fun m => (m.kind, m.dst)) = [(.purgeClear, 7)] := by
  decide +kernel
theorem test_own_address_raises_67 : (after (.release ⟨0, 31, []⟩) ex).pu.codes = [67] := by decide +kernel
theorem test_third_unanswered_offer_holds :
    ((after .answerTimerExpiry { ex with ac := { ex.ac with
      queue := [{ account := acct 1, st := .done, unanswered := 2 }]
      offer := { st := .awaiting, key := some ⟨0, 1, 1⟩, answer := expired } } }).ac.queue.map (·.st))
      = [.held] := by decide +kernel
theorem test_foreign_accept_is_ignored :
    (after (.accept (msg 19 [0, 1, 0, 1])) (queued ex .done)).ac.queue.length = 1
    ∧ (after (.accept (msg 20 [0, 1, 0, 1])) (queued ex .done)).ac.queue.length = 0 := by decide +kernel
theorem test_drc_rise_moves_head :
    (after .drcRise { filtered fo { ilk := isOn, in2 := due true } with
      ch := { fo.ch with st := .entry, doorOpen := true }, ac := { fo.ac with intake := [acct 1] } }).ac.chamber.map
      (·.st) = [.receiving] := by decide +kernel
theorem test_sweep_end_changes_class :
    (after .sweepTimerExpiry { fo with ch := { fo.ch with st := .sweep, sweep := expired } }).ch.cls = .halo := by
  decide +kernel
theorem test_key_sequence_unlocks :
    (after (.key (msg 1 [0xA7])) { ex with boot := { ex.boot with phase := .service }, rs := { lock := .half } }).rs.lock
      = .unlocked := by decide +kernel
theorem test_config_write_clamps :
    (after (.configWrite (msg 1 [6, 0, 3])) { ex with
      boot := { ex.boot with phase := .service }, rs := { lock := .unlocked } }).rs.working.getD 6 0 = 100 := by
  decide +kernel
theorem test_read_of_empty_store_is_absent :
    (after (.read (gate [0, 0, 0, 9])) ex).li.queue.map (·.payload) = [[0, 0, 0, 9]] := by decide +kernel
theorem test_supply_warning_aborts :
    (after (.supplyWarning 209) { ex with rs := { commit := some ⟨⟨0, 1, 1⟩, 0, [], 1⟩ } }).pu.codes = [31] := by
  decide +kernel
theorem test_supply_at_threshold_is_no_warning :
    (after (.supplyWarning 210) ex).rs.supplyLow = false := by decide +kernel
theorem test_strap_off_enters_joining :
    let t := after (.inputFilterFill .svc) { filtered ex { svc := ⟨false, false, false, 5⟩ } with
      boot := { phase := .starting } }
    (t.phase, t.nv.startCounter, (after (.stationSample ⟨0, 0, 0, 0, 0, 0, 0, 0, 0⟩) t).phase)
      = (.starting, 1, .joining) := by decide +kernel
/-- R29, R129, R175: the very first STATUS carries the hazard of the first sample after the check. -/
theorem test_first_status_carries_the_hazard :
    let t := after (.inputFilterFill .svc) { filtered ex { svc := ⟨false, false, false, 5⟩ } with
      boot := { phase := .starting, factoryOk := true } }
    (after (.stationSample ⟨0, 0, 0, 1000, 0, 0, 0, 0, 0⟩) t).li.queue.map (fun m => (m.kind, m.payload.getD 4 0))
      = [(.status, 2)] := by decide +kernel
/-- R176: a verify answers every commit that its block write served. -/
theorem test_verify_answers_both_commits :
    (after (.configCommitVerify defaultBlock) { ex with
      boot := { phase := .service }, rs := { lock := .unlocked, blockWrite := some ⟨[5, 6], defaultBlock⟩ } }
      ).li.queue.map (fun m => (m.kind, m.dst, m.payload.getD 1 9))
      = [(.configAnswer, 5, 0), (.configAnswer, 6, 0)] := by decide +kernel
/-- R170: a START in the hold keeps the low supply, so STARTING finds it. -/
theorem test_start_keeps_low_supply :
    (after .starting (after (.start .pin) (after (.supplyWarning 179) ex))).phase = .hold := by decide +kernel
/-- R170: 17.9 V is below the reset threshold, 18.0 V is not. -/
theorem test_reset_threshold :
    (after (.supplyWarning 179) ex).phase = .hold ∧ (after (.supplyWarning 180) ex).phase = .run := by
  decide +kernel
/-- R181: the default own demand is 300 for FOAM. -/
theorem test_default_own_demand :
    (workingCopyOf [] (defaultBlock.set 1 2)).getD 10 0 = 300 ∧ (workingCopyOf [] defaultBlock).getD 10 0 = 120 := by
  decide +kernel
theorem test_strap_on_enters_service :
    (after (.inputFilterFill .svc) { filtered ex { svc := ⟨false, false, true, 5⟩ } with
      boot := { phase := .starting } }).phase = .service := by decide +kernel

/-! ### Witnesses: states that meet the obligations' hypotheses -/

theorem witness_StepRunsFrontCommand :
    ({ ex with pending := [.lineIdle, .lineBusy] } : State).pending = .lineIdle :: [.lineBusy] := by decide +kernel

theorem witness_IdleStepCountsRunningTimers :
    ex.pending = [] ∧ ex.phase ≠ .hold ∧ State.reset.phase = .hold ∧ State.reset.pending = [] := by decide +kernel

theorem witness_ItemChangeIsReported :
    (let s := compared ex { ambientStop := ⟨true, 1, true⟩ }
    let t := after .ownHazardChange s
    exec .ownHazardChange s = .next t ∧ t.working = true ∧ t.items ≠ s.items
    ∧ s.li.lastHazard.rank < t.pt.ownHazard.rank) := ⟨rfl, by decide +kernel⟩

theorem witness_RouteValveAndGateLaw_gate :
    State.reset.gate = false ∧ ex.isFoam = false ∧ fo.isFoam = true ∧ ex.sq.clampHold = false
    ∧ State.reset.phase = .hold := by decide +kernel

/-- An EXTRACTION station pulling down on route A, its claim seated. -/
def pulling : State :=
  { queued ex .active with
    sq := { step := .e5, clampHold := true, timer := ⟨.running, 9⟩, clock := some 2500 }
    ms := { own := some ⟨.A, .ordinary, 120⟩, claimHeard := true
            listA := [⟨0, .extraction, .ordinary, 120, true⟩] } }

theorem witness_RouteValveAndGateLaw_valve :
    pulling.sequenceOk ∧ pulling.outputs.o1 = true := by
  refine ⟨⟨by decide, by decide, by decide, by decide, fun _ => ⟨fun _ => ⟨_, rfl, by decide⟩, ?_, by decide,
    by decide⟩, by decide⟩, by decide +kernel⟩
  intro h
  exact absurd rfl h.2.1

theorem witness_RouteValveAndGateLaw_foam :
    ({ fo with
      ms := { own := some ⟨.B, .priority, 120⟩, claimHeard := true,
              listB := [⟨0, .foam, .priority, 120, true⟩] } } : State).outputs.o2
      = true
    ∧ (let s := { fo with
          ch := { fo.ch with st := .purging, path := .manifold }
          ms := { marks := [3], backoff := true } }
      s.outputs.o2 = true ∧ s.purgeInProgress = true) := by decide +kernel

theorem witness_writers :
    (∃ t, exec .lineIdle ex = .next t) ∧ Instr.lineIdle.writesSlots = false
    ∧ Instr.lineIdle.writesBlock = false ∧ Instr.lineIdle.writesPhase = false ∧ Instr.lineIdle.readsFree = false
    ∧ Instr.hcdRise.writesLineLevel = false ∧ Instr.hcdRise.writesTransmitter = false
    ∧ Instr.hcdRise.writesPeers = false ∧ Instr.hcdRise.writesOwnHazard = false ∧ Instr.hcdRise.writesLists = false
    ∧ Instr.hcdRise.writesMarks = false ∧ Instr.hcdRise.writesBackoff = false ∧ Instr.hcdRise.writesCall = false
    ∧ Instr.lineIdle.writesClampHold = false ∧ Instr.lineIdle.writesRepeats = false
    ∧ Instr.lineIdle.writesClass = false ∧ Instr.lineIdle.writesDoorOpen = false
    ∧ Instr.lineIdle.writesChannels = false ∧ Instr.lineIdle.writesFilters = false
    ∧ Instr.lineIdle.writesZero = false ∧ Instr.lineIdle.writesIntake = false ∧ Instr.lineIdle.writesNumber = false
    ∧ Instr.lineIdle.writesSources = false ∧ Instr.lineIdle.writesSequence = false
    ∧ Instr.lineIdle.writesCommit = false ∧ Instr.lineIdle.writesLock = false := by
  refine ⟨⟨_, rfl⟩, ?_⟩
  decide

theorem witness_StepKeepsStoreCanonical :
    ({ ex with nv := { ex.nv with slots := [(3, 1), (64, 0)] } } : State).cellsOk
    ∧ ∃ t, step { ex with nv := { ex.nv with slots := [(3, 1), (64, 0)] } } = .next t := 
  ⟨(by decide : cellsWf [(3, 1), (64, 0)] = true), _, rfl⟩

/-- A station with codes, a tripped source, seated and waiting claims, accounts and telegrams. -/
def busy : State :=
  { pulling with
    pu := { codes := [10, 32], sources := { clampTimeout := ⟨.tripped, 0, {}, true⟩ } }
    ms := { own := some ⟨.A, .ordinary, 120⟩, claimHeard := true
            listA := [⟨2, .foam, .priority, 200, true⟩, ⟨0, .extraction, .ordinary, 120, true⟩,
              ⟨4, .extraction, .ordinary, 120, false⟩]
            listB := [⟨3, .foam, .exclusive, 400, true⟩] }
    li := { ex.li with queue := [⟨.accept, 4, [], 1, 3, 0, 0⟩, ⟨.status, 31, [], 2, 1, 0, 0⟩], moment := 4 }
    pending := [.recoveryTimerExpiry .valveA] }

theorem witness_invariants :
    busy.protectionOk ∧ busy.sourcesOk ∧ busy.seatsOk ∧ busy.claimsOk ∧ busy.accountsOk ∧ busy.lineOk
    ∧ busy.sequenceOk ∧ ∃ t, step busy = .next t := by
  refine ⟨⟨by decide, by decide, by decide +kernel⟩, ?_, ⟨?_, by decide⟩, ⟨by decide, ?_⟩, ?_, ⟨by decide, by decide⟩,
    ⟨by decide, by decide, by decide, by decide,
      fun _ => ⟨fun _ => ⟨_, rfl, by decide⟩, ?_, by decide, by decide⟩, by decide⟩, _, rfl⟩
  · intro x; cases x <;> decide
  · intro r; cases r <;> decide
  · intro r; cases r <;> decide
  · exact ⟨by decide, by decide, by decide, by decide, by decide, by decide, by decide, by decide⟩
  · intro h; exact absurd rfl h.2.1

theorem witness_StartLosesVolatileState :
    State.reset.phase = .hold ∧ ex.phase ≠ .hold ∧ ex.rs.commit = none ∧ ex.rs.blockWrite = none
    ∧ ({ ex with rs := { commit := some ⟨⟨0, 1, 1⟩, 0, [], 1⟩ } } : State).rs.commit
      = some ⟨⟨0, 1, 1⟩, 0, [], 1⟩
    ∧ State.reset.rs.supplyBelow = false ∧ (after (.supplyWarning 179) ex).rs.supplyBelow = true := by decide +kernel

/-- The station in STARTING, the SVC filter about to fill. -/
def strap (raw : Bool) (block : List Half) : State :=
  { boot := { phase := .starting }, mu := { filters := { svc := ⟨false, false, raw, 5⟩ } }
    nv := { block := block } }

theorem witness_StrapFillLeadsToThePhase :
    (strap true defaultBlock).phase = .starting ∧ ((strap true defaultBlock).filter .svc).fillDue = true
    ∧ ((strap true defaultBlock).filter .svc).raw = true ∧ ((strap false []).filter .svc).raw = false
    ∧ blockValid (strap false []).nv.block = false ∧ blockValid (strap false defaultBlock).nv.block = true
    ∧ (let s := after (.inputFilterFill .svc) (strap false defaultBlock)
      s.phase = .starting ∧ s.boot.checked = true ∧ s.mu.cmp = continuousComparators s.isFoam) := by decide +kernel

/-- A station whose JOINING time has run out. -/
def joined (s : State) : State := { s with boot := { s.boot with phase := .joining, joining := expired } }

theorem witness_FilterFillAndJoiningEnd :
    ((filtered ex { vaf := ⟨false, false, true, 5⟩ }).filter .vaf).fillDue = true ∧ ex.phase ≠ .hold
    ∧ (filtered State.reset {}).working = false ∧ (filtered State.reset {}).isExtraction = true
    ∧ (joined ex).phase = .joining ∧ (joined ex).boot.joining.due = true ∧ (joined ex).sq = {}
    ∧ (joined ex).isFoam = false ∧ (joined fo).isFoam = true ∧ (joined fo).sq = {} ∧ (joined fo).pu.de = true
    ∧ (joined fo).pt.ownHazard ≠ .stop
    ∧ ({ joined fo with pu := {} } : State).pu.de = false := by decide +kernel

/-- A sample with every channel at 7 and every input on. -/
def seven : Sample := ⟨7, 7, 7, 7, 7, 7, 7, 7, 0xFF⟩

theorem witness_SampleDeliversAndCounts :
    ex.phase ≠ .hold ∧ ex.working = true ∧ (strap true []).phase = .starting
    ∧ ({ ex with boot := { ex.boot with phase := .service } } : State).phase = .service
    ∧ ex.boot.factoryOk = true ∧ seven.ch0.toNat ≤ 20000
    ∧ ((filtered ex { in2 := due true }).filter .in2).filled = true ∧ ((filtered ex {}).filter .in2).filled = false
    ∧ (compared ex { headerHigh := ripe 3, ambientWatch := ripe 0, ambientStop := ripe 0 }).mu.cmp.headerHigh.armed
      = true ∧ ex.phase ≠ .starting ∧ (strap true []).boot.checked = false := by decide +kernel

theorem witness_SampleCreditsTheActiveAccount :
    pulling.working = true ∧ pulling.isFoam = false ∧ pulling.valveA = true
    ∧ pulling.ac.active.isSome = true := by decide +kernel

theorem witness_SampleMovesWindowAndFoamAccount :
    (let s := { fo with mu := { fo.mu with window := Window.opened } }
    s.working = true ∧ s.mu.cmp.oxygenHigh.met = false ∧ s.cfg.recoveryTime ≠ 0 ∧ s.mu.window.isOpen = true
    ∧ s.mu.window.count < 32 ∧ s.valveA = false ∧ s.valveB = false ∧ s.isFoam = true)
    ∧ (let s := { pulling with mu := { pulling.mu with window := { Window.opened with count := 31 } } }
      s.valveA = true ∧ s.mu.window.isOpen = true ∧ s.mu.window.count < 32)
    ∧ fo.mu.window.isOpen = false := by decide +kernel

theorem witness_SampleMovesTripSources :
    ex.working = true ∧ (ex.source .circuitHigh).st = .normal
    ∧ conditionAt ex.cfg false (channelsOf true false { seven with ch0 := 18000 }) false false .circuitHigh = true
    ∧ conditionAt ex.cfg false (channelsOf true false { seven with ch0 := 17999 }) false false .circuitHigh = false
    ∧ (busy.source .clampTimeout).st = .tripped ∧ (ex.cfg.source .ambientStop).mode = .auto := by decide +kernel

/-- A station whose zero window has its 32 samples. -/
def zeroed (s : State) (w : Window) : State := { s with mu := { s.mu with window := w } }

theorem witness_ZeroWindowCompletes :
    (let s := zeroed (queued (inStep .e2) .active) ⟨true, 32, 1312, false, 1099⟩
    s.working = true ∧ s.mu.window.isOpen = true ∧ 32 ≤ s.mu.window.count ∧ s.isFoam = false
    ∧ s.cfg.classifyTime ≠ 0 ∧ s.mu.window.first < s.cfg.emptyThreshold)
    ∧ ¬((zeroed ex ⟨true, 32, 64032, false, 0⟩).mu.window.sum / 32 ≤ 2000)
    ∧ (zeroed ex ⟨true, 32, 64031, false, 0⟩).mu.window.sum / 32 ≤ 2000
    ∧ (let s := zeroed { fo with ch := { fo.ch with st := .inerting } } ⟨true, 32, 0, false, 0⟩
      s.isFoam = true ∧ s.ch.pending = false ∧ s.ch.st = .inerting ∧ s.mu.cmp.inert.met = false) := by decide +kernel

theorem witness_TripSourceEvents :
    (let s := { ex with mu := { ex.mu with discA := 101 } }
    s.phase ≠ .hold ∧ s.discrepancyDue .A = true ∧ (s.source .valveA).st = .normal
    ∧ (s.cfg.source .valveA).width ≤ (s.source .valveA).run + 1)
    ∧ ({ ex with mu := { ex.mu with discA := 100 } } : State).discrepancyDue .A = false
    ∧ (let s := { ex with mu := { ex.mu with discB := 101 }, cfg := { ex.cfg with setValveB := ⟨3, .auto⟩ } }
      s.discrepancyDue .B = true ∧ (s.source .valveB).run + 1 < (s.cfg.source .valveB).width)
    ∧ ({ ex with pu := { ex.pu with sources := { circuitHigh := ⟨.normal, 3, {}, true⟩ } } } : State).filterMet
      .circuitHigh = true
    ∧ (let s := { ex with pu := { ex.pu with sources := { ambientStop := ⟨.recovering, 0, expired, false⟩ } } }
      (s.source .ambientStop).st = .recovering ∧ (s.source .ambientStop).recovery.due = true) := by decide +kernel

theorem witness_ClearRemovesLowestCode :
    (let s := { filtered ex { fcl := due true } with pu := { codes := [11, 64], sources := {} } }
    s.pu.codes = [11, 64] ∧ s.phase ≠ .hold ∧ (s.filter .fcl).edgeDue true = true
    ∧ s.conditionPresent 11 = false ∧ s.takes .faultClear (gate []) = true)
    ∧ (64 ≤ 64 ∧ busy.conditionPresent 10 = true)
    ∧ (let s := { queued (inStep .e4) .active with pu := { codes := [6] } }
      s.conditionPresent 6 = false ∧ s.isFoam = false ∧ s.cfg.classifyTime ≠ 0 ∧ s.ownSeated = false)
    ∧ fo.ownPurgePath = false ∧ fo.conditionPresent 25 = false := by decide +kernel

theorem witness_InterlockResetsAndRestartsTheStep :
    ((filtered (inStep .e5) { ilk := due false }).filter .ilk).edgeDue false = true ∧ (inStep .e5).phase ≠ .hold
    ∧ (inStep .e5).isFoam = false ∧ (inStep .e5).sq.timer.st ≠ .stopped
    ∧ (let s := { filtered fo { ilk := due false } with ch := { fo.ch with st := .purging, path := .manifold } }
      s.isFoam = true ∧ s.ch.pending = false ∧ s.ownPurgePath = true)
    ∧ (let s := { filtered pulling { ilk := due true } with sq := { pulling.sq with timer := Timer.reset 9 } }
      (s.filter .ilk).edgeDue true = true ∧ s.pu.de = true ∧ s.pu.de = s.driveRule ∧ s.sq.step = .e5
      ∧ s.suspendCause = false ∧ s.sq.timer.st = .held)
    ∧ ex.suspendCause = true
    ∧ ({ pulling with sq := { pulling.sq with step := .e4 } } : State).ownSeated = true
    ∧ (let s := { filtered (inStep .e6) { ilk := due true } with sq := { step := .e6, timer := Timer.reset 9 } }
      s.ownSeated = false ∧ s.promoted = false ∧ s.sq.starve.st ≠ .running ∧ s.suspendCause = true
      ∧ s.sq.timer.st = .held)
    ∧ ex.cfg.classifyTime ≠ 0
    ∧ (let s := { filtered (inStep .e3) { ilk := due true } with
        cfg := { classifyTime := 0 }, sq := { step := .e3, timer := Timer.reset 0 } }
      s.cfg.classifyTime = 0 ∧ s.pu.de = true ∧ s.pu.de = s.driveRule
      ∧ (s.filter .ilk).edgeDue true = true) := by decide +kernel

theorem witness_StartEdgeBeginsExtraction :
    (let s := filtered ex { ilk := isOn, str := due true }
    s.phase ≠ .hold ∧ (s.filter .str).edgeDue true = true ∧ s.startPermitted = true
    ∧ (s.ac.queue.any fun x => x.st == .announced) = false
    ∧ (queued s .announced).startPermitted = true
    ∧ ((queued s .announced).ac.queue.find? fun x => x.st == .announced).isSome = true
    ∧ (queued s .active).startPermitted = false)
    ∧ (let f : Filter := { filled := true }
      (filtered ex ⟨isOn, f, f, f, f, f, f, f⟩).outputs.o7 = true) ∧ ex.outputs.o7 = false := by decide +kernel

theorem witness_ClampClosedEntersZero :
    (let s := filtered (inStep .e1) { ilk := isOn, in2 := due true }
    s.phase ≠ .hold ∧ s.isExtraction = true ∧ (s.filter .in2).edgeDue true = true ∧ s.sq.step = .e1)
    ∧ (filtered (inStep .e3) { in2 := due true }).sq.step ≠ .e1 := by decide +kernel

theorem witness_ClampFailureAbandonsTheAccount :
    (inStep .e1).isExtraction = true ∧ (inStep .e1).stepDue .e1 = true
    ∧ (let s := filtered pulling { ilk := isOn, in2 := due false }
      s.phase ≠ .hold ∧ (s.filter .in2).edgeDue false = true ∧ s.sq.clampHold = true
      ∧ s.sq.step ∈ [Machine.Step.e2, .e3, .e4, .e5, .e6] ∧ (s.source .clampTimeout).st = .normal)
    ∧ (busy.source .clampTimeout).st ≠ .normal
    ∧ (filtered ex { in2 := due false }).sq.step = .e0
    ∧ (let s := filtered (inStep .e1) { ilk := isOn, in2 := due false }
      s.stepTimer = s.sq.timer ∧ (s.filter .in2).edgeDue false = true) := by decide +kernel

theorem witness_RoutingDecisionRaisesTheClaim :
    (let s := queued (inStep .e3) .active
    s.isExtraction = true ∧ s.stepDue .e3 = true ∧ s.ac.active.isSome = true
    ∧ s.li.queue.length ≤ 5 ∧ s.pu.de = s.driveRule ∧ s.gate = true ∧ s.promoted = false
    ∧ s.sq.starve = Timer.stopped)
    ∧ (let s := filtered (inStep .e3) { in3 := due true }
      s.phase ≠ .hold ∧ (s.filter .in3).edgeDue true = true ∧ s.sq.step = .e3 ∧ s.cfg.classifyTime ≠ 0)
    ∧ (inStep .e6).sq.step ∈ [Machine.Step.e0, .e1, .e2, .e6, .e7]
    ∧ (inStep .e4).ownSeated = false := by decide +kernel

theorem witness_HydrocarbonOnRouteAChangesTheRoute :
    (let s := filtered pulling { ilk := isOn, in3 := due true }
    s.isExtraction = true ∧ s.phase ≠ .hold ∧ (s.filter .in3).edgeDue true = true ∧ s.sq.step = .e5
    ∧ s.sq.routeB = false ∧ s.ms.own.isSome = true ∧ s.li.queue.length ≤ 5)
    ∧ ({ pulling with sq := { pulling.sq with routeB := true } } : State).sq.routeB = true := by decide +kernel

theorem witness_HoldCountsSamplesToThePressureStart :
    pulling.isExtraction = true ∧ pulling.sq.step = .e5
    ∧ (compared pulling { pulldown := ripe 20 }).mu.cmp.pulldown.due 20 = true
    ∧ (compared pulling { pulldown := ripe 19 }).mu.cmp.pulldown.due 20 = false
    ∧ (inStep .e5).stepDue .e5 = true ∧ (inStep .e6).stepDue .e6 = true ∧ (inStep .e6).sq.pStart = none
    ∧ ({ (inStep .e6).sq with riseCount := 100 } : Sequence).riseCount = 100
    ∧ (inStep .e6).working = true ∧ (inStep .e6).mu.cmp.oxygenHigh.met = false ∧ (inStep .e6).cfg.recoveryTime ≠ 0
    ∧ (inStep .e6).sq.timer.st = .running ∧ ({ (inStep .e6).sq with riseCount := 99 } : Sequence).riseCount < 100
    ∧ (inStep .e7).sq.step = .e7 := by decide +kernel

/-- The end of E6 with p_start 100 and this pressure, with this many repeats left. -/
def held (p repeats : Nat) : State :=
  { inStep .e6 with
    sq := { step := .e6, timer := expired, pStart := some 100, repeats := repeats }
    mu := { ex.mu with ch := { c0 := p } } }

theorem witness_RiseTestEndsHold :
    (held 130 1).isExtraction = true ∧ (held 130 1).stepDue .e6 = true ∧ (held 130 1).sq.pStart = some 100
    ∧ (100 ≠ 65535 ∧ (held 130 1).mu.ch.c0 ≠ 65535 ∧ (held 130 1).mu.ch.c0 ≤ 100 + (held 130 1).cfg.riseLimit)
    ∧ ¬((held 131 0).mu.ch.c0 ≤ 100 + (held 131 0).cfg.riseLimit) ∧ (held 131 0).sq.repeats = 0
    ∧ (held 131 1).sq.repeats ≠ 0 ∧ (held 131 1).level .in3 = false ∧ (held 131 1).gate = true
    ∧ (held 131 1).sq.routeB = false ∧ (held 131 1).suspendCause = true
    ∧ ({ pulling with sq := (held 131 1).sq } : State).suspendCause = false
    ∧ (filtered (held 131 1) { in3 := isOn }).level .in3 = true := by decide +kernel

theorem witness_StarvationRaisesPriorityClaim :
    (let s := { queued (inStep .e4) .active with sq := { step := .e4, starve := expired } }
    s.isExtraction = true ∧ s.sq.starve.due = true ∧ (s.sq.step = .e4 ∨ s.sq.step = .e5 ∨ s.sq.step = .e6)
    ∧ s.ac.active.isSome = true ∧ s.li.queue.length ≤ 5) := by decide +kernel

theorem witness_ReleaseEndFinalizesTheAccount :
    (let s := queued (inStep .e7) .active
    s.isExtraction = true ∧ s.stepDue .e7 = true)
    ∧ (let s := filtered (inStep .e7) { in2 := due false }
      s.sq.step = .e7 ∧ s.phase ≠ .hold ∧ (s.filter .in2).edgeDue false = true)
    ∧ (let s := { inStep .e7 with pt := { entries := List.replicate 24 { presence := .live } } }
      s.inRun = true ∧ s.ac.offer.st = .idle ∧ (s.peer s.cfg.downstream).presence = .live) := by decide +kernel

theorem witness_HeaderBackoffClosesTheRouteValves :
    ex.working = true ∧ (compared ex { headerHigh := ripe 20 }).mu.cmp.headerHigh.due 20 = true
    ∧ (compared ex { headerHigh := ripe 19 }).mu.cmp.headerHigh.due 20 = false
    ∧ (compared ex { headerRecovered := ripe 20 }).mu.cmp.headerRecovered.due 20 = true
    ∧ (compared ex {}).mu.cmp.headerHigh.met = false ∧ ex.ownPurgePath = false
    ∧ (compared ex { headerHigh := ⟨true, 20, true⟩ }).mu.cmp.headerHigh.met = true := by decide +kernel

theorem witness_OwnHazardFollowsComparators :
    (let s := compared fo { ambientStop := ⟨true, 1, true⟩ }
    s.working = true ∧ s.hazardLevel ≠ s.pt.ownHazard ∧ s.isFoam = true ∧ s.ch.pending = false
    ∧ s.ch.st ≠ .purging ∧ s.hazardLevel = .stop)
    ∧ (let s := compared fo { oxygenHigh := ripe 1 }
      s.isFoam = true ∧ s.mu.cmp.oxygenHigh.due 0 = true
      ∧ s.ch.st ∈ [ChamberState.ready, .entry, .sweep] ∧ s.mu.cmp.oxygenUnder.met = false) := by decide +kernel

theorem witness_PurgeHandshake :
    ex.takes .purgeCall (msg 5 []) = true ∧ ex.takes .purgeClear (msg 5 []) = true
    ∧ ex.takes .purgeEnd (msg 5 []) = true ∧ ex.ms.call.st = .idle
    ∧ (∀ m ∈ ex.li.queue, m.kind = .purgeClear → m.cls = 0 ∧ m.payload = [])
    ∧ (let s := { fo with ms := { call := ⟨.waiting, [5], true, expired⟩ } }
      s.ms.call.st = .waiting ∧ s.ms.call.wait.due = true ∧ s.ms.call.heard = true
      ∧ s.ms.call.awaited.filter (· ≠ 5) = [] ∧ s.ms.call.awaited.filter (· ≠ 6) ≠ [] ∧ s.gate = true)
    ∧ ({ fo with ch := { fo.ch with st := .purging } } : State).ch.st = .purging ∧ fo.ownPurgePath = false
    ∧ (5 : Byte).toNat ∉ ex.ms.marks
    ∧ (withPeer ex { presence := .live, role := .foam, hazard := .stop }).lineHazard = .stop
    ∧ State.reset.gate = false := by decide +kernel

theorem witness_ClaimAndReleaseRunTheSeating :
    ex.takes .claim (msg 5 [1, 2, 1, 3, 232]) = true ∧ ex.takes .release (msg 5 []) = true
    ∧ half [1, 2, 1, 3, 232] 3 = 1000 ∧ routeOfCode 2 = some .B ∧ routeOfCode 1 = some .A ∧ routeOfCode 3 = none
    ∧ ClaimClass.ofCode 1 = some .priority ∧ ClaimClass.ofCode 3 = none := by decide +kernel

theorem witness_InertReachedLeadsToReady :
    (let s := { compared fo { inert := ripe 1000, oxygenUnder := ripe 1 } with
      ch := { fo.ch with st := .inerting, zeroDone := true } }
    s.isFoam = true ∧ s.ch.pending = false ∧ s.ch.st = .inerting
    ∧ s.mu.cmp.inert.due (100 * s.cfg.inertHold) = true ∧ s.pu.de = true ∧ s.pt.ownHazard ≠ .stop
    ∧ s.ch.zeroDone = true ∧ s.mu.cmp.oxygenHigh.met = false ∧ s.ac.intake = []
    ∧ s.mu.cmp.oxygenUnder.due 0 = true)
    ∧ ({ fo with ch := { fo.ch with st := .halted }, pu := {} } : State).pu.de = false
    ∧ fo.ch.zeroDone = false ∧ fo.ms.own = none
    ∧ (let s := compared fo { oxygenHigh := ⟨true, 1, true⟩, oxygenUnder := ⟨true, 1, true⟩ }
      s.mu.cmp.oxygenHigh.met = true ∧ s.mu.cmp.oxygenUnder.met = true ∧ s.working = true) := by decide +kernel

theorem witness_PurgingBeginsAndEnds :
    (let s := compared fo { purgeNeeded := ripe 20 }
    s.isFoam = true ∧ s.ch.pending = false ∧ s.ch.st ≠ .purging ∧ s.mu.cmp.purgeNeeded.due 20 = true
    ∧ (s.li.queue.any fun m => m.kind == .purgeCall) = false)
    ∧ (let s := { compared fo { purgeClear := ripe 1000 } with
        ch := { fo.ch with st := .purging }, li := { fo.li with queue := [⟨.purgeCall, 31, [], 0, 0, 0, 0⟩] } }
      s.ch.st = .purging ∧ s.mu.cmp.purgeClear.due 1000 = true
      ∧ (s.li.queue.any fun m => m.kind == .purgeCall) = true ∧ s.pu.de = true
      ∧ s.pt.ownHazard ≠ .stop) := by decide +kernel

theorem witness_WindowCloseFinalizesTheAccount :
    (let s := { compared fo { quiet := ripe 3000 } with
      ac := { fo.ac with chamber := [⟨acct 1, .receiving, 5000, expired⟩] } }
    s.isFoam = true ∧ s.cfg.carryOver ≠ 0 ∧ s.mu.cmp.quiet.due (100 * s.cfg.quietTime) = true
    ∧ s.ac.receiving.isSome = true
    ∧ ∃ e ∈ s.ac.chamber, e.account.key = ⟨0, 1, 1⟩ ∧ e.st ≠ .closed ∧ e.carry.due = true) := by decide +kernel

/-- A FOAM station in a state with a seated PRIORITY claim and one HC account in the intake list. -/
def seatedFoam (st : ChamberState) (f : Filters) : State :=
  { filtered fo f with
    ch := { fo.ch with st := st, door := expired }
    ac := { fo.ac with intake := [acct 1] }
    ms := { own := some ⟨.B, .priority, 120⟩, claimHeard := true, listB := [⟨0, .foam, .priority, 120, true⟩] } }

theorem witness_DoorCycleMovesTheCabinet :
    (let s := seatedFoam .entry { ilk := isOn, in2 := due false, in3 := due false }
    s.isFoam = true ∧ s.phase ≠ .hold ∧ s.ch.pending = false ∧ (s.filter .in2).edgeDue false = true
    ∧ s.ch.st = .entry ∧ s.ch.doorOpen = false ∧ (s.filter .in3).edgeDue (!s.level .in3) = true
    ∧ s.level .in3 = true ∧ s.haltCause .entry = false ∧ s.headClass = some s.ch.cls
    ∧ s.ch.door.due = true ∧ s.ms.own.isSome = true ∧ s.entryConditions = true)
    ∧ (let s := { seatedFoam .entry { ilk := isOn, in2 := due true } with
        ch := { fo.ch with st := .entry, doorOpen := true } }
      (s.filter .in2).edgeDue true = true ∧ s.ch.doorOpen = true ∧ s.ac.intake = acct 1 :: []
      ∧ s.cfg.carryOver ≠ 0 ∧ s.haltCause .ready = false)
    ∧ (let s := seatedFoam .ready { ilk := isOn, in3 := due true }
      (s.filter .in3).edgeDue (!s.level .in3) = true ∧ s.ch.st = .ready ∧ s.level .in3 = false ∧ s.srp = true
      ∧ s.ch.doorOpen = false ∧ s.ac.chamber.length < 3 ∧ s.headClass = some s.ch.cls
      ∧ (s.ch.cls ≠ .hc ∨ s.lineHazard ≠ .stop))
    ∧ (seatedFoam .entry { ilk := isOn }).entryConditions = false := by decide +kernel

theorem witness_SweepChangesTheChamberClass :
    (let s := { fo with ch := { fo.ch with st := .sweep, sweep := expired, sweepWait := expired } }
    s.isFoam = true ∧ s.ch.pending = false ∧ s.pu.de = true ∧ s.pu.de = s.driveRule ∧ s.pt.ownHazard ≠ .stop
    ∧ s.ch.st = .sweep ∧ s.ch.sweep.due = true ∧ s.ch.sweepWait.due = true
    ∧ s.mu.cmp.oxygenHigh.met = false ∧ s.headClass = none ∧ s.li.queue.length ≤ 4)
    ∧ (let s := { fo with
        ch := { fo.ch with sweepRetry := expired }
        ac := { fo.ac with intake := [{ acct 1 with foamClass := .halo }] } }
      s.ch.sweepRetry.due = true ∧ s.ch.st = .ready ∧ s.headClass = some s.ch.cls.other ∧ s.ac.chamber = [])
    ∧ (seatedFoam .sweep {}).ms.own.isSome = true := by decide +kernel

theorem witness_TelegramsRefreshTheirSender :
    (Instr.certificate (zeros 48)).telegram = some (zeros 48) ∧ (Instr.certificate (zeros 48)).wf = true
    ∧ ex.li.receiver = .receiving ∧ State.reset.li.receiver ≠ .receiving ∧ ex.working = true
    ∧ ex.hearsFrom (zeros 48) = true ∧ ex.pt.entries.length = 24 ∧ (zeros 0).src.toNat ≠ ex.boot.address
    ∧ (⟨3, 9, []⟩ : Frame).dst.toNat ≠ ex.boot.address ∧ (⟨3, 9, []⟩ : Frame).dst.toNat ≠ 31
    ∧ (⟨0, 31, []⟩ : Frame).src.toNat = ex.boot.address ∧ fo.isExtraction = false
    ∧ ex.li.hearing = true ∧ 24 ≤ (⟨24, 31, []⟩ : Frame).src.toNat
    ∧ ({ ex with li := { ex.li with transmitter := some ⟨.offer, 20, [], 2, 0, 0, 0⟩ } } : State).li.transmitter
      ≠ none := by decide +kernel

theorem witness_StatusWritesThePeerEntry :
    ex.pt.entries.length = 24 ∧ ex.takes .status (zeros 20) = true
    ∧ echoOf [1, 1, 0, 0, 0, 0, 0, 0, 2, 1, 0, 9] = .claim ⟨.B, .priority, 9⟩
    ∧ (let f := msg 20 [2, 1, 17, 0, 0, 0, 4, 0, 0, 0, 0, 0, 0, 0, 0, 0, 0, 0, 0, 0]
      f.src.toNat = ex.cfg.downstream ∧ ex.takes .status f = true ∧ 0 < byteAt f.payload 6
      ∧ min 4 (byteAt f.payload 6) ≠ (ex.peer 20).intake) := by decide +kernel

theorem witness_StalePeerLosesItsClaims :
    (let s := withPeer { ex with ms := { call := ⟨.waiting, [5], false, {}⟩ } }
      { presence := .live, role := .foam, age := expired }
    s.pt.entries.length = 24 ∧ s.working = true ∧ (s.peer 5).presence = .live ∧ (s.peer 5).age.due = true
    ∧ s.ms.call.st = .waiting ∧ (s.peer 5).role = .foam) := by decide +kernel

theorem witness_StatusAndIdleTimers :
    (let s := { ex with pt := { ex.pt with timer := expired } }
    s.working = true ∧ s.pt.timer.due = true)
    ∧ (let s := { ex with boot := { phase := .configFault }, rs := { statusTimer := expired, idle := expired } }
      s.phase = .configFault ∧ s.rs.statusTimer.due = true ∧ s.rs.idle.due = true) := by decide +kernel

theorem witness_TransmitterFollowsTheLine :
    (let s := { ex with li := { idle := true, receiver := .receiving, queue := [⟨.claim, 31, [], 2, 0, 1, 10⟩] } }
    s.phase ≠ .hold ∧ s.li.transmitter = none ∧ s.li.idle = true ∧ s.li.receiver = .receiving
    ∧ s.li.queue = ⟨.claim, 31, [], 2, 0, 1, 10⟩ :: [] ∧ s.phase ≠ .starting ∧ 67 ∉ s.pu.codes
    ∧ 8 * 2 + 10 ≤ 26 ∧ 25 < 8 * 2 + 10)
    ∧ (let m : Telegram := ⟨.offer, 20, [], 2, 0, 15, 0⟩
      ({ ex with li := { transmitter := some m } } : State).li.transmitter = some m ∧ m.kind ≠ .status
      ∧ m.kind ≠ .claim ∧ m.kind ≠ .release ∧ m.cls ≠ 3 ∧ min 255 (m.collisions + 1) = 16) := by decide +kernel

theorem witness_OwnTelegramIsHeardWhenSent :
    (let m : Telegram := ⟨.claim, 31, [1, 1, 0, 0, 120], 2, 0, 0, 0⟩
    let s := { inStep .e4 with li := { transmitter := some m } }
    s.li.transmitter = some m ∧ s.working = true ∧ m.kind = .claim
    ∧ claimPayload m.payload = some (.extraction, ⟨.A, .ordinary, 120⟩) ∧ s.isExtraction = true
    ∧ s.sq.step = .e4 ∧ s.level .in3 = false)
    ∧ (let s := { queued ex .done with ac := { (queued ex .done).ac with
        offer := { st := .queued, key := some ⟨0, 1, 1⟩ } } }
      s.ac.offer.st = .queued ∧ ∃ e ∈ s.ac.queue, e.st = .done ∧ e.account.key = ⟨0, 1, 1⟩)
    ∧ ({ fo with ms := { call := ⟨.waiting, [], false, {}⟩ } } : State).ms.call.st = .waiting
    ∧ (let s := { inStep .e4 with
        li := { transmitter := some ⟨.claim, 31, [1, 1, 0, 0, 120], 2, 0, 0, 0⟩ }
        ms := { own := some ⟨.A, .ordinary, 120⟩ }, mu := { filters := { ilk := isOn, in3 := isOn } } }
      s.level .in3 = true ∧ s.sq.routeB = false ∧ s.pu.de = s.driveRule ∧ s.gate = true ∧ s.promoted = false
      ∧ (after .transmitComplete s).sq.step = .e5) := by decide +kernel

/-- The ANNOUNCE of a cabinet with tag A, or with an ill-formed tag. -/
def announced (c : Byte) : Frame := gate ([0x41, c] ++ List.replicate 14 0 ++ [1, 0, 4, 76])
/-- A queue with one account of tag A in a state. -/
def tagged (st : QueueState) : State :=
  { ex with ac := { ex.ac with queue := [{ account := { acct 1 with tag := some [0x41] }, st := st }] } }

theorem witness_AnnounceTakesTheFirstCase :
    ex.isExtraction = true ∧ ex.takes .announce (announced 0) = true
    ∧ tagChars ((announced 0).payload.take 16) = [0x41]
    ∧ tagWellFormed ((announced 0).payload.take 16) = true
    ∧ tagWellFormed ((announced 0x1F).payload.take 16) = false
    ∧ (∃ e ∈ (tagged .announced).ac.queue, e.account.tag = some [0x41] ∧ e.st = .announced)
    ∧ (∃ e ∈ (tagged .held).ac.queue, e.account.tag = some [0x41] ∧ e.st ≠ .announced)
    ∧ (ex.noted (announced 0)).ac.queue = [] ∧ ex.pu.de = ex.driveRule := by decide +kernel

theorem witness_CloseAndAbandonByState :
    (let k := [0, 1, 0, 1]
    (queued ex .held).isExtraction = true ∧ (queued ex .held).takes .closeAccount (gate k) = true
    ∧ (queued ex .held).takes .abandonAccount (gate k) = true
    ∧ ((queued ex .held).noted (gate k)).findQueue (keyAt k 0) = some { account := acct 1, st := .held }
    ∧ (((queued ex .announced).noted (gate k)).findQueue (keyAt k 0)).map (·.st) = some .announced
    ∧ (((queued ex .closing).noted (gate k)).findQueue (keyAt k 0)).map (·.st) = some .closing
    ∧ ((pulling.noted (gate k)).ac.active).map (·.account.key) = some (keyAt k 0)
    ∧ pulling.sq.step ≠ .e0 ∧ pulling.sq.step ≠ .e7 ∧ (inStep .e7).sq.step = .e7) := by decide +kernel

/-- A station that awaits the answer to its offer of account 1. -/
def offering : State :=
  { queued ex .done with ac := { (queued ex .done).ac with
      offer := { st := .awaiting, key := some ⟨0, 1, 1⟩, answer := expired } } }

theorem witness_OfferMachineFollowsTheAnswers :
    (let k := [0, 1, 0, 1]
    offering.isExtraction = true ∧ offering.takes .accept (msg 20 k) = true
    ∧ offering.takes .refuse (msg 20 (k ++ [1])) = true ∧ (msg 20 k).src.toNat = offering.cfg.downstream
    ∧ (msg 19 k).src.toNat ≠ offering.cfg.downstream
    ∧ ((offering.noted (msg 20 k)).findQueue (keyAt k 0)).map (·.st) = some .done
    ∧ (offering.noted (msg 20 k)).ac.offer.st = .awaiting
    ∧ (offering.noted (msg 20 k)).ac.offer.key = some (keyAt k 0)
    ∧ ((offering.noted (msg 20 k)).peer 20).presence = .live
    ∧ offering.ac.offer.answer.due = true
    ∧ (∃ e ∈ ({ offering with ac := { offering.ac with queue := [⟨acct 1, .done, 0, 0, false, 2⟩] } } : State).ac.queue,
        e.account.key = keyAt k 0 ∧ e.st = .done ∧ 2 ≤ e.unanswered)
    ∧ (let o : Offer := { st := .holdOff, holdOff := expired }
      o.st = .holdOff ∧ o.holdOff.due = true)) := by decide +kernel

/-- A well-formed OFFER from station 5. -/
def offerOf (n : Nat) : Frame :=
  msg 5 (({ acct n with
    key := ⟨5, 1, n⟩, routeTaken := some .A
    result := some ⟨100, 0, 0, 0, none, 1, 9, .unrated⟩ } : Account).body false)

theorem witness_OfferIsAnsweredByTheFirstCase :
    fo.isFoam = true ∧ fo.takes .offer (offerOf 1) = true ∧ offerOk 5 (offerOf 1).payload = true
    ∧ offerOk 4 (offerOf 1).payload = false ∧ fo.inRun = true ∧ (joined fo).inRun = false
    ∧ fo.ac.intake.length < 4 ∧ fo.rs.full = false
    ∧ 4 ≤ ({ fo.ac with intake := List.replicate 4 (acct 1) } : Accounts).intake.length
    ∧ (∃ x ∈ ({ fo.ac with intake := [accountOf (offerOf 1).payload] } : Accounts).intake,
        x.key = keyAt (offerOf 1).payload 0)
    ∧ ex.isFoam = false ∧ ex.takes .offer (offerOf 1) = true
    ∧ ({ ex with boot := { phase := .service } } : State).working = false := by decide +kernel

/-- A station that holds one record, of sequence 7, in slot 0. -/
def storing : State :=
  { ex with nv := { ex.nv with slots := writeCells [] 0 (recordBytes { acct 1 with sequence := some 7 }) }
            rs := { lastSequence := 7, writePosition := 1, target := some 7, readPointer := some 6 } }

theorem witness_ReadsAnswerFromTheStore :
    (storing.noted (gate [0, 0, 0, 7])).li.room = true ∧ storing.takes .read (gate [0, 0, 0, 7]) = true
    ∧ storing.takes .readNext (gate []) = true ∧ storing.takes .checkRange (gate [3, 255, 0, 1]) = true
    ∧ half [3, 255, 0, 1] 0 = 1023 ∧ storing.rs.commit = none ∧ storing.rs.readPointer = some 6
    ∧ ex.rs.readPointer = none ∧ slotState storing.nv.slots 0 = .held ∧ slotSequence storing.nv.slots 0 = 7
    ∧ slotState storing.nv.slots 1 = .empty := by decide +kernel

theorem witness_CollectMarksTheLowestHeldRecord :
    storing.takes .collect (gate [0, 0, 0, 7]) = true ∧ storing.cellsOk ∧ slotState storing.nv.slots 0 = .held
    ∧ storing.rs.target = some 7 ∧ slotSequence storing.nv.slots 0 ≤ 7 ∧ storing.working = true
    ∧ storing.rs.commit = none ∧ storing.rs.supplyLow = false := by
  refine ⟨by decide, (by decide +kernel : cellsWf storing.nv.slots = true), ?_⟩
  decide +kernel

theorem witness_CommitWritesTheRecord :
    (let s := { queued storing .closing with rs := { storing.rs with commitQueue := [⟨0, 1, 1⟩] } }
    s.rs.commitQueue = ⟨0, 1, 1⟩ :: [] ∧ (s.accountFor ⟨0, 1, 1⟩).isSome = true ∧ s.working = true
    ∧ s.rs.commit = none ∧ s.rs.supplyLow = false ∧ s.rs.fault = false
    ∧ slotState s.nv.slots s.rs.writePosition ≠ .held ∧ s.rs.lastSequence < 4294967295)
    ∧ (recordBytes { acct 1 with sequence := some 8 }).length = 64 ∧ cellsWf storing.nv.slots = true
    ∧ ex.phase ≠ .hold ∧ ex.rs.supplyLow = false ∧ 209 < ex.cfg.supplyWarning ∧ 180 ≤ 209 ∧ 179 < 180
    ∧ State.reset.phase = .hold
    ∧ ({ ex with rs := { supplyLow := true } } : State).rs.supplyLow = true
    ∧ ex.cfg.supplyWarning + 5 ≤ 215 := by decide +kernel

theorem witness_ServiceUnlocksWritesAndCommits :
    (let s := { ex with
        boot := { phase := .service, address := 0 },
        rs := { lock := .unlocked, blockWrite := some ⟨[5], defaultBlock⟩ } }
    s.phase = .service ∧ s.li.hearing = true ∧ s.li.room = true ∧ s.rs.lock = .unlocked
    ∧ s.rs.supplyLow = false ∧ s.rs.blockWrite = some ⟨[5], defaultBlock⟩ ∧ (msg 5 []).dst.toNat = s.boot.address)
    ∧ Kind.lengthOk .key 1 = true ∧ Kind.lengthOk .configWrite 3 = true ∧ Kind.lengthOk .configCommit 0 = true
    ∧ Kind.lengthOk .key 0 = false ∧ ¬(msg 24 []).src.toNat ≤ 23 ∧ (msg 5 []).src.toNat ≤ 23
    ∧ Lock.locked ≠ .unlocked ∧ paramRange 6 = some (100, 2000)
    ∧ paramRange 1 = none ∧ paramInSet 1 2 = true ∧ paramInSet 1 3 = false := by decide +kernel

theorem witness_RouteValveAndGateLaw_rows :
    pulling.cfg.role = .extraction ∧ pulling.phase ≠ .hold
    ∧ pulling.outputs = ⟨true, true, false, false, false, false, false, false⟩
    ∧ (inStep .e3).outputs = ⟨true, false, false, true, false, false, false, false⟩
    ∧ fo.cfg.role = .foam ∧ fo.phase ≠ .hold ∧ fo.ch.pending = false
    ∧ (seatedFoam .entry { ilk := isOn }).outputs = ⟨true, false, true, false, true, false, false, true⟩
    ∧ (seatedFoam .ready {}).outputs = ⟨false, false, false, false, false, false, false, false⟩
    ∧ ({ fo with ch := { fo.ch with st := .purging, path := .vent }, pu := { codes := [25] } } : State).outputs
      = ⟨false, false, false, true, false, true, true, false⟩
    ∧ ({ fo with ch := { fo.ch with pending := true } } : State).ch.pending = true := by decide +kernel

theorem witness_StepKeepsOwnClaimWithStep_timer :
    (let s := { pulling with pu := { pulling.pu with sources := {} }, pending := [.lineIdle] }
    s.sequenceOk ∧ s.protectionOk ∧ s.stepTimerOk ∧ s.sq.step = .e5 ∧ s.gate = true ∧ s.suspended = false
    ∧ ∃ t, step s = .next t)
    ∧ (let s := { filtered pulling {} with
        sq := { pulling.sq with timer := Timer.reset (pulling.cfg.stepTime .e5) } }
      s.gate = false ∧ s.stepTimerOk) := by
  refine ⟨⟨⟨by decide, by decide, by decide, by decide, fun _ => ⟨fun _ => ⟨_, rfl, by decide⟩, ?_, by decide,
    by decide⟩, by decide⟩, ⟨by decide, by decide, by decide +kernel⟩, fun _ => ⟨by decide, by decide +kernel⟩,
    by decide, by decide, by decide +kernel, _, rfl⟩, by decide, fun _ => ⟨fun _ => rfl, by decide⟩⟩
  intro h
  exact absurd rfl h.2.1

theorem witness_SampleDeliversAndCounts_rows :
    (let u := due true
    let s := filtered ex ⟨u, u, u, u, u, u, u, u⟩
    (s.filter .vaf).filled = true ∧ 5 ≤ min 5 ((s.filter .vaf).count + 1)
    ∧ (after (.stationSample seven) s).level .vaf = true ∧ (after (.stationSample seven) s).level .str = false)
    ∧ fo.isFoam = true ∧ fo.working = true
    ∧ (let s := compared fo { pulldown := ripe 19, inert := ripe 9, quiet := ripe 9, chamberWatch := ripe 0 }
      s.mu.cmp.pulldown.armed = true ∧ s.mu.cmp.inert.armed = true ∧ s.mu.cmp.quiet.armed = true
      ∧ s.mu.cmp.chamberWatch.armed = true ∧ s.mu.cmp.chamberStop.armed = false
      ∧ s.mu.cmp.oxygenHigh.met = false ∧ s.cfg.recoveryTime ≠ 0
      ∧ ((after (.stationSample seven) s).mu.cmp.pulldown.due 20 = true)) := by decide +kernel

theorem witness_SampleMovesTripSources_recovery :
    (let s := { ex with
      cfg := { ex.cfg with recoveryTime := 0 }
      pu := { de := true, codes := [22], sources := { ambientStop := ⟨.recovering, 0, expired, true⟩ } } }
    s.working = true ∧ (s.source .ambientStop).st = .recovering ∧ s.cfg.recoveryTime = 0
    ∧ seven.ch3.toNat < s.cfg.ambientStop
    ∧ ((after (.stationSample seven) s).source .ambientStop).st = .normal)
    ∧ (busy.source .clampTimeout).st = .tripped ∧ (busy.cfg.source .clampTimeout).mode ≠ .auto := by decide +kernel

theorem witness_InterlockResetsAndRestartsTheStep_full :
    (let full := pulling.cfg.stepTime .e5
    let s := { filtered pulling { ilk := due true } with sq := { pulling.sq with timer := Timer.reset full } }
    (s.filter .ilk).edgeDue true = true ∧ s.suspendCause = false ∧ s.sq.timer = Timer.reset (s.cfg.stepTime s.sq.step)
    ∧ (after .ilkRise s).sq.timer = Timer.start full) := by decide +kernel

theorem witness_ClaimAndReleaseRunTheSeating_run :
    (let x := waits 5 .extraction .ordinary 120
    (compared ex {}).accepting .A = true ∧ ex.ms.marks = [] ∧ ex.lineHazard = .noHazard
    ∧ ex.seatedNow .A [x] = [{ x with seated := true }]
    ∧ (let s := { ex with pt := { ex.pt with ownHazard := .stop } }
      s.lineHazard = .stop ∧ s.seatedNow .B [{ x with seated := true }] = [x])
    ∧ (let s := { ex with ms := { marks := [3] } }
      s.ms.marks ≠ [] ∧ s.seatedNow .A [x] = [x])
    ∧ (let s := withPeer { ex with cfg := { ex.cfg with condenser := some 5 } } { presence := .live }
      s.accepting .A = false)
    ∧ (let s := { ex with cfg := { ex.cfg with capA := 300 } }
      let e := waits 6 .foam .exclusive 200
      s.seatedNow .A [e, x] = [{ e with seated := true }, x]
      ∧ s.seatedNow .A [e, { x with seated := true }] = [e, { x with seated := true }]
      ∧ s.seatedNow .A [{ e with demand := 301 }, x] = [{ e with demand := 301 }, x]
      ∧ (let y := { waits 7 .extraction .ordinary 200 with seated := true }
      120 ≤ s.cfg.capA ∧ s.cfg.capA < 200 + 120 ∧ s.seatedNow .A [y, x] = [y, x]
      ∧ (let p := waits 8 .foam .priority 150
        s.cfg.capA < 200 + p.demand
        ∧ s.seatedNow .A [p, y, x] = [{ p with seated := true }, { y with seated := false }, x])
      ∧ s.seatedNow .A [waits 9 .foam .priority 301, y] = [waits 9 .foam .priority 301, y]))) := by decide +kernel

theorem witness_SweepChangesTheChamberClass_seat :
    (let s := { fo with
      ch := { fo.ch with st := .sweep, sweepWait := ⟨.running, 9⟩ }
      ms := { own := some ⟨.B, .exclusive, 120⟩, claimHeard := true
              listB := [⟨0, .foam, .exclusive, 120, false⟩, ⟨5, .extraction, .ordinary, 120, true⟩] } }
    s.isFoam = true ∧ s.ch.pending = false ∧ s.pu.de = true ∧ s.pu.de = s.driveRule ∧ s.pt.ownHazard ≠ .stop
    ∧ s.ch.st = .sweep ∧ s.ch.sweepWait.st ≠ .stopped ∧ s.ownSeated = false
    ∧ s.takes .release (msg 5 []) = true ∧ s.mu.cmp.oxygenHigh.met = false
    ∧ (let t := after (.release (msg 5 [])) s
      t.ownSeated = true ∧ t.ch.st = .sweep ∧ t.ch.sweepWait = Timer.stopped
      ∧ t.ch.sweep = Timer.start (1000 * s.cfg.sweepTime))) := by decide +kernel

theorem witness_TelegramsRefreshTheirSender_rows :
    (Instr.offer (zeros 47)).kind = some .offer ∧ ex.hearsFrom (zeros 47) = true
    ∧ ex.takes .offer (zeros 47) = false ∧ ex.takes .offer (zeros 48) = true
    ∧ ex.takes .readNext (zeros 0) = false ∧ (zeros 0).src.toNat ≠ ex.cfg.gateway
    ∧ ex.takes .readNext (gate []) = true
    ∧ (let s := { ex with li := { ex.li with queue := [⟨.accept, 4, [], 1, 3, 0, 0⟩] } }
      s.hearsFrom (zeros 48) = true ∧ s.takes .offer (zeros 48) = false) := by decide +kernel

theorem witness_StatusAndIdleTimers_bytes :
    (let s := { pulling with rs := { lastSequence := 258 } }
    s.working = true ∧ s.statusPayload = [1, 1, 5, 0, 0, 0, 0, 8, 1, 0, 0, 120, 0, 1, 0, 0, 0, 0, 1, 2])
    ∧ (let s := { fo with ch := { fo.ch with st := .purging, path := .vent }, pu := { codes := [25] } }
      s.working = true ∧ s.statusPayload = [2, 1, 21, 3, 0, 0, 4, 0, 0, 0, 0, 0, 25, 1, 0, 1, 0, 0, 0, 0])
    ∧ (joined ex).statusPayload = [1, 0, 255, 0, 0, 0, 0, 8, 0, 0, 0, 0, 0, 1, 0, 0, 0, 0, 0, 0]
    ∧ (withPeer ex { presence := .stale, hazard := .stop }).lineHazard = .stop := by decide +kernel

/-- A line with this queue and nothing in the transmitter. -/
def lineOf (q : List Telegram) : Line := { queue := q, moment := 20 }

theorem witness_TransmitterFollowsTheLine_enqueue :
    (let st := fun c m => (⟨.status, 31, [], c, m, 0, 0⟩ : Telegram)
    let of := fun k c m => (⟨k, 31, [], c, m, 0, 0⟩ : Telegram)
    ((lineOf [st 1 3]).enqueue (st 2 0)).queue = [st 1 3]
    ∧ ((lineOf [st 2 3]).enqueue (st 1 0)).queue = [st 1 3]
    ∧ ((lineOf [of .purgeClear 0 1]).enqueue (of .purgeClear 0 0)).queue = [of .purgeClear 0 1]
    ∧ ((lineOf [of .purgeCall 0 1]).enqueue (of .purgeEnd 0 0)).queue = []
    ∧ ((lineOf [of .claim 2 1, of .offer 2 2]).enqueue (of .accept 1 0)).queue
      = [of .accept 1 20, of .claim 2 1, of .offer 2 2]
    ∧ (let offers := fun n => (List.range n).map fun i => of .offer 2 i
      8 ≤ (lineOf (offers 8)).queue.length
      ∧ ((lineOf (offers 8)).enqueue (of .certificate 3 0)).queue = offers 8
      ∧ ((lineOf (offers 6 ++ [of .certificate 3 8, of .certificate 3 9])).enqueue (of .accept 1 0)).queue
        = of .accept 1 20 :: (offers 6 ++ [of .certificate 3 8])
      ∧ ((lineOf (offers 6 ++ [of .claim 2 8, of .release 2 9])).enqueue (of .claim 2 0)).queue
        = offers 6 ++ [of .claim 2 20]
      ∧ ((lineOf (offers 6 ++ [of .claim 2 8, of .release 2 9])).enqueue (of .accept 1 0)).queue
        = of .accept 1 20 :: (offers 6 ++ [of .release 2 9]))) := by decide +kernel

theorem witness_TransmitterFollowsTheLine_collision :
    (let m : Telegram := ⟨.claim, 31, [], 2, 3, 0, 0⟩
    let s := { ex with li := { transmitter := some m, queue := [⟨.offer, 20, [], 2, 5, 0, 0⟩], moment := 9 } }
    s.li.transmitter = some m ∧ (after .collision s).li.moment = s.li.moment
    ∧ (after .collision s).li.queue = [{ m with collisions := 1, backoff := 4 }, ⟨.offer, 20, [], 2, 5, 0, 0⟩])
    ∧ (let s := { ex with li := { transmitter := some ⟨.status, 31, [], 2, 3, 0, 0⟩,
                                  queue := [⟨.status, 31, [], 2, 5, 0, 0⟩], moment := 9 } }
      (after .collision s).li.moment = s.li.moment ∧ (after .collision s).li.queue = s.li.queue) := by decide +kernel

theorem witness_OwnTelegramIsHeardWhenSent_offer :
    (let s := { ex with
      pt := { ex.pt with entries := List.replicate 24 { presence := .live } }
      li := { transmitter := some ⟨.offer, 20, [], 2, 0, 0, 0⟩ }
      ac := { ex.ac with queue := [{ account := acct 2, st := .done }],
                         offer := { st := .queued, key := some ⟨0, 1, 1⟩ } } }
    s.isExtraction = true ∧ s.inRun = true ∧ (s.peer s.cfg.downstream).presence = .live
    ∧ (∀ e ∈ s.ac.queue, e.st = .done → s.ac.offer.key ≠ some e.account.key)
    ∧ (after .transmitComplete s).ac.offer.key = some ⟨0, 1, 2⟩)
    ∧ (let s := { ex with
        li := { transmitter := some ⟨.claim, 31, [1, 2, 0, 0, 120], 2, 0, 0, 0⟩ }
        ms := { listA := [⟨0, .extraction, .ordinary, 120, true⟩, waits 5 .extraction .ordinary 300] } }
      claimPayload [1, 2, 0, 0, 120] = some (.extraction, ⟨.B, .ordinary, 120⟩) ∧ inList 0 (s.ms.list .A) = true
      ∧ seats (after .transmitComplete s).ms.listA = [(5, true)]
      ∧ seats (after .transmitComplete s).ms.listB = [(0, true)]) := by decide +kernel

/-- A finalized account with every field at some value. -/
def finalized : Account :=
  { key := ⟨23, 255, 65535⟩, tag := some [0x41, 0x7E], refClass := .hc, foamClass := .halo, nameplate := some 1400
    routeTaken := some .AthenB, pierce := some 20000, zeroOffset := some 2000
    flags := { mixedRouting := true, promoted := true }
    result := some ⟨65535, 1, 2, 3, some 1500, 4, 65535, .short⟩ }

theorem witness_OfferIsAnsweredByTheFirstCase_round :
    (finalized.body false).length = 48 ∧ offerOk 23 (finalized.body false) = true
    ∧ accountOf (finalized.body false) = finalized ∧ finalized.foam = none ∧ finalized.handoff = none
    ∧ finalized.sequence = none ∧ byteAt (finalized.body false) 21 = 80
    ∧ half (finalized.body false) 26 = 2000 ∧ half (finalized.body false) 36 = 1500 := by decide +kernel

end Sys2Proof.Tests
end

section
/-! SUPPORT. What a received telegram does, said once for every statement about a step: how a relation between
states passes over the hearing of a telegram, and what is done once the telegram is taken. -/

namespace Sys2Proof.Machine

/-! ### A relation carried over a step -/

/-- A relation between the state before and after a part of a step which holds over each operation that the hearing
of a telegram and the end of a step are made of. -/
structure Carried (R : State → State → Prop) : Prop where
  refl : ∀ s, R s s
  trans : ∀ {s t u}, R s t → R t u → R s u
  endReception : ∀ s : State, R s s.endReception
  refresh : ∀ (s : State) (a : Nat), R s (s.refresh a)
  conflict : ∀ s : State, R s (s.addCode 67)
  downstream : ∀ s old : State, R s (s.downstreamChange old)
  conclude : ∀ s old : State, R s (s.conclude old)

section
variable {R : State → State → Prop}

/-- A command whose condition has not come leaves the state (log 2). -/
theorem Carried.guard (h : Carried R) {p : Prop} [Decidable p] {s t : State} (ht : p → R s t) :
    R s (if p then t else s) := by
  split
  · exact ht ‹p›
  · exact h.refl s

/-- An effect with the end of its step. -/
theorem Carried.concluded (h : Carried R) {s t old : State} (ht : R s t) : R s (t.conclude old) :=
  h.trans ht (h.conclude t old)

/-- Hearing a telegram carries the relation when the telegram's own effect does. -/
theorem Carried.hear (h : Carried R) (s : State) (f : Frame) {act : State → State} (ha : ∀ t, R t (act t)) :
    R s (s.hear f act) := by
  have hend : R s s.endReception := h.endReception s
  unfold State.hear
  split
  · exact h.refl s
  · dsimp only
    split
    · exact hend
    · split
      · exact hend
      · split
        · exact h.trans hend (h.concluded (h.conflict _))
        · split
          · exact hend
          · exact h.trans hend (h.trans (h.refresh _ _) (ha _))

/-- The same for a telegram that is handed on to the block of its kind. -/
theorem Carried.hearKind (h : Carried R) (s : State) (k : Kind) (f : Frame) {act : State → State}
    (ha : ∀ t, R t (act t)) : R s (s.hearKind k f act) := by
  refine h.hear s f fun t => ?_
  have hd : R t (t.downstreamChange s) := h.downstream t s
  split
  · exact h.trans hd (ha _)
  · exact hd

/-- The same for a telegram of SERVICE. -/
theorem Carried.hearService (h : Carried R) (s : State) (k : Kind) (f : Frame) {act : State → State}
    (ha : ∀ t, R t (act t)) : R s (s.hearService k f act) := by
  have hend : R s s.endReception := h.endReception s
  unfold State.hearService
  split
  · exact h.refl s
  · dsimp only
    split
    · exact h.trans hend (ha _)
    · exact hend

end

/-! ### The lists of the account store -/

@[simp] theorem State.setQueue_queue (s : State) (q : List QueueEntry) : (s.setQueue q).ac.queue = q := rfl

@[simp] theorem State.setChamberList_chamber (s : State) (l : List ChamberEntry) :
    (s.setChamberList l).ac.chamber = l := rfl

/-- An account of the queue once it is closed at its origin (R17, R22). -/
def QueueEntry.closedAtOrigin (e : QueueEntry) : QueueEntry :=
  { e with st := .closing, account := { e.account with handoff := some .closedAtOrigin } }

/-- The queue once an account has been closed at its origin. -/
@[simp] theorem State.closeAtOrigin_queue (s : State) (k : Key) :
    (s.closeAtOrigin k).ac.queue =
      s.ac.queue.modify (s.ac.queue.findIdx fun e => e.account.key == k) QueueEntry.closedAtOrigin := rfl

/-- A change of the downstream entry leaves the queue or returns its HELD accounts to DONE (R139). -/
theorem State.downstreamChange_queue (s old : State) :
    (s.downstreamChange old).ac.queue = s.ac.queue ∨ (s.downstreamChange old).ac.queue = resumeHeld s.ac.queue := by
  dsimp only [State.downstreamChange]
  (repeat' split) <;> simp

/-! ### Edges -/

@[simp] theorem Filters.get_set_same (x : Filters) (p : Pin) (f : Filter) : (x.set p f).get p = f := by
  cases p <;> rfl

theorem Filters.get_set_ne (x : Filters) {p q : Pin} (h : q ≠ p) (f : Filter) : (x.set p f).get q = x.get q := by
  cases p <;> cases q <;> first | rfl | exact absurd rfl h

/-- An edge changes the filtered level of its own pin. -/
@[simp] theorem State.edge_level_same (s : State) (p : Pin) : (s.edge p).level p = !s.level p := by
  simp [State.level, State.filter, State.edge, State.setFilter, Filter.toggle]

/-- An edge leaves the filtered level of every other pin. -/
theorem State.edge_level_ne (s : State) {p q : Pin} (h : q ≠ p) : (s.edge p).level q = s.level q := by
  simp [State.level, State.filter, State.edge, State.setFilter, Filters.get_set_ne _ h]

/-- The start edge itself changes nothing of what permits it (R15). -/
@[simp] theorem State.edge_str_startPermitted (s : State) : (s.edge .str).startPermitted = s.startPermitted := by
  have hilk : (s.edge .str).level .ilk = s.level .ilk := s.edge_level_ne (by decide)
  simp [State.startPermitted, State.isExtraction, State.inRun, State.phase, hilk]

/-! ### A telegram that is taken -/

/-- A telegram from which PT takes note of its sender comes to its own effect. -/
theorem State.hear_of_hearsFrom {s : State} {f : Frame} (h : s.hearsFrom f = true) (act : State → State) :
    s.hear f act = act ((s.endReception).refresh f.src.toNat) := by
  simp only [State.hearsFrom, Bool.and_eq_true, Bool.or_eq_true, beq_iff_eq, bne_iff_ne, ne_eq,
    decide_eq_true_eq] at h
  obtain ⟨⟨⟨⟨hear, work⟩, dst⟩, own⟩, station⟩ := h
  have hdst : ¬(f.dst.toNat ≠ s.boot.address ∧ f.dst.toNat ≠ 31) := by tauto
  have hwork : s.endReception.working = true := work
  have hst : ¬24 ≤ f.src.toNat := by omega
  simp [State.hear, hear, hwork, hdst, own, hst]

/-- A telegram that is taken has the effect of its kind on the state that has taken note of the sender. -/
theorem State.hearKind_of_takes {s : State} {k : Kind} {f : Frame} (h : s.takes k f = true)
    (act : State → State) : s.hearKind k f act = act (s.noted f) := by
  simp only [State.takes, Bool.and_eq_true] at h
  obtain ⟨hears, hands⟩ := h
  simp [State.hearKind, State.hear_of_hearsFrom hears, hands, State.noted]

/-- What taking note of a sender leaves unchanged. -/
@[simp] theorem State.noted_frame (s : State) (f : Frame) :
    (s.noted f).boot = s.boot ∧ (s.noted f).cfg = s.cfg ∧ (s.noted f).ms = s.ms ∧ (s.noted f).sq = s.sq ∧
    (s.noted f).ch = s.ch ∧ (s.noted f).mu = s.mu ∧ (s.noted f).ac.intake = s.ac.intake ∧
    (s.noted f).ac.chamber = s.ac.chamber ∧ (s.noted f).ac.nextNumber = s.ac.nextNumber ∧
    (s.noted f).pu = s.pu ∧ (s.noted f).rs = s.rs ∧ (s.noted f).nv = s.nv ∧ (s.noted f).free = s.free ∧
    (s.noted f).pending = s.pending := by
  simp [State.noted]

end Sys2Proof.Machine
end

section
/-! PROOF. Which commands write the sequence, measurement, account, trip and store items (O8): for each command the
list of the items its effect touches, and the list is within what the command may write. -/

namespace Sys2Proof.Machine

/-! ### The items and what leaves them -/

/-- The items of the sequence, the chamber, the measurement unit, the accounts, the trip sources and the store whose
writers O8 names. -/
inductive Item
  | clampHold | repeats | chamberClass | doorOpen | channels | filters | zero | intake | number | sources
  | sequence | commit | lock

/-- An item stands in the second state as it stood in the first. -/
def Item.same (s t : State) : Item → Prop
  | .clampHold => t.sq.clampHold = s.sq.clampHold
  | .repeats => t.sq.repeats = s.sq.repeats ∧ t.sq.used = s.sq.used
  | .chamberClass => t.ch.cls = s.ch.cls
  | .doorOpen => t.ch.doorOpen = s.ch.doorOpen
  | .channels => t.mu.ch = s.mu.ch ∧ t.mu.discA = s.mu.discA ∧ t.mu.discB = s.mu.discB
  | .filters => t.mu.filters = s.mu.filters
  | .zero => t.mu.zero = s.mu.zero ∧ t.mu.zeroRejected = s.mu.zeroRejected
  | .intake => t.ac.intake = s.ac.intake
  | .number => t.ac.nextNumber = s.ac.nextNumber
  | .sources => t.pu.sources = s.pu.sources
  | .sequence => t.rs.lastSequence = s.rs.lastSequence ∧ t.rs.writePosition = s.rs.writePosition
  | .commit => t.rs.commit = s.rs.commit
  | .lock => t.rs.lock = s.rs.lock ∧ t.rs.working = s.rs.working

/-- Whether a command may write an item. -/
def Item.writtenBy (c : Instr) : Item → Bool
  | .clampHold => c.writesClampHold
  | .repeats => c.writesRepeats
  | .chamberClass => c.writesClass
  | .doorOpen => c.writesDoorOpen
  | .channels => c.writesChannels
  | .filters => c.writesFilters
  | .zero => c.writesZero
  | .intake => c.writesIntake
  | .number => c.writesNumber
  | .sources => c.writesSources
  | .sequence => c.writesSequence
  | .commit => c.writesCommit
  | .lock => c.writesLock

/-- A change of the state touches no item but those of a list. -/
def Touches (l : List Item) (s t : State) : Prop := ∀ i, i ∉ l → i.same s t

/-- `Touches` item by item: each is in the list or as it was. -/
theorem touches_iff {l : List Item} {s t : State} :
    Touches l s t ↔
      (.clampHold ∈ l ∨ t.sq.clampHold = s.sq.clampHold)
      ∧ (.repeats ∈ l ∨ t.sq.repeats = s.sq.repeats ∧ t.sq.used = s.sq.used)
      ∧ (.chamberClass ∈ l ∨ t.ch.cls = s.ch.cls)
      ∧ (.doorOpen ∈ l ∨ t.ch.doorOpen = s.ch.doorOpen)
      ∧ (.channels ∈ l ∨ t.mu.ch = s.mu.ch ∧ t.mu.discA = s.mu.discA ∧ t.mu.discB = s.mu.discB)
      ∧ (.filters ∈ l ∨ t.mu.filters = s.mu.filters)
      ∧ (.zero ∈ l ∨ t.mu.zero = s.mu.zero ∧ t.mu.zeroRejected = s.mu.zeroRejected)
      ∧ (.intake ∈ l ∨ t.ac.intake = s.ac.intake)
      ∧ (.number ∈ l ∨ t.ac.nextNumber = s.ac.nextNumber)
      ∧ (.sources ∈ l ∨ t.pu.sources = s.pu.sources)
      ∧ (.sequence ∈ l ∨ t.rs.lastSequence = s.rs.lastSequence ∧ t.rs.writePosition = s.rs.writePosition)
      ∧ (.commit ∈ l ∨ t.rs.commit = s.rs.commit)
      ∧ (.lock ∈ l ∨ t.rs.lock = s.rs.lock ∧ t.rs.working = s.rs.working) := by
  simp only [← or_iff_not_imp_left, Touches]
  constructor
  · intro h
    exact ⟨h .clampHold, h .repeats, h .chamberClass, h .doorOpen, h .channels, h .filters, h .zero, h .intake,
      h .number, h .sources, h .sequence, h .commit, h .lock⟩
  · rintro ⟨h1, h2, h3, h4, h5, h6, h7, h8, h9, h10, h11, h12, h13⟩ i
    cases i <;> assumption

theorem Touches.trans {l : List Item} {s t u : State} (h : Touches l s t) (k : Touches l t u) :
    Touches l s u := by
  intro i hi
  have hs : i.same s t := h i hi
  have ht : i.same t u := k i hi
  cases i <;> simp_all [Item.same]

/-- The hearing of a telegram and the end of a step touch no item. -/
theorem touches_carried (l : List Item) : Carried (Touches l) where
  refl s := by simp [touches_iff]
  trans := Touches.trans
  endReception s := by simp [touches_iff]
  refresh s a := by simp [touches_iff]
  conflict s := by simp [touches_iff]
  downstream s old := by simp [touches_iff]
  conclude s old := by simp [touches_iff]

/-! ### What each command touches -/

/-- Every item. -/
def Item.all : List Item :=
  [.clampHold, .repeats, .chamberClass, .doorOpen, .channels, .filters, .zero, .intake, .number, .sources, .sequence,
    .commit, .lock]

/-- The items a command's effect touches. -/
def Instr.touched : Instr → List Item
  | .start _ | .starting => Item.all
  | .supplyWarning d => if d < resetThreshold then Item.all else [.commit, .lock]
  | .inputFilterFill _ => [.filters, .sequence, .lock]
  | .stationSample _ => [.channels, .filters, .sources]
  | .valveDiscrepancy _ | .tripFilterMet _ | .recoveryTimerExpiry _ | .faultClear _ => [.sources]
  | .faultClearButton => [.filters, .sources]
  | .ilkFall | .ilkRise | .hcdRise | .srfChange => [.filters]
  | .startEdge => [.filters, .repeats, .number]
  | .clcRise => [.filters, .clampHold]
  | .clcFall => [.filters, .clampHold, .repeats, .sources]
  | .clampTimeout => [.clampHold, .sources]
  | .zeroWindowComplete => [.zero, .sources]
  | .pulldownTimeout | .abandonAccount _ => [.clampHold]
  | .holdTimeExpiry | .releaseTimeExpiry => [.clampHold, .repeats]
  | .sweepTimerExpiry => [.chamberClass]
  | .drcFall => [.filters, .doorOpen]
  | .drcRise => [.filters, .doorOpen, .intake]
  | .announce _ => [.number]
  | .offer _ => [.intake]
  | .commitBegin => [.commit]
  | .commitVerify _ => [.commit, .sequence]
  | .key _ | .configWrite _ | .configCommit _ | .configCommitVerify _ | .serviceIdleTimerExpiry => [.lock]
  | _ => []

/-- The supply warning below the reset threshold empties the volatile state, and may write every item. -/
theorem writtenBy_of_supplyReset {d : Nat} (h : d < resetThreshold) (i : Item) :
    i.writtenBy (.supplyWarning d) = true := by
  have he : (Instr.supplyWarning d).empties = true := decide_eq_true h
  cases i <;> first | exact he | rfl

/-- A command touches only items it may write. -/
theorem touched_writtenBy (c : Instr) : (Instr.touched c).all (Item.writtenBy c) = true := by
  cases c with
  | supplyWarning d =>
    by_cases h : d < resetThreshold
    · exact List.all_eq_true.mpr fun i _ => writtenBy_of_supplyReset h i
    · simp only [Instr.touched, h, if_false]
      rfl
  | _ => rfl

/-- Every item is in the list of all. -/
theorem touches_all (s t : State) : Touches Item.all s t := by simp [touches_iff, Item.all]

/-- The first sample touches what every sample touches. -/
theorem firstSample_touches (x : Sample) (s : State) :
    Touches [.channels, .filters, .sources] s (s.firstSample x) := by
  simp [touches_iff, State.firstSample]

/-- What the effect of a command touches. -/
theorem exec_touches {c : Instr} {s t : State} (h : exec c s = .next t) : Touches (Instr.touched c) s t := by
  have hc : Carried (Touches (Instr.touched c)) := touches_carried _
  cases c with
  | start cause | starting => exact touches_all s t
  | supplyWarning d =>
    cases h
    by_cases hd : d < resetThreshold
    · simpa only [Instr.touched, hd, if_true] using touches_all s _
    · simp only [Instr.touched, hd, if_false]
      split
      · simp [touches_iff]
      · split <;> simp [touches_iff, State.warnSupply]
  | joiningEnd | tripFilterMet x | recoveryTimerExpiry x | ilkFall | ilkRise | clampTimeout | classifyTimeExpiry
  | pulldownReached | pulldownTimeout | pStart | starvationPromotion | releaseTimeExpiry | ownHazardChange
  | oxygenHigh | oxygenUnderRunLimit | inertReached | purgeClearMet | carryOverExpiry x | srfChange | doorTimerExpiry
  | sweepWaitExpiry | sweepTimerExpiry | sweepRetryExpiry | purgeWaitExpiry | answerTimerExpiry | holdOffExpiry
  | peerStale x | statusTimerExpiry | serviceStatusExpiry | serviceIdleTimerExpiry | telegramDiscard x
  | headerHigh | faultClearButton | clcFall =>
    cases h
    exact hc.guard fun _ => by simp [touches_iff, Instr.touched]
  | lineIdle | lineBusy =>
    cases h
    split <;> simp [touches_iff]
  | faultClear f | release f | purgeCall f | purgeClear f | purgeEnd f | certificate f | readData f | checkResult f
  | configAnswer f | read f | collect f | checkRange f =>
    cases h
    exact hc.hearKind _ _ _ fun t => by simp [touches_iff, Instr.touched]
  | readNext f | claim f =>
    cases h
    exact hc.hearKind _ _ _ fun t => by split <;> simp [touches_iff]
  | announce f | closeAccount f | abandonAccount f | offer f | accept f | refuse f =>
    cases h
    exact hc.hearKind _ _ _ fun t => hc.guard fun _ => by simp [touches_iff, Instr.touched]
  | key f | configWrite f | configCommit f =>
    cases h
    split
    · exact hc.hearService _ _ _ fun t => by simp [touches_iff, Instr.touched]
    · exact hc.hearKind _ _ _ fun t => hc.refl t
  | status f =>
    cases h
    exact hc.hear _ _ fun t => by split <;> simp [touches_iff]
  | kindCodeNotInTable code f =>
    cases h
    split
    · exact hc.refl s
    · exact hc.hear _ _ fun t => hc.downstream t s
  | stationSample x =>
    cases h
    split
    · exact hc.refl s
    · split
      · exact firstSample_touches x s
      · dsimp only
        split <;> simp [touches_iff, Instr.touched]
  | valveDiscrepancy r =>
    cases h
    refine hc.guard fun _ => ?_
    dsimp only
    split
    · refine hc.concluded ?_
      split <;> simp [touches_iff, Instr.touched]
    · simp [touches_iff]
  | hcdRise | headerRecovered | purgeNeeded | drcFall | zeroWindowComplete =>
    cases h
    refine hc.guard fun _ => hc.concluded ?_
    split <;> simp [touches_iff, Instr.touched]
  | drcRise =>
    cases h
    refine hc.guard fun _ => ?_
    dsimp only
    split <;> simp [touches_iff, Instr.touched]
  | inputFilterFill pin | startEdge | clcRise | holdTimeExpiry | quiet =>
    cases h
    refine hc.guard fun _ => ?_
    split <;> simp [touches_iff, Instr.touched]
  | transmitStart bits =>
    cases h
    split
    · exact hc.refl s
    · exact hc.guard fun _ => by simp [touches_iff]
  | collision =>
    cases h
    split
    · exact hc.refl s
    · refine hc.concluded ?_
      split <;> simp [touches_iff]
  | transmitComplete | configCommitVerify ws =>
    cases h
    split <;> simp [touches_iff, Instr.touched]
  | commitBegin =>
    cases h
    split
    · exact hc.refl s
    · split
      · exact hc.refl s
      · exact hc.guard fun _ => by simp [touches_iff, Instr.touched]
  | commitVerify bs =>
    cases h
    split
    · exact hc.refl s
    · refine hc.concluded ?_
      split <;> simp [touches_iff, Instr.touched]
  | collectMark =>
    cases h
    split
    · exact hc.refl s
    · exact hc.guard fun _ => by simp [touches_iff]
  | supplyWarningEnd d =>
    cases h
    split
    · simp [touches_iff]
    · exact hc.guard fun _ => by simp [touches_iff]

/-- What a command may not write stands as it stood. -/
theorem exec_same {c : Instr} {s t : State} (h : exec c s = .next t) (i : Item) (hw : i.writtenBy c = false) :
    i.same s t := by
  refine exec_touches h i fun hi => ?_
  have hwritten : i.writtenBy c = true := List.all_eq_true.mp (touched_writtenBy c) i hi
  simp [hw] at hwritten

/-- Settles O8: the items a command touches are among those it may write. -/
theorem sequenceAccountAndStoreWriters : Obligations.SequenceAccountAndStoreWriters := by
  intro c s t h
  exact ⟨exec_same h .clampHold, exec_same h .repeats, exec_same h .chamberClass, exec_same h .doorOpen,
    exec_same h .channels, exec_same h .filters, exec_same h .zero, exec_same h .intake, exec_same h .number,
    exec_same h .sources, exec_same h .sequence, exec_same h .commit, exec_same h .lock⟩

end Sys2Proof.Machine
end

section
/-! PROOF. The account lists keep their bounds over every step (O15). The bounds of a state follow from those of
another whose lists are no longer and no fuller (`WithinBounds`), which covers most operations. The few that let an
account in, close a window or end an extraction are treated one by one. -/

namespace Sys2Proof.Machine

/-! ### The bounds, list by list -/

/-- The number of ACTIVE accounts in an extraction queue (R9). -/
def activeCount (q : List QueueEntry) : Nat := (q.filter fun e => e.st == .active).length

/-- The bounds of the extraction queue at a step (R7, R9, R48). -/
def queueBounded (q : List QueueEntry) (st : Step) : Prop :=
  q.length ≤ 4 ∧ activeCount q ≤ 1 ∧ (st = .e0 → activeCount q = 0)

/-- The states of the chamber list (R11). -/
def windows (l : List ChamberEntry) : List WindowState := l.map (·.st)

/-- At most one RECEIVING account in a chamber list, and one whenever a window is open (R9, R11). -/
def oneReceives (ws : List WindowState) : Prop :=
  ws.count .receiving ≤ 1 ∧ ((∃ w ∈ ws, w ≠ .closed) → .receiving ∈ ws)

/-- A cabinet may pass the door (R82). -/
def Chamber.passable (c : Chamber) : Prop := c.st = .entry ∨ c.doorOpen = true

/-- The bounds of the chamber list (R11, R82). -/
def chamberBounded (l : List ChamberEntry) (c : Chamber) : Prop :=
  l.length ≤ 3 ∧ (c.passable → l.length < 3) ∧ oneReceives (windows l)

/-- No ACTIVE account is none counted. -/
theorem active_none_iff (a : Accounts) : a.active = none ↔ activeCount a.queue = 0 := by
  simp [Accounts.active, activeCount]

/-- The RECEIVING account of the chamber list, by the states alone. -/
theorem receiving_isSome_iff (a : Accounts) : a.receiving.isSome = true ↔ .receiving ∈ windows a.chamber := by
  simp [Accounts.receiving, windows]

theorem any_receiving_iff (l : List ChamberEntry) :
    (l.any fun e => e.st == .receiving) = true ↔ .receiving ∈ windows l := by
  simp [windows]

/-- An open account of the chamber list, by the states alone. -/
theorem any_isOpen_iff (l : List ChamberEntry) :
    l.any ChamberEntry.isOpen = true ↔ ∃ w ∈ windows l, w ≠ .closed := by
  simp [ChamberEntry.isOpen, windows]

/-- The RECEIVING accounts counted by the states alone. -/
theorem receiving_count (l : List ChamberEntry) :
    (l.filter fun e => e.st == .receiving).length = (windows l).count .receiving := by
  rw [windows, List.count, List.countP_map, List.countP_eq_length_filter]
  rfl

/-- The bounds of R7, R9, R11, R12, R48 and R82, list by list. -/
theorem State.accountsOk_iff (s : State) :
    s.accountsOk ↔
      queueBounded s.ac.queue s.sq.step ∧ s.ac.intake.length ≤ 4 ∧ chamberBounded s.ac.chamber s.ch := by
  simp only [State.accountsOk, queueBounded, chamberBounded, oneReceives, active_none_iff, receiving_isSome_iff,
    any_isOpen_iff, receiving_count, Chamber.passable, activeCount]
  tauto

/-! ### Lists that are no longer and no fuller -/

/-- The account lists of the second state are no longer than those of the first, no more of their accounts are ACTIVE,
the windows stand as they stood, and E0 and the passage of the door are not new. -/
structure WithinBounds (s t : State) : Prop where
  queue : t.ac.queue.length ≤ s.ac.queue.length
  active : activeCount t.ac.queue ≤ activeCount s.ac.queue
  rest : t.sq.step = .e0 → s.sq.step = .e0
  intake : t.ac.intake.length ≤ s.ac.intake.length
  windows : windows t.ac.chamber = windows s.ac.chamber
  door : t.ch.passable → s.ch.passable

/-- A part of a step keeps the bounds of the account lists. -/
def KeepsBounds (s t : State) : Prop := s.accountsOk → t.accountsOk

theorem KeepsBounds.trans {s t u : State} (h : KeepsBounds s t) (k : KeepsBounds t u) : KeepsBounds s u :=
  fun hs => k (h hs)

theorem WithinBounds.trans {s t u : State} (h : WithinBounds s t) (k : WithinBounds t u) : WithinBounds s u where
  queue := k.queue.trans h.queue
  active := k.active.trans h.active
  rest := h.rest ∘ k.rest
  intake := k.intake.trans h.intake
  windows := k.windows.trans h.windows
  door := h.door ∘ k.door

theorem WithinBounds.keeps {s t : State} (h : WithinBounds s t) : KeepsBounds s t := by
  have hlen : t.ac.chamber.length = s.ac.chamber.length := by
    simpa [Machine.windows] using congrArg List.length h.windows
  simp only [KeepsBounds, State.accountsOk_iff, queueBounded, chamberBounded, hlen, h.windows]
  rintro ⟨⟨hq, ha, hr⟩, hi, hl, hd, hw⟩
  have active := h.active
  exact ⟨⟨h.queue.trans hq, active.trans ha, fun he => by have := hr (h.rest he); omega⟩, h.intake.trans hi, hl,
    fun hp => hd (h.door hp), hw⟩

/-- Equal lists are within bounds. -/
theorem WithinBounds.of_frame {s t : State} (h : t.ac.queue = s.ac.queue ∧ t.ac.intake = s.ac.intake ∧
    t.ac.chamber = s.ac.chamber ∧ (t.sq.step = .e0 → s.sq.step = .e0) ∧
    (t.ch.st = .entry → s.ch.st = .entry) ∧ t.ch.doorOpen = s.ch.doorOpen) : WithinBounds s t := by
  obtain ⟨hq, hi, hc, hs, hst, hd⟩ := h
  exact ⟨by rw [hq], by rw [hq], hs, by rw [hi], by rw [hc], by simp only [Chamber.passable, hd]; tauto⟩

/-- A queue that is no longer and no fuller. -/
theorem withinBounds_setQueue {s : State} {q : List QueueEntry} (hl : q.length ≤ s.ac.queue.length)
    (ha : activeCount q ≤ activeCount s.ac.queue) : WithinBounds s (s.setQueue q) where
  queue := hl
  active := ha
  rest := id
  intake := le_rfl
  windows := rfl
  door := id

/-- A change of accounts that makes none of them ACTIVE. -/
theorem activeCount_map_le {f : QueueEntry → QueueEntry} (hf : ∀ e, (f e).st = .active → e.st = .active)
    (q : List QueueEntry) : activeCount (q.map f) ≤ activeCount q := by
  induction q with
  | nil => simp [activeCount]
  | cons e es ih =>
    simp only [activeCount, List.map_cons, List.filter_cons, beq_iff_eq] at ih ⊢
    by_cases he : (f e).st = .active
    · simpa [he, hf e he] using ih
    · simp only [he, if_false]
      split
      · simp only [List.length_cons]; omega
      · exact ih

theorem withinBounds_map (s : State) {f : QueueEntry → QueueEntry}
    (hf : ∀ e, (f e).st = .active → e.st = .active) :
    WithinBounds s (s.setQueue (s.ac.queue.map f)) :=
  withinBounds_setQueue (by simp) (activeCount_map_le hf _)

/-- A change made to the ACTIVE account alone. -/
theorem withinBounds_onActive (s : State) (f : QueueEntry → QueueEntry) : WithinBounds s (s.onActive f) := by
  refine withinBounds_map s fun e => ?_
  split
  · intro _; assumption
  · exact id

/-- Accounts that leave the queue. -/
theorem activeCount_sublist {q r : List QueueEntry} (h : q.Sublist r) : activeCount q ≤ activeCount r :=
  (h.filter _).length_le

theorem withinBounds_sublist {s : State} {q : List QueueEntry} (h : q.Sublist s.ac.queue) :
    WithinBounds s (s.setQueue q) :=
  withinBounds_setQueue h.length_le (activeCount_sublist h)

/-- A change of one account that does not make it ACTIVE. -/
theorem activeCount_modify_le {f : QueueEntry → QueueEntry} (hf : ∀ e, (f e).st ≠ .active) (q : List QueueEntry)
    (n : Nat) : activeCount (q.modify n f) ≤ activeCount q := by
  induction q generalizing n with
  | nil => simp [activeCount]
  | cons e es ih =>
    cases n with
    | zero =>
      simp only [activeCount, List.modify_zero_cons, List.filter_cons, beq_iff_eq, hf, if_false]
      split <;> simp
    | succ n =>
      have hn := ih n
      simp only [activeCount, List.modify_succ_cons, List.filter_cons] at hn ⊢
      split
      · simpa using hn
      · exact hn

/-! ### The extraction sequence -/

/-- The route change of R62 changes the ACTIVE account. -/
theorem routeChange_within (s : State) : WithinBounds s s.routeChange := by
  have hq : WithinBounds s (s.setSq { s.sq with routeB := true }) := .of_frame (by simp)
  exact (hq.trans (withinBounds_onActive _ QueueEntry.rerouted)).trans (.of_frame (by simp [State.routeChange]))

theorem enterE5_within (s : State) : WithinBounds s s.enterE5 := by
  have ht : WithinBounds s ((s.enterTimed .e5).setPulldown Comparator.disarm) :=
    .of_frame (by simp [State.enterTimed])
  simp only [State.enterE5]
  split
  · exact ht.trans (routeChange_within _)
  · exact ht

theorem enterE7_within (s : State) : WithinBounds s s.enterE7 :=
  .of_frame (by simp [State.enterE7])

theorem endClassify_within (s : State) : WithinBounds s s.endClassify := by
  have ha := withinBounds_onActive s (QueueEntry.routed s.declaredClass s.sq.detected)
  simp only [State.endClassify]
  split <;> exact ha.trans (.of_frame (by simp))

theorem settleE3_within (s : State) : WithinBounds s s.settleE3 := by
  have ht : WithinBounds s (s.setSq
      { s.sq with timer := s.stepTimer, detected := s.sq.detected || s.level .in3 }) := .of_frame (by simp)
  simp only [State.settleE3]
  split
  · exact ht.trans (endClassify_within _)
  · exact ht

theorem settleE4_within (s : State) : WithinBounds s s.settleE4 := by
  have ht : WithinBounds s (s.setSq { s.sq with starve := Timer.stopped }) := .of_frame (by simp)
  unfold State.settleE4
  split
  · exact (ht.trans (enterE5_within _)).trans (.of_frame (by simp))
  · exact .of_frame (by simp)

/-- SQ's reaction at an EXTRACTION station. -/
theorem settleExtraction_within (s : State) : WithinBounds s s.settleExtraction := by
  have starve {t : State} (h : WithinBounds s t) : WithinBounds s t.settleStarve :=
    h.trans (.of_frame (by simp))
  unfold State.settleExtraction
  apply starve
  split
  · exact .of_frame (by simp)
  · exact .of_frame (by simp)
  · exact settleE3_within s
  · exact settleE4_within s
  · exact .of_frame (by simp)
  · exact .of_frame (by simp)
  · exact .of_frame (by simp)
  · exact .of_frame (by simp)

/-! ### The chamber list -/

/-- Bounds that rest on the length of the chamber list and on the states of its accounts. -/
theorem keepsBounds_of_chamber {s t : State} (hq : t.ac.queue = s.ac.queue) (hs : t.sq.step = s.sq.step)
    (hi : t.ac.intake = s.ac.intake) (hc : s.accountsOk → chamberBounded t.ac.chamber t.ch) : KeepsBounds s t := by
  intro h
  have hb := (State.accountsOk_iff s).mp h
  rw [State.accountsOk_iff, hq, hs, hi]
  exact ⟨hb.1, hb.2.1, hc h⟩

/-- An open account is RECEIVING or WAITING. -/
theorem windowState_open_cases {w : WindowState} (h : w ≠ .closed) : w = .receiving ∨ w = .waiting := by
  cases w <;> simp_all

/-- Naming the oldest open account leaves one RECEIVING where at most one was (R11). -/
theorem oneReceives_nameReceiving {l : List ChamberEntry} (h : (windows l).count .receiving ≤ 1) :
    oneReceives (windows (nameReceiving l)) := by
  induction l with
  | nil => simp [nameReceiving, windows, oneReceives]
  | cons e es ih =>
    by_cases hr : .receiving ∈ windows (e :: es)
    · have hn : nameReceiving (e :: es) = e :: es := by
        rw [nameReceiving, if_pos ((any_receiving_iff _).mpr hr)]
      rw [hn]
      exact ⟨h, fun _ => hr⟩
    · have hany : ((e :: es).any fun e => e.st == .receiving) = false :=
        Bool.eq_false_iff.mpr fun ha => hr ((any_receiving_iff _).mp ha)
      have hes : .receiving ∉ windows es := fun hm => hr (List.mem_cons_of_mem _ hm)
      have hzero : (windows es).count .receiving = 0 := List.count_eq_zero.mpr hes
      have he : e.st ≠ .receiving := fun hm => hr (by simp [windows, hm])
      rw [nameReceiving, hany]
      simp only [Bool.false_eq_true, if_false]
      split
      · simpa [windows, oneReceives] using hzero
      · rename_i hw
        have hcl : e.st = .closed := by cases hst : e.st <;> simp_all
        have := ih (by omega)
        simpa [windows, oneReceives, hcl] using this

theorem nameReceiving_length (l : List ChamberEntry) : (nameReceiving l).length = l.length := by
  induction l with
  | nil => simp [nameReceiving]
  | cons e es ih =>
    rw [nameReceiving]
    split
    · rfl
    · split <;> simp [ih]

/-- Closing accounts adds no RECEIVING one. -/
theorem receiving_count_close (p : ChamberEntry → Prop) [DecidablePred p] (l : List ChamberEntry) :
    (windows (l.map fun f => if p f then closeEntry f else f)).count .receiving ≤ (windows l).count .receiving := by
  induction l with
  | nil => simp [windows]
  | cons e es ih =>
    simp only [windows, List.map_cons, List.count_cons] at ih ⊢
    by_cases he : p e
    · have hst : (if p e then closeEntry e else e).st = .closed := by rw [if_pos he]; rfl
      simp only [hst, beq_iff_eq, reduceCtorEq, if_false]
      omega
    · simp only [he, if_false]
      omega

/-- A window that closes (R98). -/
theorem closeWindow_keeps (s : State) (k : Key) : KeepsBounds s (s.closeWindow k) := by
  have hlist (l : List ChamberEntry) (hc : chamberBounded s.ac.chamber s.ch)
      (hl : l = nameReceiving
        (s.ac.chamber.map fun f => if f.account.key = k ∧ f.isOpen then closeEntry f else f)) :
      chamberBounded l s.ch := by
    obtain ⟨hlen, hdoor, hone, _⟩ := hc
    have hlen' : l.length = s.ac.chamber.length := by rw [hl, nameReceiving_length, List.length_map]
    rw [chamberBounded, hlen', hl]
    exact ⟨hlen, hdoor, oneReceives_nameReceiving ((receiving_count_close _ _).trans hone)⟩
  refine keepsBounds_of_chamber (by simp) (by simp) (by simp) fun h => ?_
  obtain ⟨-, -, hc⟩ := (State.accountsOk_iff s).mp h
  unfold State.closeWindow
  split
  · exact hc
  · dsimp only
    split <;> exact hlist _ hc rfl

theorem closeDue_keeps (l : List ChamberEntry) (s : State) : KeepsBounds s (State.closeDue l s) := by
  induction l generalizing s with
  | nil => exact id
  | cons e es ih =>
    unfold State.closeDue
    split
    · exact (closeWindow_keeps s _).trans (ih _)
    · exact ih s

/-- A change of the chamber list that leaves the states of its accounts. -/
theorem withinBounds_setChamberList (s : State) {l : List ChamberEntry} (h : windows l = windows s.ac.chamber) :
    WithinBounds s (s.setChamberList l) where
  queue := le_rfl
  active := le_rfl
  rest := id
  intake := le_rfl
  windows := h
  door := id

theorem settleCarry_keeps (s : State) : KeepsBounds s s.settleCarry := by
  have ht : WithinBounds s (s.setChamberList (followCarry s.chamberValve s.ac.chamber)) :=
    withinBounds_setChamberList s (by simp [windows, followCarry])
  simp only [State.settleCarry]
  split
  · exact ht.keeps.trans (closeDue_keeps _ _)
  · exact ht.keeps

theorem flagPurged_windows (l : List ChamberEntry) : windows (flagPurged l) = windows l := by
  simp only [windows, flagPurged, List.map_map]
  refine List.map_congr_left fun e _ => ?_
  simp only [Function.comp]
  split <;> rfl

theorem startCarry_windows (ms : Nat) (on : Bool) (l : List ChamberEntry) :
    windows (startCarry ms on l) = windows l := by
  induction l with
  | nil => rfl
  | cons e es ih =>
    unfold startCarry
    split
    · simpa [windows] using ih
    · split <;> rfl

/-! ### The chamber states -/

/-- The state of the chamber once it has been entered. -/
@[simp] theorem State.enterHalted_st (s : State) : s.enterHalted.ch.st = .halted := by
  simp [State.enterHalted, State.setChamberState]

@[simp] theorem State.enterInerting_st (s : State) : s.enterInerting.ch.st = .inerting := by
  simp [State.enterInerting]

@[simp] theorem State.enterReady_st (s : State) : s.enterReady.ch.st = .ready := by
  simp only [State.enterReady]
  split <;> simp [State.setChamberState]

@[simp] theorem State.enterSweep_st (s : State) : s.enterSweep.ch.st = .sweep := by
  simp [State.enterSweep]

@[simp] theorem State.enterPurging_st (s : State) : s.enterPurging.ch.st = .purging := by
  simp [State.enterPurging]

/-- ENTRY is entered with a place in the chamber list (R82). -/
theorem enterEntry_keeps {s : State} (h : s.entryConditions = true) : KeepsBounds s s.enterEntry := by
  have hroom : s.ac.chamber.length < 3 := by
    unfold State.entryConditions at h
    split at h
    · cases h
    · simp only [Bool.and_eq_true, decide_eq_true_eq] at h
      obtain ⟨⟨⟨⟨⟨room, -⟩, -⟩, -⟩, -⟩, -⟩ := h
      exact room
  refine keepsBounds_of_chamber (by simp) (by simp) (by simp) fun hs => ?_
  obtain ⟨-, -, hlen, -, hone⟩ := (State.accountsOk_iff s).mp hs
  exact ⟨by simpa using hlen, fun _ => by simpa using hroom, by simpa using hone⟩

theorem enterPurging_within (s : State) : WithinBounds s s.enterPurging := by
  refine (withinBounds_setChamberList s (flagPurged_windows s.ac.chamber)).trans (.of_frame ?_)
  simp [State.enterPurging]

/-- A change of the chamber's state (R78 to R93). -/
theorem chamberMove_keeps {s t : State} (h : s.chamberMove = some t) : KeepsBounds s t := by
  have keeps {t : State} (ht : t.ac = s.ac) (hq : t.sq = s.sq) (hst : t.ch.st = .entry → s.ch.st = .entry)
      (hd : t.ch.doorOpen = s.ch.doorOpen) : KeepsBounds s t :=
    (WithinBounds.of_frame ⟨by rw [ht], by rw [ht], by rw [ht], by rw [hq]; exact id, hst, hd⟩).keeps
  unfold State.chamberMove at h
  cases hst : s.ch.st with
  | ready =>
    simp only [hst] at h
    split at h
    · cases h
      exact keeps (by simp) (by simp) (by simp) (by simp)
    · split at h
      · cases h
        exact enterEntry_keeps ‹_›
      · split at h <;> cases h
        exact keeps (by simp) (by simp) (by simp) (by simp)
  | inerting | entry | sweep | halted | purging =>
    simp only [hst] at h
    (repeat' split at h) <;> cases h <;> exact keeps (by simp) (by simp) (by simp) (by simp)

theorem chamberMoves_keeps (n : Nat) (s : State) : KeepsBounds s (State.chamberMoves n s) := by
  induction n generalizing s with
  | zero => exact id
  | succ n ih =>
    unfold State.chamberMoves
    split
    · exact (chamberMove_keeps ‹_›).trans (ih _)
    · exact id

/-- SQ's reaction at a FOAM station. -/
theorem settleChamber_keeps (s : State) : KeepsBounds s s.settleChamber := by
  unfold State.settleChamber
  split
  · exact id
  · have moves := chamberMoves_keeps 6 s
    have sweep (t : State) : KeepsBounds t t.settleSweep := (WithinBounds.of_frame (by simp)).keeps
    have quiet (t : State) : KeepsBounds t t.settleQuiet := (WithinBounds.of_frame (by simp)).keeps
    exact ((moves.trans (sweep _)).trans (settleCarry_keeps _)).trans (quiet _)

/-! ### The end of a step -/

/-- The end of a step keeps the bounds, in either role. -/
theorem concludeIf_keeps (s : State) (b : Bool) (old : State) : KeepsBounds s (s.concludeIf b old) := by
  have settle : KeepsBounds s s.settle := by
    unfold State.settle
    split
    · exact settleChamber_keeps s
    · exact (settleExtraction_within s).keeps
  exact settle.trans (WithinBounds.of_frame (by simp [State.concludeIf])).keeps

/-- HELD accounts that return to DONE, and an offer placed (R132, R134, R139). -/
theorem downstreamChange_within (s old : State) : WithinBounds s (s.downstreamChange old) := by
  have held : WithinBounds s (s.setQueue (resumeHeld s.ac.queue)) := by
    refine withinBounds_map s fun e => ?_
    split
    · intro h; cases h
    · exact id
  rcases s.downstreamChange_queue old with h | h
  · exact .of_frame (by simp [h])
  · exact held.trans (.of_frame (by simp [h]))

/-- The hearing of a telegram and the end of a step keep the bounds. -/
theorem keepsBounds_carried : Carried KeepsBounds where
  refl _ := id
  trans := KeepsBounds.trans
  endReception _ := (WithinBounds.of_frame (by simp)).keeps
  refresh _ _ := (WithinBounds.of_frame (by simp)).keeps
  conflict _ := (WithinBounds.of_frame (by simp)).keeps
  downstream s old := (downstreamChange_within s old).keeps
  conclude s old := concludeIf_keeps s false old

/-! ### Accounts that come and go -/

theorem keeps_of_frame {s t : State} (h : t.ac.queue = s.ac.queue ∧ t.ac.intake = s.ac.intake ∧
    t.ac.chamber = s.ac.chamber ∧ (t.sq.step = .e0 → s.sq.step = .e0) ∧
    (t.ch.st = .entry → s.ch.st = .entry) ∧ t.ch.doorOpen = s.ch.doorOpen) : KeepsBounds s t :=
  (WithinBounds.of_frame h).keeps

/-- Bounds that rest on the extraction queue and the step. -/
theorem keepsBounds_of_queue {s t : State} (hi : t.ac.intake = s.ac.intake) (hc : t.ac.chamber = s.ac.chamber)
    (hch : t.ch = s.ch) (hq : s.accountsOk → queueBounded t.ac.queue t.sq.step) : KeepsBounds s t := by
  intro h
  obtain ⟨-, hin, hcham⟩ := (State.accountsOk_iff s).mp h
  rw [State.accountsOk_iff, hi, hc, hch]
  exact ⟨hq h, hin, hcham⟩

theorem activeCount_append (q r : List QueueEntry) : activeCount (q ++ r) = activeCount q + activeCount r := by
  simp [activeCount]

/-- A new ANNOUNCED account takes a free place (R14). -/
theorem createAnnounced_keeps {s : State} (a : Account) (hroom : s.ac.queue.length < 4) :
    KeepsBounds s (s.createAccount a .announced) := by
  refine keepsBounds_of_queue (by simp) (by simp) (by simp) fun h => ?_
  obtain ⟨⟨-, hone, hrest⟩, -⟩ := (State.accountsOk_iff s).mp h
  have hcount : activeCount (s.createAccount a .announced).ac.queue = activeCount s.ac.queue := by
    simp [State.createAccount, activeCount]
  refine ⟨?_, by rw [hcount]; exact hone, by rw [hcount]; simpa using hrest⟩
  simp only [State.createAccount, State.setAc_ac, List.length_append, List.length_singleton]
  omega

theorem takeAnnounce_keeps (s : State) (p : List Byte) : KeepsBounds s (s.takeAnnounce p) := by
  unfold State.takeAnnounce
  dsimp only
  split
  · exact id
  · split
    · refine (withinBounds_map s fun e => ?_).keeps
      split <;> exact id
    · split
      · exact keeps_of_frame (by simp)
      · split
        · exact createAnnounced_keeps _ ‹_›
        · exact keeps_of_frame (by simp)

theorem dropQueue_within (s : State) (k : Key) : WithinBounds s (s.dropQueue k) :=
  withinBounds_sublist List.eraseP_sublist

theorem closeAtOrigin_within (s : State) (k : Key) : WithinBounds s (s.closeAtOrigin k) := by
  have hq : WithinBounds s (s.setQueue (s.closeAtOrigin k).ac.queue) :=
    withinBounds_setQueue (by simp) (activeCount_modify_le (fun _ => by simp) _ _)
  exact hq.trans (.of_frame (by simp))

theorem takeClose_keeps (s : State) (k : Key) : KeepsBounds s (s.takeClose k) := by
  unfold State.takeClose
  (repeat' split) <;> first
    | exact id
    | exact (dropQueue_within s k).keeps
    | exact (closeAtOrigin_within s k).keeps

theorem abandonToE7_within (s : State) : WithinBounds s s.abandonToE7 :=
  (withinBounds_onActive s _).trans (enterE7_within _)

theorem takeAbandon_keeps (s : State) (k : Key) : KeepsBounds s (s.takeAbandon k) := by
  unfold State.takeAbandon
  (repeat' split) <;> first
    | exact id
    | exact (withinBounds_onActive s _).keeps
    | exact (abandonToE7_within s).keeps

theorem takeAccept_keeps (s : State) (k : Key) : KeepsBounds s (s.takeAccept k) := by
  have hd (t : State) (ht : WithinBounds (s.dropQueue k) t) : KeepsBounds s t :=
    ((dropQueue_within s k).trans ht).keeps
  unfold State.takeAccept
  split
  · exact id
  · dsimp only
    split
    · split
      · split <;> exact hd _ (.of_frame (by simp))
      · exact hd _ (.of_frame (by simp))
    · exact id

theorem takeRefuse_keeps (s : State) (k : Key) : KeepsBounds s (s.takeRefuse k) := by
  have hu : WithinBounds s (s.setUnanswered k 0) := by
    refine withinBounds_map s fun e => ?_
    split <;> exact id
  unfold State.takeRefuse
  split
  · exact (hu.trans (.of_frame (by simp))).keeps
  · exact id

theorem unansweredMore_active (e : QueueEntry) : e.unansweredMore.st = .active → e.st = .active := by
  unfold QueueEntry.unansweredMore
  split
  · exact id
  · intro h; cases h

theorem offerUnanswered_keeps (s : State) : KeepsBounds s s.offerUnanswered := by
  unfold State.offerUnanswered
  split
  · exact keeps_of_frame (by simp)
  · rename_i k _
    have hq : WithinBounds s (s.setQueue (s.ac.queue.map fun e =>
        if e.account.key = k ∧ e.st = .done then e.unansweredMore else e)) := by
      refine withinBounds_map s fun e => ?_
      split
      · exact unansweredMore_active e
      · exact id
    dsimp only
    split <;> exact (hq.trans (.of_frame (by simp))).keeps

/-- An intake list with a free place takes the offered account (R12, R141). -/
theorem takeOffer_keeps (s : State) (a : Nat) (p : List Byte) : KeepsBounds s (s.takeOffer a p) := by
  unfold State.takeOffer
  dsimp only
  split
  · exact keeps_of_frame (by simp)
  · split
    · exact keeps_of_frame (by simp)
    · split
      · exact keeps_of_frame (by simp)
      · rename_i hroom
        simp only [Bool.or_eq_true, decide_eq_true_eq, not_or, not_le] at hroom
        intro h
        simp only [State.accountsOk_iff] at h ⊢
        obtain ⟨hq, -, hc⟩ := h
        refine ⟨by simpa using hq, ?_, by simpa using hc⟩
        simp only [State.sendAccept_frame, State.setAc_ac, List.length_append, List.length_singleton]
        omega

/-- The oldest ANNOUNCED account becomes ACTIVE, or none does (R15). -/
theorem activeCount_activateOldest (q : List QueueEntry) :
    activeCount (activateOldest q) ≤ activeCount q + 1 := by
  induction q with
  | nil => simp [activateOldest]
  | cons e es ih =>
    unfold activateOldest
    split
    · rename_i he
      simp [activeCount, he]
    · simp only [activeCount, List.filter_cons] at ih ⊢
      split
      · simpa using ih
      · exact ih

theorem activateOldest_length (q : List QueueEntry) : (activateOldest q).length = q.length := by
  induction q with
  | nil => rfl
  | cons e es ih =>
    unfold activateOldest
    split <;> simp [ih]

/-- A start edge that may be taken (R15) makes one account ACTIVE, and E1 is entered with it (R53). -/
theorem startExtraction_keeps {s : State} (h : s.startPermitted = true) :
    KeepsBounds s (s.startAccount.enterE1) := by
  simp only [State.startPermitted, Bool.and_eq_true, Bool.or_eq_true, decide_eq_true_eq, Option.isNone_iff_eq_none,
    active_none_iff] at h
  obtain ⟨⟨⟨-, hnone⟩, -⟩, hplace⟩ := h
  refine keepsBounds_of_queue (by simp) (by simp) (by simp) fun hs => ?_
  obtain ⟨⟨hlen, -⟩, -⟩ := (State.accountsOk_iff s).mp hs
  have hstep : s.startAccount.enterE1.sq.step = .e1 := by simp [State.enterE1, State.enterTimed]
  have hac : s.startAccount.enterE1.ac = s.startAccount.ac := by simp
  rw [hstep, hac]
  unfold State.startAccount
  split
  · have hone := activeCount_activateOldest s.ac.queue
    refine ⟨?_, ?_, by simp⟩
    · simpa [activateOldest_length] using hlen
    · simp only [State.setQueue_queue]; omega
  · rename_i hann
    have hroom : s.ac.queue.length < 4 := hplace.resolve_left hann
    refine ⟨?_, ?_, by simp⟩
    · simp only [State.createAccount, State.setAc_ac, List.length_append, List.length_singleton]
      omega
    · simp only [State.createAccount, State.setAc_ac, activeCount_append, hnone]
      simp [activeCount]

/-- No account is ACTIVE once the ACTIVE one is DONE (R19). -/
theorem activeCount_finalize (s : State) : activeCount s.finalize.ac.queue = 0 := by
  have hmap (f : QueueEntry → QueueEntry) (hf : ∀ e, (f e).st = .done) :
      activeCount (s.onActive f).ac.queue = 0 := by
    simp only [activeCount, State.onActive, State.setQueue_queue, List.length_eq_zero_iff, List.filter_eq_nil_iff,
      List.mem_map, beq_iff_eq]
    rintro _ ⟨e, -, rfl⟩ he
    split at he
    · rw [hf] at he; cases he
    · exact absurd he ‹_›
  unfold State.finalize
  split <;> exact hmap _ fun _ => rfl

theorem finalize_length (s : State) : s.finalize.ac.queue.length = s.ac.queue.length := by
  unfold State.finalize
  split <;> simp [State.onActive, State.nextFree]

/-- The end of E7 leaves no account ACTIVE in E0 (R19, R48). -/
theorem endRelease_keeps (s : State) : KeepsBounds s s.endRelease := by
  refine keepsBounds_of_queue (by simp) (by simp) (by simp) fun h => ?_
  obtain ⟨⟨hlen, -⟩, -⟩ := (State.accountsOk_iff s).mp h
  have hq : s.endRelease.ac.queue = s.finalize.ac.queue := by simp [State.endRelease]
  have hnone := activeCount_finalize s
  rw [hq]
  exact ⟨by rw [finalize_length]; exact hlen, by omega, fun _ => hnone⟩

theorem clampFailed_within (s : State) : WithinBounds s s.clampFailed := by
  have hm : WithinBounds s s.markAbandoned := withinBounds_onActive s _
  have hr : WithinBounds s.markAbandoned (s.markAbandoned.reportEvent .clampTimeout) := .of_frame (by simp)
  exact (hm.trans hr).trans (enterE7_within _)

theorem clampOpened_keeps (s : State) : KeepsBounds s s.clampOpened := by
  unfold State.clampOpened
  (repeat' split) <;> first
    | exact id
    | exact (clampFailed_within s).keeps
    | exact endRelease_keeps s

theorem afterRise_within (s : State) (b : Bool) : WithinBounds s (s.afterRise b) := by
  unfold State.afterRise
  split
  · exact enterE7_within s
  · split
    · exact WithinBounds.trans (.of_frame (by simp)) (enterE5_within _)
    · exact (withinBounds_onActive s _).trans (enterE7_within _)

theorem endZero_within (s : State) : WithinBounds s s.endZero := by
  have hz : WithinBounds s s.takeZero := .of_frame (by simp)
  have ht (t : State) : WithinBounds t (t.enterTimed .e3) := .of_frame (by simp [State.enterTimed])
  exact (hz.trans (withinBounds_onActive _ _)).trans (ht _)

theorem enterRun_within (s : State) : WithinBounds s s.enterRun := by
  simp only [State.enterRun]
  split <;> exact .of_frame (by simp)

theorem takeStatus_within (s old : State) (a : Nat) (p : List Byte) : WithinBounds s (s.takeStatus old a p) := by
  unfold State.takeStatus
  refine WithinBounds.trans ?_ (downstreamChange_within _ old)
  split <;> exact .of_frame (by simp)

theorem makeStale_within (s : State) (a : Nat) : WithinBounds s (s.makeStale a) := by
  unfold State.makeStale
  refine WithinBounds.trans ?_ (downstreamChange_within _ s)
  split <;> exact .of_frame (by simp)

/-! ### Cabinets that come and go -/

/-- The intake head enters the chamber while a cabinet may pass (R83). -/
theorem headEnters_bounded {s : State} (hs : s.accountsOk) (hroom : s.ac.chamber.length < 3) :
    s.headEnters.ac.intake.length ≤ 4 ∧ s.headEnters.ac.chamber.length ≤ 3
      ∧ oneReceives (windows s.headEnters.ac.chamber) := by
  obtain ⟨-, hin, hlen, -, hone, hopen⟩ := (State.accountsOk_iff s).mp hs
  unfold State.headEnters
  split
  · exact ⟨hin, hlen, hone, hopen⟩
  · rename_i a rest hi
    have hrest : rest.length ≤ 4 := by
      rw [hi, List.length_cons] at hin
      omega
    have hlist : ∀ l on e, windows (startCarry l on s.ac.chamber ++ [e]) = windows s.ac.chamber ++ [e.st] := by
      intro l on e
      have hw := startCarry_windows l on s.ac.chamber
      simp only [windows, List.map_append, List.map_cons, List.map_nil] at hw ⊢
      rw [hw]
    have hclen : ∀ l on, (startCarry l on s.ac.chamber).length = s.ac.chamber.length := by
      intro l on
      simpa [windows] using congrArg List.length (startCarry_windows l on s.ac.chamber)
    refine ⟨hrest, ?_, ?_⟩
    · simp only [State.setAc_ac, List.length_append, List.length_singleton, hclen]
      omega
    · simp only [State.setAc_ac, hlist, oneReceives, List.count_append]
      split
      · rename_i hany
        have hrec := hopen ((any_isOpen_iff _).mp hany)
        exact ⟨by simpa using hone, fun _ => List.mem_append_left _ hrec⟩
      · rename_i hnone
        have hzero : (windows s.ac.chamber).count .receiving = 0 := by
          refine List.count_eq_zero.mpr fun hm => hnone ((any_isOpen_iff _).mpr ⟨_, hm, by simp⟩)
        exact ⟨by simp [hzero], fun _ => by simp⟩

/-- The door closes behind a cabinet (R83). -/
theorem doorCloses_keeps {s : State} (h : s.ch.doorOpen = true) : KeepsBounds s s.doorCloses := by
  intro hs
  obtain ⟨hq, -, -, hdoor, -⟩ := (State.accountsOk_iff s).mp hs
  obtain ⟨hin, hlen, hone⟩ := headEnters_bounded hs (hdoor (Or.inr h))
  have hshut : ¬s.doorCloses.ch.passable := by
    simp only [State.doorCloses, Chamber.passable]
    split
    · simp
    · rename_i he
      simpa using he
  have hac : s.doorCloses.ac = s.headEnters.ac := by
    simp only [State.doorCloses]
    split <;> simp
  rw [State.accountsOk_iff]
  refine ⟨by simpa using hq, by rw [hac]; exact hin, ?_⟩
  rw [chamberBounded, hac]
  exact ⟨hlen, fun hp => absurd hp hshut, hone⟩

/-- Accounts that leave the chamber list when their records are written were CLOSED (R11, R22). -/
theorem chamberBounded_filter {l : List ChamberEntry} {c : Chamber} {p : ChamberEntry → Bool}
    (hp : ∀ e ∈ l, p e = false → e.st = .closed) (h : chamberBounded l c) : chamberBounded (l.filter p) c := by
  obtain ⟨hlen, hdoor, hone, hopen⟩ := h
  have hsub : (windows (l.filter p)).Sublist (windows l) := List.filter_sublist.map _
  have hle : (l.filter p).length ≤ l.length := List.length_filter_le _ _
  refine ⟨by omega, fun hc => by have := hdoor hc; omega, (hsub.count_le _).trans hone, ?_⟩
  rintro ⟨w, hw, hne⟩
  obtain ⟨e, he, hst⟩ := List.mem_map.mp (hopen ⟨w, hsub.subset hw, hne⟩)
  refine List.mem_map.mpr ⟨e, List.mem_filter.mpr ⟨he, ?_⟩, hst⟩
  by_contra hf
  have := hp e he (Bool.eq_false_iff.mpr hf)
  simp [hst] at this

/-- A committed account leaves its list (R7, R11, R22). -/
theorem leaveLists_keeps (s : State) (k : Key) : KeepsBounds s (s.leaveLists k) := by
  have hq : WithinBounds s (s.setQueue (s.leaveLists k).ac.queue) := withinBounds_sublist List.filter_sublist
  refine hq.keeps.trans (keepsBounds_of_chamber rfl rfl rfl fun h => ?_)
  obtain ⟨-, -, hc⟩ := (State.accountsOk_iff _).mp h
  refine chamberBounded_filter (fun e _ he => ?_) hc
  simp only [Bool.not_eq_false', Bool.and_eq_true, beq_iff_eq] at he
  exact he.2

theorem commitDone_keeps (s : State) (c : Commit) : KeepsBounds s (s.commitDone c) := by
  let t := ((s.writeSlot c.slot c.bytes).setRs { s.rs with
      lastSequence := c.sequence
      writePosition := (s.rs.writePosition + 1) % slotCount
      commitQueue := s.rs.commitQueue.tail
      commit := none })
  have ht : KeepsBounds s t := keeps_of_frame (by simp [t])
  have hlast : KeepsBounds (t.leaveLists c.key) (s.commitDone c) := keeps_of_frame (by simp [State.commitDone, t])
  exact (ht.trans (leaveLists_keeps t c.key)).trans hlast

/-! ### Samples and time -/

theorem creditAccounts_bounds (foam onA onB : Bool) (q z : Nat) (a : Accounts) :
    (creditAccounts foam onA onB q z a).queue.length ≤ a.queue.length
      ∧ activeCount (creditAccounts foam onA onB q z a).queue ≤ activeCount a.queue
      ∧ windows (creditAccounts foam onA onB q z a).chamber = windows a.chamber := by
  unfold creditAccounts
  split
  · split
    · refine ⟨le_rfl, le_rfl, ?_⟩
      simp only [windows, List.map_map]
      refine List.map_congr_left fun e _ => ?_
      simp only [Function.comp]
      split <;> rfl
    · refine ⟨by simp, activeCount_map_le (fun e => ?_) _, rfl⟩
      split <;> exact id
  · exact ⟨le_rfl, le_rfl, rfl⟩

theorem takeSample_within (s : State) (x : Sample) : WithinBounds s (s.takeSample x) := by
  have hm : WithinBounds s ((s.setMu (s.sampleMu x)).setPu (s.samplePu (s.sampleMu x))) := .of_frame (by simp)
  unfold State.takeSample
  dsimp only
  split
  · obtain ⟨hl, ha, hw⟩ :=
      creditAccounts_bounds s.isFoam s.valveA s.valveB (s.sampleMu x).ch.c1 s.mu.zero s.ac
    exact ⟨hl, ha, by simp, by simp, hw, id⟩
  · exact hm

theorem firstSample_within (s : State) (x : Sample) : WithinBounds s (s.firstSample x) := by
  have hb : WithinBounds s (s.setBoot { s.boot with phase := .joining }) := .of_frame (by simp)
  exact (hb.trans (takeSample_within _ x)).trans (.of_frame (by simp [State.firstSample]))

theorem tick_within (s : State) : WithinBounds s s.tick := by
  unfold State.tick
  split
  · exact .of_frame (by simp)
  · refine ⟨le_rfl, le_rfl, id, le_rfl, ?_, id⟩
    simp only [Accounts.tick, windows, List.map_map]
    rfl

/-- The lists of an emptied station. -/
theorem accountsOk_of_empty {t : State} (hq : t.ac = {}) (hc : t.ch = {}) : t.accountsOk := by
  rw [State.accountsOk_iff, hq, hc]
  refine ⟨⟨by simp, by simp [activeCount], by simp [activeCount]⟩, by simp, by simp, by simp, by simp [windows], ?_⟩
  simp [windows]

/-! ### Every command, and every step -/

/-- Every command keeps the bounds of the account lists. -/
theorem exec_keeps {c : Instr} {s t : State} (h : exec c s = .next t) : KeepsBounds s t := by
  have hk : Carried KeepsBounds := keepsBounds_carried
  cases c with
  | start cause =>
    cases h
    exact fun _ => accountsOk_of_empty rfl rfl
  | starting =>
    cases h
    exact hk.guard fun _ _ => accountsOk_of_empty (by simp [State.emptied]) (by simp [State.emptied])
  | supplyWarning d =>
    cases h
    have hw : KeepsBounds s s.warnSupply := keeps_of_frame (by simp [State.warnSupply])
    split
    · exact keeps_of_frame (by simp)
    · dsimp only
      split
      · exact fun _ => accountsOk_of_empty rfl rfl
      · refine hk.guard fun hf => hk.concluded ?_
        simpa [hf] using hw
  | joiningEnd =>
    cases h
    exact hk.guard fun _ => hk.concluded (enterRun_within s).keeps
  | clampTimeout =>
    cases h
    exact hk.guard fun _ => hk.concluded (clampFailed_within s).keeps
  | classifyTimeExpiry =>
    cases h
    exact hk.guard fun _ => hk.concluded (endClassify_within s).keeps
  | pulldownTimeout =>
    cases h
    exact hk.guard fun _ => hk.concluded ((withinBounds_onActive s _).trans (enterE7_within _)).keeps
  | starvationPromotion =>
    cases h
    have hq : WithinBounds s (s.setSq { s.sq with starve := Timer.stopped }) := .of_frame (by simp)
    have hc (t : State) (r : Route) (k : ClaimClass) : WithinBounds t (t.raiseClaim r k) := .of_frame (by simp)
    exact hk.guard fun _ => hk.concluded ((hq.trans (withinBounds_onActive _ _)).trans (hc _ _ _)).keeps
  | releaseTimeExpiry =>
    cases h
    exact hk.guard fun _ => hk.concluded (endRelease_keeps s)
  | answerTimerExpiry =>
    cases h
    exact hk.guard fun _ => hk.concluded (offerUnanswered_keeps s)
  | carryOverExpiry k =>
    cases h
    exact hk.guard fun _ => hk.concluded (closeWindow_keeps s k)
  | clcFall =>
    cases h
    exact hk.guard fun _ => hk.concluded (hk.trans (keeps_of_frame (by simp)) (clampOpened_keeps _))
  | peerStale a =>
    cases h
    exact hk.guard fun _ => hk.concluded (makeStale_within s a).keeps
  | pulldownReached | purgeClearMet =>
    cases h
    refine hk.guard fun _ => hk.concluded (keeps_of_frame ?_)
    simp [State.enterE6, State.enterTimed, State.leavePurging]
  | tripFilterMet x | recoveryTimerExpiry x | ilkFall | ilkRise | ownHazardChange
  | oxygenHigh | oxygenUnderRunLimit | inertReached | srfChange
  | sweepWaitExpiry | sweepTimerExpiry | sweepRetryExpiry | purgeWaitExpiry | holdOffExpiry
  | headerHigh | faultClearButton =>
    cases h
    exact hk.guard fun _ => hk.concluded (keeps_of_frame (by simp))
  | doorTimerExpiry =>
    cases h
    exact hk.guard fun _ => hk.trans (keeps_of_frame (by simp)) (concludeIf_keeps _ _ _)
  | pStart | statusTimerExpiry | serviceStatusExpiry | serviceIdleTimerExpiry | telegramDiscard x =>
    cases h
    exact hk.guard fun _ => keeps_of_frame (by simp)
  | lineIdle | lineBusy =>
    cases h
    split <;> exact keeps_of_frame (by simp)
  | faultClear f | release f | purgeCall f | purgeClear f | purgeEnd f =>
    cases h
    exact hk.hearKind _ _ _ fun t => hk.concluded (keeps_of_frame (by simp))
  | certificate f | readData f | checkResult f | configAnswer f | read f | collect f | checkRange f =>
    cases h
    exact hk.hearKind _ _ _ fun t => keeps_of_frame (by simp)
  | readNext f =>
    cases h
    exact hk.hearKind _ _ _ fun t => by split <;> exact keeps_of_frame (by simp)
  | claim f =>
    cases h
    refine hk.hearKind _ _ _ fun t => ?_
    split
    · exact hk.concluded (keeps_of_frame (by simp))
    · exact hk.refl t
  | announce f =>
    cases h
    exact hk.hearKind _ _ _ fun t => hk.guard fun _ => hk.concluded (takeAnnounce_keeps t _)
  | closeAccount f =>
    cases h
    exact hk.hearKind _ _ _ fun t => hk.guard fun _ => hk.concluded (takeClose_keeps t _)
  | abandonAccount f =>
    cases h
    exact hk.hearKind _ _ _ fun t => hk.guard fun _ => hk.concluded (takeAbandon_keeps t _)
  | offer f =>
    cases h
    exact hk.hearKind _ _ _ fun t => hk.guard fun _ => hk.concluded (takeOffer_keeps t _ _)
  | accept f =>
    cases h
    exact hk.hearKind _ _ _ fun t => hk.guard fun _ => hk.concluded (takeAccept_keeps t _)
  | refuse f =>
    cases h
    exact hk.hearKind _ _ _ fun t => hk.guard fun _ => hk.concluded (takeRefuse_keeps t _)
  | key f | configWrite f | configCommit f =>
    cases h
    split
    · exact hk.hearService _ _ _ fun t => keeps_of_frame (by simp)
    · exact hk.hearKind _ _ _ fun t => hk.refl t
  | status f =>
    cases h
    refine hk.hear _ _ fun t => ?_
    split
    · exact hk.concluded (takeStatus_within t s _ _).keeps
    · exact hk.downstream t s
  | kindCodeNotInTable code f =>
    cases h
    split
    · exact hk.refl s
    · exact hk.hear _ _ fun t => hk.downstream t s
  | stationSample x =>
    cases h
    split
    · exact hk.refl s
    · split
      · exact (firstSample_within s x).keeps
      · have ht : KeepsBounds s (s.takeSample x).recoverAtOnce :=
          ((takeSample_within s x).trans (.of_frame (by simp))).keeps
        dsimp only
        split
        · exact hk.concluded ht
        · exact ht
  | valveDiscrepancy r =>
    cases h
    refine hk.guard fun _ => ?_
    dsimp only
    split
    · refine hk.concluded ?_
      split <;> exact keeps_of_frame (by simp)
    · exact keeps_of_frame (by simp)
  | hcdRise =>
    cases h
    refine hk.guard fun _ => hk.concluded ?_
    have he : WithinBounds s (s.edge .in3) := .of_frame (by simp)
    split
    · exact (he.trans (routeChange_within _)).keeps
    · exact he.keeps
  | headerRecovered =>
    cases h
    refine hk.guard fun _ => hk.concluded ?_
    split <;> exact keeps_of_frame (by simp)
  | purgeNeeded =>
    cases h
    refine hk.guard fun _ => hk.concluded ?_
    have hf (c : Comparators) : WithinBounds s (s.setCmp c) := .of_frame (by simp)
    split
    · exact ((hf _).trans (enterPurging_within _)).keeps
    · exact (hf _).keeps
  | drcFall =>
    cases h
    refine hk.guard fun _ => hk.concluded ?_
    have he : WithinBounds s (s.edge .in2) := .of_frame (by simp)
    split
    · rename_i hentry
      refine (he.trans ?_).keeps
      exact ⟨le_rfl, le_rfl, id, le_rfl, rfl, fun _ => Or.inl hentry.1⟩
    · exact he.keeps
  | zeroWindowComplete =>
    cases h
    refine hk.guard fun _ => hk.concluded ?_
    split
    · exact keeps_of_frame (by simp)
    · exact (endZero_within s).keeps
  | drcRise =>
    cases h
    refine hk.guard fun _ => ?_
    have he : KeepsBounds s (s.edge .in2) := keeps_of_frame (by simp)
    dsimp only
    split
    · exact hk.trans (hk.trans he (doorCloses_keeps ‹_›)) (concludeIf_keeps _ _ _)
    · exact hk.concluded he
  | inputFilterFill pin =>
    cases h
    refine hk.guard fun _ => ?_
    split
    · exact keeps_of_frame (by simp)
    · exact hk.concluded (keeps_of_frame (by simp))
  | startEdge =>
    cases h
    refine hk.guard fun _ => ?_
    have he : KeepsBounds s (s.edge .str) := keeps_of_frame (by simp)
    split
    · rename_i hp
      exact hk.concluded (hk.trans he (startExtraction_keeps (by simpa using hp)))
    · exact he
  | clcRise =>
    cases h
    refine hk.guard fun _ => ?_
    split
    · exact hk.concluded (keeps_of_frame (by simp [State.enterE2]))
    · exact keeps_of_frame (by simp)
  | holdTimeExpiry =>
    cases h
    refine hk.guard fun _ => ?_
    split
    · exact hk.concluded (afterRise_within s _).keeps
    · exact hk.refl s
  | quiet =>
    cases h
    refine hk.guard fun _ => ?_
    split
    · exact hk.concluded (closeWindow_keeps s _)
    · exact hk.refl s
  | transmitStart bits =>
    cases h
    split
    · exact hk.refl s
    · exact hk.guard fun _ => keeps_of_frame (by simp)
  | collision =>
    cases h
    split
    · exact hk.refl s
    · refine hk.concluded ?_
      split <;> exact keeps_of_frame (by simp)
  | transmitComplete =>
    cases h
    split
    · exact hk.refl s
    · exact hk.concluded (keeps_of_frame (by simp))
  | configCommitVerify ws =>
    cases h
    split <;> exact keeps_of_frame (by simp)
  | commitBegin =>
    cases h
    split
    · exact hk.refl s
    · split
      · exact hk.refl s
      · exact hk.guard fun _ => keeps_of_frame (by simp)
  | commitVerify bs =>
    cases h
    split
    · exact hk.refl s
    · refine hk.concluded ?_
      split
      · exact commitDone_keeps s _
      · exact keeps_of_frame (by simp)
  | collectMark =>
    cases h
    split
    · exact hk.refl s
    · exact hk.guard fun _ => hk.concluded (keeps_of_frame (by simp))
  | supplyWarningEnd d =>
    cases h
    split
    · exact keeps_of_frame (by simp)
    · exact hk.guard fun _ => hk.concluded (keeps_of_frame (by simp))

/-- Settles O15: a step is a command or a millisecond, and either keeps the bounds. -/
theorem stepKeepsAccountListBounds : Obligations.StepKeepsAccountListBounds := by
  intro s t hs h
  unfold step at h
  split at h
  · cases h
    exact (tick_within s).keeps hs
  · exact exec_keeps h hs

end Sys2Proof.Machine
end

section
/-! PROOF. The start edge (O29): when it is permitted, which account it makes ACTIVE, and the step it begins. -/

namespace Sys2Proof.Machine

/-! ### When a start edge is permitted -/

/-- Every filter has filled (R34). -/
theorem Filters.allFilled_iff (x : Filters) : x.allFilled = true ↔ ∀ p, (x.get p).filled = true := by
  simp only [Filters.allFilled, Bool.and_eq_true]
  constructor
  · rintro ⟨⟨⟨⟨⟨⟨⟨ilk, str⟩, in2⟩, in3⟩, vaf⟩, vbf⟩, fcl⟩, svc⟩ p
    cases p <;> assumption
  · intro h
    exact ⟨⟨⟨⟨⟨⟨⟨h .ilk, h .str⟩, h .in2⟩, h .in3⟩, h .vaf⟩, h .vbf⟩, h .fcl⟩, h .svc⟩

/-- RDY of an EXTRACTION station that has left the hold (R16). -/
theorem State.outputs_rdy {s : State} (hp : s.phase ≠ .hold) (hf : s.isFoam = false) :
    s.outputs.o7 = s.extractionReady := by
  simp [State.outputs, hp, hf]

/-- The conditions of R15. -/
theorem State.startPermitted_iff (s : State) :
    s.startPermitted = true ↔ s.cfg.role = .extraction ∧ s.phase = .run ∧ s.pu.de = true
      ∧ s.level .ilk = true ∧ (∀ e ∈ s.ac.queue, e.st ≠ .active) ∧ s.rs.supplyLow = false
      ∧ ((∃ e ∈ s.ac.queue, e.st = .announced) ∨ s.ac.queue.length < 4) := by
  simp [State.startPermitted, State.isExtraction, State.inRun, Accounts.active, and_assoc]

/-! ### The account of a start edge -/

/-- The oldest ANNOUNCED account is the ACTIVE one once it has been made so, where no other is ACTIVE (R15). -/
theorem find_activateOldest {q : List QueueEntry} {a : QueueEntry} (hq : ∀ e ∈ q, e.st ≠ .active)
    (ha : (q.find? fun e => e.st == .announced) = some a) :
    ((activateOldest q).find? fun e => e.st == .active) =
      some { a with st := .active, accA := 0, accB := 0, abandon := false } := by
  induction q with
  | nil => simp at ha
  | cons e es ih =>
    have hes : ∀ x ∈ es, x.st ≠ .active := fun x hx => hq x (List.mem_cons_of_mem _ hx)
    unfold activateOldest
    split
    · rename_i he
      simp only [List.find?_cons, he, beq_self_eq_true, Option.some.injEq] at ha
      simp [ha]
    · rename_i he
      have hne : (e.st == .active) = false := beq_false_of_ne (hq e List.mem_cons_self)
      have hna : (e.st == .announced) = false := beq_false_of_ne he
      simp only [List.find?_cons, hna] at ha
      simp only [List.find?_cons, hne]
      exact ih hes ha

/-- What a start edge that is taken makes of the account store (R1, R15). -/
theorem State.startAccount_spec {s : State} (hnone : ∀ e ∈ s.ac.queue, e.st ≠ .active) :
    ∃ e, s.startAccount.ac.active = some e ∧ e.accA = 0 ∧ e.accB = 0 ∧ e.abandon = false
      ∧ (∀ a, (s.ac.queue.find? fun x => x.st == .announced) = some a →
          e.account = a.account ∧ s.startAccount.ac.queue.length = s.ac.queue.length
          ∧ s.startAccount.ac.nextNumber = s.ac.nextNumber)
      ∧ ((s.ac.queue.any fun x => x.st == .announced) = false →
          e.account = { key := s.nextKey }
          ∧ s.startAccount.ac.queue.length = s.ac.queue.length + 1
          ∧ s.startAccount.ac.nextNumber = nextNumberAfter s.ac.nextNumber) := by
  cases ha : s.ac.queue.find? fun x => x.st == .announced with
  | some a =>
    have hany : (s.ac.queue.any fun x => x.st == .announced) = true :=
      
      List.any_eq_true.mpr ⟨a, List.mem_of_find?_eq_some ha, by simpa using List.find?_some ha⟩
    have hstart : s.startAccount = s.setQueue (activateOldest s.ac.queue) := by simp [State.startAccount, hany]
    rw [hstart]
    refine ⟨_, find_activateOldest hnone ha, rfl, rfl, rfl, ?_, by simp [hany]⟩
    rintro _ ⟨⟩
    exact ⟨rfl, by simp [activateOldest_length], by simp⟩
  | none =>
    have hany : (s.ac.queue.any fun x => x.st == .announced) = false := by simpa using ha
    have hstart : s.startAccount = s.createAccount { key := ⟨0, 0, 0⟩ } .active := by
      simp [State.startAccount, hany]
    have hfind : (s.ac.queue.find? fun e => e.st == .active) = none := by simpa using hnone
    rw [hstart]
    refine ⟨{ account := { key := s.nextKey }, st := .active }, ?_, rfl, rfl, rfl, by simp, fun _ => ?_⟩
    · simp [Accounts.active, State.createAccount, List.find?_append, hfind]
    · exact ⟨rfl, by simp [State.createAccount], rfl⟩

/-! ### The entry of E1 -/

/-- With the gate open the timer of E1 runs from its full time, and SQ does no more (R52, R53). -/
theorem State.settle_e1 {s : State} {ms : Nat} (hf : s.isFoam = false) (hs : s.sq.step = .e1)
    (ht : s.sq.timer = Timer.reset ms) (hg : s.gate = true) :
    s.settle = s.setSq { s.sq with timer := Timer.start ms } := by
  have htimer : s.stepTimer = Timer.start ms := by
    simp [State.stepTimer, ht, Timer.isStopped, Timer.reset, hg, State.suspended, hs, Timer.resume, Timer.start]
  simp [State.settle, hf, State.settleExtraction, hs, State.settleE1, htimer, State.settleStarve]

/-- A start edge that is taken (R15, R53): the step ends with the STATUS alone once the clamp time runs. -/
theorem State.conclude_startExtraction {s : State} (hp : s.startPermitted = true) (old : State) :
    ∃ b, (s.startAccount.enterE1).conclude old = (s.startAccount.setSq { s.sq with
      step := .e1, repeats := s.cfg.repeatCount, used := 0, detected := false
      timer := Timer.start (1000 * s.cfg.clampTime) }).announceIf b old := by
  obtain ⟨hrole, -, hde, hilk, -⟩ := s.startPermitted_iff.mp hp
  have hsettle := State.settle_e1 (s := s.startAccount.enterE1) (ms := 1000 * s.cfg.clampTime)
    (by simp [State.isFoam, hrole]) (by simp [State.enterE1, State.enterTimed])
    (by simp [State.enterE1, State.enterTimed, Settings.stepTime])
    (by simp_all [State.gate, State.level, State.filter])
  refine ⟨false || s.startAccount.enterE1.summaryMoves, ?_⟩
  rw [State.conclude, State.concludeIf, hsettle]
  congr 1
  simp [State.enterE1, State.enterTimed, State.setSq]

/-- Settles O29. -/
theorem startEdgeBeginsExtraction : Obligations.StartEdgeBeginsExtraction := by
  intro s hp
  refine ⟨fun hf => ?_, s.startPermitted_iff, fun he hs => ?_, fun he hs => ?_⟩
  · rw [State.outputs_rdy hp hf, State.extractionReady, Bool.and_eq_true, Filters.allFilled_iff, and_comm]
    rfl
  · have hedge : exec .startEdge s = .next (((s.edge .str).startAccount.enterE1).conclude s) := by
      simp [exec, execStartEdge, State.takesEdge, hp, he, hs]
    have hlow : s.level .str = false := by
      simp only [Filter.edgeDue, Bool.and_eq_true, beq_iff_eq] at he
      exact he.2
    obtain ⟨-, -, -, -, hnone, -⟩ := s.startPermitted_iff.mp hs
    obtain ⟨b, hb⟩ := State.conclude_startExtraction (s := s.edge .str) (by simpa using hs) s
    obtain ⟨e, hact, hA, hB, hab, hann, hnew⟩ := State.startAccount_spec (s := s.edge .str) (by simpa using hnone)
    refine ⟨_, hedge, ?_⟩
    rw [hb]
    refine ⟨?_, by simp, ⟨e, by simpa using hact, hA, hB, hab, ?_, ?_⟩, by simp, by simp, by simp, by simp⟩
    · have hlevel : (s.edge .str).level .str = true := by simp [hlow]
      simpa [State.level, State.filter] using hlevel
    · simpa using hann
    · simpa [State.nextKey, nextNumberAfter] using hnew
  · simp [exec, execStartEdge, State.takesEdge, hp, he, hs, State.edge]

end Sys2Proof.Machine
end

section
/-! SUPPORT. What the end of a step does at an EXTRACTION station to the accounts of the queue, to the fault code set
and to the record store: SQ's reaction changes the ACTIVE account alone, and of the codes it raises 6 and 7 only. -/

namespace Sys2Proof.Machine

/-! ### SQ's reaction and the queue -/

/-- The fields of an account that an ANNOUNCE declares (R4). -/
def Account.declared (a : Account) : Option (List Byte) × GasClass × GasClass × Option Nat :=
  (a.tag, a.refClass, a.foamClass, a.nameplate)

/-- The declared fields of the accounts of a queue. -/
def declaredFields (q : List QueueEntry) : List (Option (List Byte) × GasClass × GasClass × Option Nat) :=
  q.map fun e => e.account.declared

/-- The accounts of a queue that are not ACTIVE. -/
def notActive (q : List QueueEntry) : List QueueEntry := q.filter fun e => e.st != .active

/-- A change of the ACTIVE account alone, which leaves its state and its declared fields. -/
structure ActiveChange (f : QueueEntry → QueueEntry) : Prop where
  others : ∀ e, e.st ≠ .active → f e = e
  st : ∀ e, (f e).st = e.st
  declared : ∀ e, (f e).account.declared = e.account.declared

/-- What a part of SQ's reaction at an EXTRACTION station may do: a change of the ACTIVE account, the codes 6 and 7. -/
structure Reacts (s t : State) : Prop where
  queue : ∃ f, ActiveChange f ∧ t.ac.queue = s.ac.queue.map f
  codes : ∀ c, c ∉ [6, 7] → (c ∈ t.pu.codes ↔ c ∈ s.pu.codes)

theorem ActiveChange.refl : ActiveChange id := ⟨fun _ _ => rfl, fun _ => rfl, fun _ => rfl⟩

theorem Reacts.of_frame {s t : State} (h : t.ac.queue = s.ac.queue ∧ t.pu.codes = s.pu.codes) : Reacts s t :=
  ⟨⟨id, .refl, by simp [h.1]⟩, fun _ _ => by rw [h.2]⟩

theorem Reacts.trans {s t u : State} (h : Reacts s t) (k : Reacts t u) : Reacts s u := by
  obtain ⟨f, hf, hq⟩ := h.queue
  obtain ⟨g, hg, hr⟩ := k.queue
  refine ⟨⟨g ∘ f, ⟨fun e he => ?_, fun e => ?_, fun e => ?_⟩, by rw [hr, hq, List.map_map]⟩,
    fun c hc => (k.codes c hc).trans (h.codes c hc)⟩
  · rw [Function.comp, hf.others e he, hg.others e he]
  · rw [Function.comp, hg.st, hf.st]
  · rw [Function.comp, hg.declared, hf.declared]

theorem Reacts.addCode (s : State) {c : Nat} (hc : c ∈ [6, 7]) : Reacts s (s.addCode c) := by
  refine ⟨⟨id, .refl, by simp⟩, fun d hd => ?_⟩
  rw [State.addCode_codes, mem_insertCode]
  have hne : d ≠ c := fun h => hd (h ▸ hc)
  simp [hne]

theorem Reacts.onActive (s : State) {f : QueueEntry → QueueEntry} (hst : ∀ e, (f e).st = e.st)
    (hd : ∀ e, (f e).account.declared = e.account.declared) : Reacts s (s.onActive f) := by
  refine ⟨⟨fun e => if e.st = .active then f e else e, ⟨fun e he => if_neg he, fun e => ?_, fun e => ?_⟩,
    rfl⟩, fun c _ => by simp⟩
  · split
    · exact hst e
    · rfl
  · split
    · exact hd e
    · rfl

theorem routeChange_reacts (s : State) : Reacts s s.routeChange := by
  have hq : Reacts s (s.setSq { s.sq with routeB := true }) := .of_frame (by simp)
  have ha := hq.trans (Reacts.onActive _ (f := QueueEntry.rerouted) (fun _ => rfl) fun _ => rfl)
  exact (ha.trans (Reacts.addCode _ (c := 7) (by decide))).trans (.of_frame (by simp [State.routeChange]))

theorem enterE5_reacts (s : State) : Reacts s s.enterE5 := by
  have ht : Reacts s ((s.enterTimed .e5).setPulldown Comparator.disarm) := .of_frame (by simp)
  simp only [State.enterE5]
  split
  · exact ht.trans (routeChange_reacts _)
  · exact ht

theorem endClassify_reacts (s : State) : Reacts s s.endClassify := by
  have ha : Reacts s (s.onActive (QueueEntry.routed s.declaredClass s.sq.detected)) :=
    .onActive s (fun _ => rfl) fun _ => rfl
  simp only [State.endClassify]
  split
  · exact (ha.trans (Reacts.addCode _ (c := 6) (by decide))).trans (.of_frame (by simp))
  · exact ha.trans (.of_frame (by simp))

theorem settleE3_reacts (s : State) : Reacts s s.settleE3 := by
  have ht (x : Sequence) : Reacts s (s.setSq x) := .of_frame (by simp)
  simp only [State.settleE3]
  split
  · exact (ht _).trans (endClassify_reacts _)
  · exact ht _

theorem settleE4_reacts (s : State) : Reacts s s.settleE4 := by
  have ht : Reacts s (s.setSq { s.sq with starve := Timer.stopped }) := .of_frame (by simp)
  unfold State.settleE4
  split
  · exact (ht.trans (enterE5_reacts _)).trans (.of_frame (by simp))
  · exact .of_frame (by simp)

theorem settleExtraction_reacts (s : State) : Reacts s s.settleExtraction := by
  have starve {t : State} (h : Reacts s t) : Reacts s t.settleStarve := h.trans (.of_frame (by simp))
  unfold State.settleExtraction
  apply starve
  split
  · exact .of_frame (by simp)
  · exact .of_frame (by simp)
  · exact settleE3_reacts s
  · exact settleE4_reacts s
  · exact .of_frame (by simp)
  · exact .of_frame (by simp)
  · exact .of_frame (by simp)
  · exact .of_frame (by simp)

/-- The end of a step at an EXTRACTION station. -/
theorem conclude_reacts {s : State} (hf : s.isFoam = false) (old : State) : Reacts s (s.conclude old) := by
  have hs : Reacts s s.settle := by simpa [State.settle, hf] using settleExtraction_reacts s
  exact hs.trans (.of_frame (by simp [State.conclude, State.concludeIf]))

/-- The record store is no business of SQ's at an EXTRACTION station. -/
theorem conclude_rs {s : State} (hf : s.isFoam = false) (old : State) : (s.conclude old).rs = s.rs := by
  simp [State.conclude, State.concludeIf, State.settle, hf]

/-- SQ's reaction leaves every account that is not ACTIVE. -/
theorem Reacts.notActive {s t : State} (h : Reacts s t) : notActive t.ac.queue = notActive s.ac.queue := by
  obtain ⟨f, hf, hq⟩ := h.queue
  rw [hq, Machine.notActive, List.filter_map]
  have hp : ((fun e : QueueEntry => e.st != .active) ∘ f) = fun e => e.st != .active := by
    funext e
    simp only [Function.comp, hf.st]
  rw [hp]
  refine (List.map_congr_left fun e he => hf.others e ?_).trans (List.map_id' _)
  simpa using (List.mem_filter.mp he).2

/-- SQ's reaction leaves the declared fields. -/
theorem Reacts.declaredFields {s t : State} (h : Reacts s t) :
    declaredFields t.ac.queue = declaredFields s.ac.queue := by
  obtain ⟨f, hf, hq⟩ := h.queue
  rw [hq, Machine.declaredFields, List.map_map]
  exact List.map_congr_left fun e _ => hf.declared e

/-- An account that is not ACTIVE stays in the queue over SQ's reaction. -/
theorem Reacts.mem {s t : State} (h : Reacts s t) {e : QueueEntry} (he : e ∈ s.ac.queue) (hst : e.st ≠ .active) :
    e ∈ t.ac.queue := by
  obtain ⟨f, hf, hq⟩ := h.queue
  rw [hq]
  exact List.mem_map.mpr ⟨e, he, hf.others e hst⟩

/-! ### Drive enable -/

/-- Codes that are no trip and not fatal have no part in DE (R144). -/
theorem driveRule_of_harmless {s t : State} {l : List Nat} (hb : t.boot = s.boot) (hc : t.cfg = s.cfg)
    (hl : ∀ c ∈ l, TripSource.ofCode c = none ∧ isFatal c = false)
    (hcodes : ∀ c, c ∉ l → (c ∈ t.pu.codes ↔ c ∈ s.pu.codes)) : t.driveRule = s.driveRule := by
  have harmless (cfg : Settings) {c : Nat} (h : c ∈ l) : isFatal c = false ∧ cfg.trips c = false := by
    obtain ⟨hnone, hfatal⟩ := hl c h
    exact ⟨hfatal, by simp [Settings.trips, hnone]⟩
  have all_le {a b : List Nat} (hab : ∀ c, c ∉ l → c ∈ b → c ∈ a)
      (ha : (a.all fun c => !isFatal c && !s.cfg.trips c) = true) :
      (b.all fun c => !isFatal c && !s.cfg.trips c) = true := by
    rw [List.all_eq_true] at ha ⊢
    intro c hcb
    by_cases hm : c ∈ l
    · simp [harmless s.cfg hm]
    · exact ha c (hab c hm hcb)
  have hall : (t.pu.codes.all fun c => !isFatal c && !s.cfg.trips c) =
      (s.pu.codes.all fun c => !isFatal c && !s.cfg.trips c) :=
    Bool.eq_iff_iff.mpr ⟨all_le fun c hm => (hcodes c hm).mpr, all_le fun c hm => (hcodes c hm).mp⟩
  simp only [State.driveRule, State.inRun, State.phase, hb, hc, hall]

end Sys2Proof.Machine
end

section
/-! PROOF. ANNOUNCE (O53): one equation per case of R14, then the end of the step. -/

namespace Sys2Proof.Machine

/-! ### The cases of R14 -/

/-- The tag of an ANNOUNCE is neither empty nor ill-formed (R4). -/
def goodTag (p : List Byte) : Prop := tagChars (p.take 16) ≠ [] ∧ tagWellFormed (p.take 16) = true

/-- An account has the tag of an ANNOUNCE (R14). -/
def QueueEntry.tagged (p : List Byte) (e : QueueEntry) : Prop := e.account.tag = some (tagChars (p.take 16))

/-- The update of the ANNOUNCED accounts with the tag (R14). -/
def QueueEntry.announcedAnew (p : List Byte) (e : QueueEntry) : QueueEntry :=
  if e.account.tag = some (tagChars (p.take 16)) ∧ e.st = .announced then
    { e with account := declare p e.account }
  else e

theorem goodTag_iff (p : List Byte) :
    goodTag p ↔ ((tagChars (p.take 16)).isEmpty || !tagWellFormed (p.take 16)) = false := by
  simp [goodTag]

theorem takeAnnounce_ignored {s : State} {p : List Byte} (h : ¬goodTag p) : s.takeAnnounce p = s := by
  rw [goodTag_iff, Bool.not_eq_false] at h
  simp only [State.takeAnnounce, h, if_true]

section
variable {s : State} {p : List Byte} (good : goodTag p)
include good

theorem takeAnnounce_update (h : ∃ e ∈ s.ac.queue, e.tagged p ∧ e.st = .announced) :
    s.takeAnnounce p = s.setQueue (s.ac.queue.map (QueueEntry.announcedAnew p)) := by
  have hany : (s.ac.queue.any fun e => e.account.tag == some (tagChars (p.take 16)) && e.st == .announced) = true := by
    simpa [QueueEntry.tagged] using h
  simp only [State.takeAnnounce, (goodTag_iff p).mp good, hany, if_true, Bool.false_eq_true, if_false]
  simp only [Bool.and_eq_true, beq_iff_eq]
  rfl

theorem takeAnnounce_duplicate (h : ∃ e ∈ s.ac.queue, e.tagged p)
    (hn : ∀ e ∈ s.ac.queue, e.tagged p → e.st ≠ .announced) : s.takeAnnounce p = s.addCode 2 := by
  have hnot : (s.ac.queue.any fun e => e.account.tag == some (tagChars (p.take 16)) && e.st == .announced) = false := by
    simpa [QueueEntry.tagged] using hn
  have hany : (s.ac.queue.any fun e => e.account.tag == some (tagChars (p.take 16))) = true := by
    simpa [QueueEntry.tagged] using h
  simp only [State.takeAnnounce, (goodTag_iff p).mp good, hnot, hany, if_true, Bool.false_eq_true, if_false]

/-- A tag that no account of the queue has. -/
theorem takeAnnounce_fresh (h : ∀ e ∈ s.ac.queue, ¬e.tagged p) :
    s.takeAnnounce p = if s.ac.queue.length < 4 then s.createAccount (declare p { key := ⟨0, 0, 0⟩ }) .announced
      else s.addCode 1 := by
  have hnot : (s.ac.queue.any fun e => e.account.tag == some (tagChars (p.take 16)) && e.st == .announced) = false := by
    simp only [QueueEntry.tagged] at h
    simpa using fun e he ht => absurd ht (h e he)
  have hnone : (s.ac.queue.any fun e => e.account.tag == some (tagChars (p.take 16))) = false := by
    simpa [QueueEntry.tagged] using h
  simp only [State.takeAnnounce, (goodTag_iff p).mp good, hnot, hnone, Bool.false_eq_true, if_false]

end

/-! ### The update of an ANNOUNCED account -/

theorem announcedAnew_work (p : List Byte) (e : QueueEntry) : (e.announcedAnew p).work = e.work := by
  unfold QueueEntry.announcedAnew
  split <;> rfl

theorem announcedAnew_st (p : List Byte) (e : QueueEntry) : (e.announcedAnew p).st = e.st := by
  unfold QueueEntry.announcedAnew
  split <;> rfl

theorem notActive_announcedAnew (p : List Byte) (q : List QueueEntry) :
    notActive (q.map (QueueEntry.announcedAnew p)) = (notActive q).map (QueueEntry.announcedAnew p) := by
  simp only [notActive, List.filter_map]
  congr 2
  funext e
  simp only [Function.comp, announcedAnew_st]

/-! ### The end of the step -/

/-- The codes by which an ANNOUNCE is answered, and those of SQ's reaction, are no trips and not fatal. -/
theorem announceCodes_harmless : ∀ c ∈ [1, 2, 6, 7], TripSource.ofCode c = none ∧ isFatal c = false := by decide

/-- DE keeps its rule over the cases of R14. -/
theorem takeAnnounce_de {s : State} (p : List Byte) (h : s.pu.de = s.driveRule) :
    (s.takeAnnounce p).pu.de = (s.takeAnnounce p).driveRule := by
  have same {t : State} (hb : t.boot = s.boot) (hc : t.cfg = s.cfg) (hp : t.pu = s.pu) : t.pu.de = t.driveRule := by
    rw [State.driveRule_congr hb hc (by rw [hp]), hp, h]
  unfold State.takeAnnounce
  dsimp only
  split
  · exact h
  · split
    · exact same (by simp) (by simp) (by simp)
    · split
      · exact s.addCode_de 2
      · split
        · exact same (by simp) (by simp) (by simp)
        · exact s.addCode_de 1

/-- The codes that the cases of R14 raise are 1 and 2. -/
theorem takeAnnounce_codes (s : State) (p : List Byte) {c : Nat} (hc : c ∉ [1, 2]) :
    c ∈ (s.takeAnnounce p).pu.codes ↔ c ∈ s.pu.codes := by
  simp only [List.mem_cons, List.not_mem_nil, or_false, not_or] at hc
  unfold State.takeAnnounce
  dsimp only
  (repeat' split) <;> simp [mem_insertCode, hc]

/-- DE stays as it is over an ANNOUNCE. -/
theorem conclude_takeAnnounce_de {s : State} (hf : s.isFoam = false) (p : List Byte) (old : State)
    (h : s.pu.de = s.driveRule) : ((s.takeAnnounce p).conclude old).pu.de = s.pu.de := by
  have hf' : (s.takeAnnounce p).isFoam = false := by simpa [State.isFoam] using hf
  have hrule : ((s.takeAnnounce p).conclude old).driveRule = s.driveRule := by
    refine driveRule_of_harmless (by simp) (by simp) announceCodes_harmless fun c hc => ?_
    simp only [List.mem_cons, List.not_mem_nil, or_false, not_or] at hc
    refine ((conclude_reacts hf' old).codes c ?_).trans (takeAnnounce_codes s p ?_) <;> simp [hc]
  rw [(State.conclude_pu _ old).de (takeAnnounce_de p h), hrule, h]

/-- An ANNOUNCE that is taken. -/
theorem exec_announce {s : State} {f : Frame} (hx : s.isExtraction = true) (h : s.takes .announce f = true) :
    exec (.announce f) s = .next (((s.noted f).takeAnnounce f.payload).conclude s) := by
  have hnx : (s.noted f).isExtraction = true := by simpa [State.isExtraction] using hx
  simp [exec, execAnnounce, State.hearKind_of_takes h, hnx]

/-- A station of the role EXTRACTION is not one of the role FOAM. -/
theorem isFoam_of_isExtraction {s : State} (h : s.isExtraction = true) : s.isFoam = false := by
  simp only [State.isExtraction, beq_iff_eq] at h
  simp [State.isFoam, h]

/-- What the end of a step at an EXTRACTION station leaves of the accounts of a state. -/
structure AccountsStand (s t : State) : Prop where
  work : t.queueWork = s.queueWork
  idle : notActive t.ac.queue = notActive s.ac.queue
  said : declaredFields t.ac.queue = declaredFields s.ac.queue
  next : t.ac.nextNumber = s.ac.nextNumber

theorem AccountsStand.of_ac {s t : State} (h : t.ac = s.ac) : AccountsStand s t :=
  ⟨State.queueWork_congr (by rw [h]), by rw [h], by rw [h], by rw [h]⟩

theorem AccountsStand.trans {s t u : State} (h : AccountsStand s t) (k : AccountsStand t u) : AccountsStand s u :=
  ⟨k.work.trans h.work, k.idle.trans h.idle, k.said.trans h.said, k.next.trans h.next⟩

theorem conclude_accountsStand {s : State} (hf : s.isFoam = false) (old : State) :
    AccountsStand s (s.conclude old) :=
  ⟨s.conclude_work old, (conclude_reacts hf old).notActive, (conclude_reacts hf old).declaredFields, by simp⟩

/-- Settles O53: the equation of the case that applies, then what the end of the step keeps. -/
theorem announceTakesTheFirstCase : Obligations.AnnounceTakesTheFirstCase := by
  intro s f hx htakes
  refine ⟨_, exec_announce hx htakes, ?_⟩
  have hfoam : (s.noted f).isFoam = false := by simpa [State.isFoam] using isFoam_of_isExtraction hx
  have hde := conclude_takeAnnounce_de hfoam f.payload s
  have hnumber : (s.noted f).ac.nextNumber = s.ac.nextNumber := by simp
  have hcodes : (s.noted f).pu.codes = s.pu.codes := by simp
  have hkey : (s.noted f).nextKey = ⟨s.cfg.address, s.nv.startCounter.toNat, s.ac.nextNumber⟩ := by
    simp [State.nextKey]
  have hrule : (s.noted f).pu.de = (s.noted f).driveRule ↔ s.pu.de = s.driveRule := by
    rw [State.driveRule_congr (s := s) (by simp) (by simp) (by simp)]
    simp
  have hv : ((s.noted f).takeAnnounce f.payload).isFoam = false := by simpa [State.isFoam] using hfoam
  have stands := conclude_accountsStand hv s
  have codes := (conclude_reacts hv s).codes
  intro u p tag good mine idle said declared update ignored raises fresh
  have leaves (h : (u.takeAnnounce p).ac = u.ac) : ignored := by
    have all := (AccountsStand.of_ac h).trans stands
    exact ⟨all.work, all.idle, all.said, all.next.trans hnumber⟩
  have silent (h : (u.takeAnnounce p).pu = u.pu) : raises [] := fun c hc => by
    rw [codes c hc, h, hcodes]
    simp
  have raised {n : Nat} (h : u.takeAnnounce p = u.addCode n) : raises [n] := fun c hc => by
    rw [codes c hc, h, State.addCode_codes, mem_insertCode, hcodes, List.mem_singleton]
  refine ⟨fun h => ?_, fun hbad => ?_, fun hgood hsome => ?_, fun hgood hsome hnot => ?_, fun hfresh hroom => ?_,
    fun hfresh hfull => ?_⟩
  · exact (hde (hrule.mpr h)).trans (by simp)
  · have heq := takeAnnounce_ignored (s := u) hbad
    exact ⟨leaves (by rw [heq]), silent (by rw [heq])⟩
  · have heq := takeAnnounce_update hgood hsome
    have hq : (u.takeAnnounce p).ac.queue = u.ac.queue.map (QueueEntry.announcedAnew p) := by simp [heq]
    have hnext : (u.takeAnnounce p).ac.nextNumber = u.ac.nextNumber := by simp [heq]
    refine ⟨stands.work.trans ?_, stands.next.trans (hnext.trans hnumber), silent (by simp [heq]),
      stands.idle.trans ?_, stands.said.trans ?_⟩
    · refine (congrArg (List.map QueueEntry.work) hq).trans (List.map_map.trans ?_)
      exact List.map_congr_left fun e _ => announcedAnew_work p e
    · exact (congrArg notActive hq).trans (notActive_announcedAnew p _)
    · exact congrArg declaredFields hq
  · have heq := takeAnnounce_duplicate hgood hsome hnot
    exact ⟨leaves (by simp [heq]), raised heq⟩
  · intro key
    have heq : u.takeAnnounce p = u.createAccount (declare p { key := ⟨0, 0, 0⟩ }) .announced := by
      rw [takeAnnounce_fresh hfresh.1 hfresh.2, if_pos hroom]
    have hq : (u.takeAnnounce p).ac.queue =
        u.ac.queue ++ [{ account := declared { key := key }, st := .announced }] := by
      rw [heq, State.createAccount, hkey]
      rfl
    refine ⟨stands.work.trans ?_, stands.idle.trans ?_, stands.said.trans (congrArg declaredFields hq),
      silent (by simp [heq]), stands.next.trans ?_⟩
    · exact (congrArg (List.map QueueEntry.work) hq).trans List.map_append
    · exact (congrArg notActive hq).trans (List.filter_append ..)
    · rw [heq, ← hnumber]
      rfl
  · have heq : u.takeAnnounce p = u.addCode 1 := by
      rw [takeAnnounce_fresh hfresh.1 hfresh.2, if_neg (Nat.not_lt.mpr hfull)]
    exact ⟨leaves (by simp [heq]), raised heq⟩

end Sys2Proof.Machine
end

section
/-! PROOF. CLOSE ACCOUNT and ABANDON ACCOUNT (O54): one equation per row of R17 and R18, then the end of the step. -/

namespace Sys2Proof.Machine

/-! ### The first entry of a list that a search finds, changed -/

section
variable {α β : Type} {p : α → Bool}

theorem map_modify_findIdx {q : β → Bool} {f : α → α} {f' : β → β} {g : α → β} (hq : ∀ a, q (g a) = p a)
    (hf : ∀ a, g (f a) = f' (g a)) (l : List α) :
    (l.modify (l.findIdx p) f).map g = (l.map g).modify ((l.map g).findIdx q) f' := by
  induction l with
  | nil => simp
  | cons a l ih =>
    cases hp : p a
    · simpa [List.findIdx_cons, hq, hp] using ih
    · simp [List.findIdx_cons, hq, hp, hf]

theorem mem_modify_findIdx {f : α → α} {a : α} {l : List α} (h : l.find? p = some a) :
    f a ∈ l.modify (l.findIdx p) f := by
  induction l with
  | nil => simp at h
  | cons b l ih =>
    cases hp : p b
    · rw [List.find?_cons_of_neg (by simp [hp])] at h
      simpa [List.findIdx_cons, hp] using Or.inr (ih h)
    · rw [List.find?_cons_of_pos hp, Option.some.injEq] at h
      subst h
      simp [List.findIdx_cons, hp]

end

/-! ### The rows of R17 -/

/-- An offer of the account is outstanding (R17). -/
theorem outstanding_iff (s : State) (k : Key) :
    s.outstanding k = true ↔ (s.ac.offer.st = .queued ∨ s.ac.offer.st = .awaiting) ∧ s.ac.offer.key = some k := by
  simp [State.outstanding]

section
variable {s : State} {k : Key}

theorem takeClose_announced {e : QueueEntry} (he : s.findQueue k = some e) (h : e.st = .announced) :
    s.takeClose k = s.dropQueue k := by
  simp only [State.takeClose, he, h]

theorem takeClose_closes {e : QueueEntry} (he : s.findQueue k = some e)
    (h : e.st = .held ∨ (e.st = .done ∧ ¬s.outstanding k = true)) : s.takeClose k = s.closeAtOrigin k := by
  rcases h with hheld | ⟨hdone, hout⟩
  · simp only [State.takeClose, he, hheld]
  · simp only [State.takeClose, he, hdone, hout, Bool.false_eq_true, if_false]

theorem takeClose_ignored (h : ∀ e, s.findQueue k = some e →
    e.st = .active ∨ e.st = .closing ∨ (e.st = .done ∧ s.outstanding k = true)) : s.takeClose k = s := by
  unfold State.takeClose
  split
  · rfl
  next e he =>
    rcases h e he with hst | hst | ⟨hst, hout⟩
    · simp only [hst]
    · simp only [hst]
    · simp only [hst, hout, if_true]

theorem dropQueue_work : (s.dropQueue k).queueWork = s.queueWork.eraseP fun w => w.1 == k := by
  simp only [State.queueWork, State.dropQueue, State.setQueue_queue, List.eraseP_map]
  rfl

theorem closeAtOrigin_work : (s.closeAtOrigin k).queueWork =
    s.queueWork.modify (s.queueWork.findIdx fun w => w.1 == k) fun w => (w.1, .closing, w.2.2) := by
  simp only [State.queueWork, State.closeAtOrigin_queue]
  refine map_modify_findIdx (fun _ => ?_) (fun _ => ?_) _
  · rfl
  · rfl

theorem closeAtOrigin_commitQueue : (s.closeAtOrigin k).rs.commitQueue = s.rs.commitQueue ++ [k] := rfl

end

/-- A CLOSE ACCOUNT that is taken. -/
theorem exec_closeAccount {s : State} {f : Frame} (hx : s.isExtraction = true) (h : s.takes .closeAccount f = true) :
    exec (.closeAccount f) s = .next (((s.noted f).takeClose (keyAt f.payload 0)).conclude s) := by
  have hnx : (s.noted f).isExtraction = true := by simpa [State.isExtraction] using hx
  simp [exec, execCloseAccount, State.hearKind_of_takes h, hnx]

/-! ### ABANDON ACCOUNT -/

/-- An ABANDON ACCOUNT that is taken. -/
theorem exec_abandonAccount {s : State} {f : Frame} (hx : s.isExtraction = true)
    (h : s.takes .abandonAccount f = true) :
    exec (.abandonAccount f) s = .next (((s.noted f).takeAbandon (keyAt f.payload 0)).conclude s) := by
  have hnx : (s.noted f).isExtraction = true := by simpa [State.isExtraction] using hx
  simp [exec, execAbandonAccount, State.hearKind_of_takes h, hnx]

theorem markAbandoned_work (s : State) : s.markAbandoned.queueWork =
    s.queueWork.map fun w => if w.2.1 = .active then
      (w.1, w.2.1, w.2.2.1, w.2.2.2.1, true, w.2.2.2.2.2) else w := by
  simp only [State.queueWork, State.markAbandoned, State.onActive, State.setQueue_queue, List.map_map]
  refine List.map_congr_left fun e _ => ?_
  by_cases h : e.st = .active
  · simp [QueueEntry.work, h]
  · simp [QueueEntry.work, h]

/-- What the entry of E7 makes of the sequence. -/
theorem enterE7_sq (s : State) : s.enterE7.sq = s.releaseEntered := rfl

/-- The entry of E7 withdraws the own claim. -/
theorem enterE7_own (s : State) : s.enterE7.ms.own = none := by
  simp [State.enterE7]

section
variable {s : State} {k : Key}

/-- The ACTIVE account is the one named (R18). -/
def State.activeIs (s : State) (k : Key) : Prop := ∃ e, s.ac.active = some e ∧ e.account.key = k

theorem takeAbandon_other (h : ¬s.activeIs k) : s.takeAbandon k = s := by
  unfold State.takeAbandon
  split
  · rfl
  next e he => exact if_pos fun hk => h ⟨e, he, hk⟩

theorem takeAbandon_marks (h : s.activeIs k) (hst : s.sq.step = .e0 ∨ s.sq.step = .e7) :
    s.takeAbandon k = s.markAbandoned := by
  obtain ⟨e, he, hk⟩ := h
  simp only [State.takeAbandon, he, hk, hst, ne_eq, not_true_eq_false, if_false, if_true]

theorem takeAbandon_releases (h : s.activeIs k) (h0 : s.sq.step ≠ .e0) (h7 : s.sq.step ≠ .e7) :
    s.takeAbandon k = s.markAbandoned.enterE7 := by
  obtain ⟨e, he, hk⟩ := h
  simp only [State.takeAbandon, State.abandonToE7, he, hk, h0, h7, ne_eq, not_true_eq_false, or_self, if_false]

/-- An account abandoned leaves SQ in E0 or E7, with the mark set. -/
theorem takeAbandon_named (h : s.activeIs k) :
    ((s.takeAbandon k).sq.step = .e0 ∨ (s.takeAbandon k).sq.step = .e7) ∧
    (s.takeAbandon k).queueWork = s.markAbandoned.queueWork := by
  by_cases hst : s.sq.step = .e0 ∨ s.sq.step = .e7
  · simp [takeAbandon_marks h hst, hst]
  · obtain ⟨h0, h7⟩ := not_or.mp hst
    rw [takeAbandon_releases h h0 h7]
    exact ⟨Or.inr (by rw [enterE7_sq]; rfl), State.queueWork_congr (by simp)⟩

end

/-! ### The obligation -/

/-- Settles O54: the equation of the row that applies, then what the end of the step keeps. -/
theorem closeAndAbandonByState : Obligations.CloseAndAbandonByState := by
  intro s f hx
  have hrole : s.cfg.role = .extraction := by simpa [State.isExtraction] using hx
  have hfoam {v : State} (hv : v.cfg = s.cfg) : v.isFoam = false := by simp [State.isFoam, hv, hrole]
  have hrs : (s.noted f).rs = s.rs := by simp
  have hsq : (s.noted f).sq = s.sq := by simp
  intro u k
  refine ⟨fun htakes => ⟨_, exec_closeAccount hx htakes, ?_⟩, fun htakes => ⟨_, exec_abandonAccount hx htakes, ?_⟩⟩
  · have hv : ((s.noted f).takeClose k).isFoam = false := hfoam (by simp)
    have reacts := conclude_reacts hv s
    have work := State.conclude_work ((s.noted f).takeClose k) s
    have store := congrArg Store.commitQueue (conclude_rs hv s)
    refine ⟨fun e he hst => ?_, fun c hc => ?_, fun e he hst => ?_, fun hst => ?_⟩
    · rw [← outstanding_iff] at hst
      have heq := takeClose_closes he hst
      have hmem : e.closedAtOrigin ∈ (u.takeClose k).ac.queue := by
        rw [heq, State.closeAtOrigin_queue]
        exact mem_modify_findIdx he
      refine ⟨work.trans ((congrArg State.queueWork heq).trans closeAtOrigin_work),
        ⟨e.closedAtOrigin, reacts.mem hmem (by simp [QueueEntry.closedAtOrigin]), rfl, rfl⟩, store.trans ?_⟩
      exact (congrArg (·.rs.commitQueue) heq).trans (by rw [closeAtOrigin_commitQueue, hrs])
    · exact (reacts.codes c hc).trans (by simp)
    · have heq := takeClose_announced he hst
      exact ⟨work.trans ((congrArg State.queueWork heq).trans dropQueue_work),
        store.trans ((congrArg (·.rs.commitQueue) heq).trans (by simp [u]))⟩
    · simp only [← outstanding_iff] at hst
      have heq := takeClose_ignored hst
      exact ⟨work.trans (congrArg State.queueWork heq),
        store.trans ((congrArg (·.rs.commitQueue) heq).trans (by rw [hrs]))⟩
  · have work := State.conclude_work ((s.noted f).takeAbandon k) s
    have rest (h : (s.noted f).activeIs k) :
        ((s.noted f).takeAbandon k).conclude s = ((s.noted f).takeAbandon k).announceIf false s :=
      State.conclude_rest _ s (by simpa using hrole) (takeAbandon_named h).1
    refine ⟨fun h => ?_, fun h h0 h7 => ?_, fun h h7 => ?_, fun h => ?_⟩
    · exact ⟨work.trans ((takeAbandon_named h).2.trans (markAbandoned_work u)),
        (congrArg State.pu (rest h)).trans (by simp)⟩
    · have heq := takeAbandon_releases h (by rwa [hsq]) (by rwa [hsq])
      rw [rest h, heq]
      exact ⟨by simp [enterE7_sq, State.releaseEntered, u], by simp [enterE7_own]⟩
    · have heq := takeAbandon_marks h (Or.inr (by rwa [hsq]))
      rw [rest h, heq]
      simp [u]
    · exact work.trans (congrArg State.queueWork (takeAbandon_other h))

end Sys2Proof.Machine
end

section
/-! SUPPORT. The own state of a trip source after each operation of the Protection Unit, and the fault code set that
goes with it. -/

namespace Sys2Proof.Machine

/-! ### A source replaced -/

@[simp] theorem Sources.get_set_same (x : Sources) (t : TripSource) (y : Source) : (x.set t y).get t = y := by
  cases t <;> rfl

theorem Sources.get_set_ne (x : Sources) {t u : TripSource} (h : u ≠ t) (y : Source) :
    (x.set t y).get u = x.get u := by
  cases t <;> cases u <;> first | rfl | exact absurd rfl h

@[simp] theorem State.setSource_source_same (s : State) (t : TripSource) (y : Source) :
    (s.setSource t y).source t = y := Sources.get_set_same ..

theorem State.setSource_source_ne (s : State) {t u : TripSource} (h : u ≠ t) (y : Source) :
    (s.setSource t y).source u = s.source u := Sources.get_set_ne _ h y

/-- Equal sources, read one by one. -/
theorem State.source_congr {s t : State} (h : t.pu.sources = s.pu.sources) (u : TripSource) :
    t.source u = s.source u := congrArg (·.get u) h

/-- The end of a step moves no trip source. -/
@[simp] theorem State.conclude_source (s old : State) (u : TripSource) : (s.conclude old).source u = s.source u :=
  State.source_congr (by simp) u

/-! ### A trip and a recovery -/

@[simp] theorem State.trip_source_same (s : State) (t : TripSource) (b : Bool) :
    (s.trip t b).source t = ⟨.tripped, 0, Timer.stopped, b⟩ :=
  (State.source_congr (by simp [State.trip]) t).trans (s.setSource_source_same t _)

theorem State.trip_source_ne (s : State) {t u : TripSource} (h : u ≠ t) (b : Bool) :
    (s.trip t b).source u = s.source u :=
  (State.source_congr (s := s.setSource t ⟨.tripped, 0, Timer.stopped, b⟩) (by simp [State.trip]) u).trans
    (s.setSource_source_ne h _)

/-- A trip puts the code of its source into the set (R148). -/
theorem State.mem_trip_codes (s : State) (t : TripSource) (b : Bool) (c : Nat) :
    c ∈ (s.trip t b).pu.codes ↔ c = t.code ∨ c ∈ s.pu.codes := mem_insertCode c t.code s.pu.codes

@[simp] theorem State.recover_source_same (s : State) (t : TripSource) :
    (s.recover t).source t = { s.source t with st := .normal, run := 0, recovery := Timer.stopped } :=
  (State.source_congr (by simp [State.recover]) t).trans (s.setSource_source_same t _)

theorem State.recover_source_ne (s : State) {t u : TripSource} (h : u ≠ t) :
    (s.recover t).source u = s.source u :=
  (State.source_congr
    (s := s.setSource t { s.source t with st := .normal, run := 0, recovery := Timer.stopped })
    (by simp [State.recover]) u).trans (s.setSource_source_ne h _)

/-- A recovery takes the code of its source out of the set (R149). -/
theorem State.mem_recover_codes (s : State) (t : TripSource) (c : Nat) :
    c ∈ (s.recover t).pu.codes ↔ c ≠ t.code ∧ c ∈ s.pu.codes := by
  simp [State.recover, and_comm]

/-- A reported event trips its source whatever its state was (R147). -/
@[simp] theorem State.reportEvent_st (s : State) (t : TripSource) : ((s.reportEvent t).source t).st = .tripped := by
  unfold State.reportEvent
  split
  · rw [State.trip_source_same]
  · rw [State.setSource_source_same]
  · rw [State.setSource_source_same]

/-- The first report of an event brings its code into the set (R148). -/
theorem State.reportEvent_codes {s : State} {t : TripSource} (h : (s.source t).st = .normal) :
    t.code ∈ (s.reportEvent t).pu.codes := by
  have hrep : s.reportEvent t = s.trip t true := by simp [State.reportEvent, h]
  rw [hrep, State.mem_trip_codes]
  exact Or.inl rfl

/-! ### The end of a step -/

/-- The codes the end of a step may raise are none of a trip source. -/
theorem code_not_reaction (t : TripSource) : t.code ∉ reactionCodes := by cases t <;> decide

/-- Over the end of a step DE follows R144 once the step's own changes have evaluated it. -/
theorem State.conclude_de {s : State} (h : s.pu.de = s.driveRule) (old : State) :
    (s.conclude old).pu.de = (s.conclude old).driveRule := (s.conclude_pu old).de h

/-- A trip at the end of its step: the set has its code besides those it had. -/
theorem State.mem_conclude_trip (s old : State) (t : TripSource) (b : Bool) {c : Nat} (hc : c ∉ reactionCodes) :
    c ∈ ((s.trip t b).conclude old).pu.codes ↔ c = t.code ∨ c ∈ s.pu.codes :=
  (((s.trip t b).conclude_pu old).codes c hc).trans (s.mem_trip_codes t b c)

/-- A recovery at the end of its step: the set has lost its code alone. -/
theorem State.mem_conclude_recover (s old : State) (t : TripSource) {c : Nat} (hc : c ∉ reactionCodes) :
    c ∈ ((s.recover t).conclude old).pu.codes ↔ c ≠ t.code ∧ c ∈ s.pu.codes :=
  (((s.recover t).conclude_pu old).codes c hc).trans (s.mem_recover_codes t c)

end Sys2Proof.Machine
end

section
/-! PROOF. The events of the trip sources (O26): a discrepancy that has passed 100 samples, a filter that is met, a
recovery timer that expires. -/

namespace Sys2Proof.Machine

/-! ### The discrepancy of a route valve -/

/-- The state in which PU has counted the discrepancy that MU has found present (R36, R148). -/
def State.discrepancyCounted (s : State) (r : Route) : State :=
  (s.markDiscrepancy r).setSource (valveSource r)
    ((s.source (valveSource r)).sample (s.cfg.source (valveSource r)) (1000 * s.cfg.recoveryTime) true)

/-- Outside JOINING and RUN PU hears of no discrepancy (R147). -/
theorem exec_valveDiscrepancy_idle {s : State} {r : Route} (hp : s.phase ≠ .hold) (hd : s.discrepancyDue r = true)
    (hw : s.working = false) : exec (.valveDiscrepancy r) s = .next (s.markDiscrepancy r) := by
  have hw' : (s.markDiscrepancy r).working = false := by simpa [State.working, State.phase] using hw
  simp [exec, execValveDiscrepancy, hp, hd, hw']

/-- In JOINING and RUN a discrepancy is counted, and trips its source when that meets the filter (R148). -/
theorem exec_valveDiscrepancy_working {s : State} {r : Route} (hp : s.phase ≠ .hold)
    (hd : s.discrepancyDue r = true) (hw : s.working = true) :
    exec (.valveDiscrepancy r) s =
      .next ((if (s.discrepancyCounted r).filterMet (valveSource r) then
        (s.discrepancyCounted r).trip (valveSource r) true else s.discrepancyCounted r).conclude s) := by
  have hw' : (s.markDiscrepancy r).working = true := by simpa [State.working, State.phase] using hw
  have hsrc : (s.markDiscrepancy r).source (valveSource r) = s.source (valveSource r) :=
    State.source_congr (by simp) _
  rw [State.discrepancyCounted, ← hsrc]
  simp only [exec, execValveDiscrepancy, if_pos (And.intro hp hd), if_pos hw', State.markDiscrepancy_frame]

/-- Whether the discrepancy of a route's valve has been found present (R36). -/
def Measure.present (m : Measure) : Route → Bool
  | .A => m.presentA
  | .B => m.presentB

@[simp] theorem markDiscrepancy_present (s : State) (r : Route) : (s.markDiscrepancy r).mu.present r = true := by
  cases r <;> rfl

/-- The end of a step takes no discrepancy back. -/
@[simp] theorem conclude_present (s old : State) (r : Route) : (s.conclude old).mu.present r = s.mu.present r := by
  cases r <;> simp [Measure.present]

/-- A NORMAL source counts a present condition up to its width (R148). -/
theorem Source.sample_normal_present {x : Source} (cfg : SourceSetting) (ms : Nat) (h : x.st = .normal) :
    x.sample cfg ms true =
      { x with run := if x.run < holdRun cfg.width then x.run + 1 else x.run, present := true } := by
  simp [Source.sample, h]

/-- The sources of the route valves are kept in both roles and are counted at samples (R147). -/
theorem valveSource_kept (cfg : Settings) (r : Route) :
    cfg.hasSource (valveSource r) = true ∧ (valveSource r).isEvent = false := by
  cases r <;> exact ⟨rfl, rfl⟩

section
variable {s : State} {r : Route} (hw : s.working = true) (hn : (s.source (valveSource r)).st = .normal)
include hn

/-- The source of the valve once the discrepancy has been counted. -/
theorem discrepancyCounted_source :
    (s.discrepancyCounted r).source (valveSource r) =
      { s.source (valveSource r) with
        run := if (s.source (valveSource r)).run < holdRun (s.cfg.source (valveSource r)).width
          then (s.source (valveSource r)).run + 1 else (s.source (valveSource r)).run
        present := true } := by
  rw [State.discrepancyCounted, State.setSource_source_same, Source.sample_normal_present _ _ hn]

include hw

/-- Its filter is met from a run that lacks at most this sample (R148). -/
theorem discrepancyCounted_filterMet_iff :
    (s.discrepancyCounted r).filterMet (valveSource r) = true ↔
      (s.cfg.source (valveSource r)).width ≤ (s.source (valveSource r)).run + 1 := by
  obtain ⟨hkept, hsample⟩ := valveSource_kept s.cfg r
  have hwork : (s.discrepancyCounted r).working = true := by
    simpa [State.discrepancyCounted, State.working, State.phase] using hw
  have hcfg : (s.discrepancyCounted r).cfg = s.cfg := by simp [State.discrepancyCounted]
  simp only [State.filterMet, hwork, hcfg, hkept, hsample, discrepancyCounted_source hn, hn,
    Bool.not_false, Bool.and_true, beq_self_eq_true, Bool.true_and, decide_eq_true_eq]
  have hhold : holdRun (s.cfg.source (valveSource r)).width = max 1 (s.cfg.source (valveSource r)).width := rfl
  split <;> omega

end

/-! ### The obligation -/

/-- VALVE_DISCREPANCY (R36, R148). -/
theorem valveDiscrepancy_spec {s : State} {r : Route} (hp : s.phase ≠ .hold) (hd : s.discrepancyDue r = true) :
    ∃ t, exec (.valveDiscrepancy r) s = .next t
      ∧ t.mu.present r = true
      ∧ (s.working = false → t.pu = s.pu)
      ∧ (s.working = true → (s.source (valveSource r)).st = .normal →
          ((s.cfg.source (valveSource r)).width ≤ (s.source (valveSource r)).run + 1 →
            (t.source (valveSource r)).st = .tripped ∧ (valveSource r).code ∈ t.pu.codes)
          ∧ ((s.source (valveSource r)).run + 1 < (s.cfg.source (valveSource r)).width →
            (t.source (valveSource r)).st = .normal
            ∧ (t.source (valveSource r)).run = (s.source (valveSource r)).run + 1)) := by
  cases hw : s.working with
  | false => exact ⟨_, exec_valveDiscrepancy_idle hp hd hw, by simp, by simp, by simp⟩
  | true =>
    refine ⟨_, exec_valveDiscrepancy_working hp hd hw, ?_, by simp, fun _ hn => ⟨fun hmet => ?_, fun hlack => ?_⟩⟩
    · rw [conclude_present]
      split <;> simp [State.discrepancyCounted]
    · rw [if_pos ((discrepancyCounted_filterMet_iff hw hn).mpr hmet)]
      refine ⟨by simp, ?_⟩
      rw [State.mem_conclude_trip _ _ _ _ (code_not_reaction _)]
      exact Or.inl rfl
    · have hnot : ¬(s.discrepancyCounted r).filterMet (valveSource r) = true := fun h =>
        absurd ((discrepancyCounted_filterMet_iff hw hn).mp h) (by omega)
      have hroom : (s.source (valveSource r)).run < holdRun (s.cfg.source (valveSource r)).width := by
        unfold holdRun
        omega
      rw [if_neg hnot, State.conclude_source, discrepancyCounted_source hn]
      exact ⟨hn, if_pos hroom⟩

/-- Settles O26: the trip, the count and the recovery, each followed by the end of its step. -/
theorem tripSourceEvents : Obligations.TripSourceEvents := by
  refine fun s => ⟨fun r hp hd => ?_, fun x hmet => ?_, fun x hst hdue => ?_⟩
  · obtain ⟨t, hexec, hpresent, counted⟩ := valveDiscrepancy_spec hp hd
    exact ⟨t, hexec, by cases r <;> exact hpresent, counted⟩
  · have hexec : exec (.tripFilterMet x) s = .next ((s.trip x (s.source x).present).conclude s) := by
      simp [exec, execTripFilterMet, hmet]
    refine ⟨_, hexec, by simp, by simp, fun y hy => ?_, fun c hc => s.mem_conclude_trip _ _ _ hc,
      State.conclude_de rfl s⟩
    rw [State.conclude_source, State.trip_source_ne s hy]
  · have hexec : exec (.recoveryTimerExpiry x) s = .next ((s.recover x).conclude s) := by
      simp [exec, execRecoveryTimerExpiry, hst, hdue]
    refine ⟨_, hexec, by simp, by simp, by simp, fun y hy => ?_, fun c hc => s.mem_conclude_recover _ _ hc,
      State.conclude_de rfl s⟩
    rw [State.conclude_source, State.recover_source_ne s hy]

end Sys2Proof.Machine
end

section
/-! PROOF. An idle step (O2): one millisecond of every timer, of the extraction clock, and of nothing else. -/

namespace Sys2Proof.Machine

/-- A millisecond of a timer (R32). -/
theorem Timer.tick_eq (a : Timer) : a.tick = if a.st = .running then { a with left := a.left - 1 } else a := by
  unfold Timer.tick
  split
  · rename_i h
    rw [h]
  · rfl

/-- Time neither stops a timer nor starts one. -/
@[simp] theorem Timer.tick_isStopped (a : Timer) : a.tick.isStopped = a.isStopped := by
  unfold Timer.tick Timer.isStopped
  split
  · rename_i h
    simp [h]
  · rfl

/-- A millisecond of one source. -/
@[simp] theorem Sources.tick_get (x : Sources) (t : TripSource) : x.tick.get t = (x.get t).tick := by
  cases t <;> rfl

/-- A millisecond outside the start hold, block by block. -/
theorem State.tick_blocks {s : State} (h : s.boot.phase ≠ .hold) :
    s.tick.boot = { s.boot with joining := s.boot.joining.tick } ∧ s.tick.pt = s.pt.tick ∧
    s.tick.ms = { s.ms with call := { s.ms.call with wait := s.ms.call.wait.tick } } ∧ s.tick.sq = s.sq.tick ∧
    s.tick.ch = s.ch.tick ∧ s.tick.ac = s.ac.tick ∧ s.tick.pu = s.pu.tick ∧
    s.tick.rs = { s.rs with idle := s.rs.idle.tick, statusTimer := s.rs.statusTimer.tick } ∧
    s.tick.li = s.li ∧ s.tick.nv = s.nv ∧ s.tick.free = s.free ∧ s.tick.pending = s.pending := by
  rw [State.tick, if_neg h]
  exact ⟨rfl, rfl, rfl, rfl, rfl, rfl, rfl, rfl, rfl, rfl, rfl, rfl⟩

section
variable (s : State)

/-- All that the valves and NV read of the sweep timer (R75). -/
@[simp] theorem State.tick_sweep_isStopped : s.tick.ch.sweep.isStopped = s.ch.sweep.isStopped := by
  unfold State.tick
  split
  · rfl
  · exact Timer.tick_isStopped s.ch.sweep

/-- What the outputs read and time does not move. -/
theorem State.tick_frame :
    s.tick.boot.phase = s.boot.phase ∧ s.tick.boot.address = s.boot.address ∧ s.tick.cfg = s.cfg ∧
    s.tick.pt.ownHazard = s.pt.ownHazard ∧ s.tick.ms.listA = s.ms.listA ∧ s.tick.ms.listB = s.ms.listB ∧
    s.tick.ms.own = s.ms.own ∧ s.tick.ms.claimHeard = s.ms.claimHeard ∧ s.tick.ms.marks = s.ms.marks ∧
    s.tick.ms.backoff = s.ms.backoff ∧ s.tick.sq.step = s.sq.step ∧ s.tick.sq.routeB = s.sq.routeB ∧
    s.tick.sq.clampHold = s.sq.clampHold ∧ s.tick.ch.st = s.ch.st ∧ s.tick.ch.pending = s.ch.pending ∧
    s.tick.ch.cls = s.ch.cls ∧ s.tick.ch.doorOpen = s.ch.doorOpen ∧ s.tick.ch.path = s.ch.path ∧
    s.tick.mu = s.mu ∧ s.tick.ac.queue = s.ac.queue ∧ s.tick.ac.chamber.length = s.ac.chamber.length ∧
    s.tick.pu.de = s.pu.de ∧ s.tick.pu.codes = s.pu.codes ∧ s.tick.rs.supplyLow = s.rs.supplyLow := by
  unfold State.tick
  split
  · simp
  · simp [Peers.tick, Sequence.tick, Chamber.tick, Accounts.tick, Protection.tick]

/-- Time reaches no output. -/
theorem State.tick_outputs : s.tick.outputs = s.outputs := by
  obtain ⟨phase, address, cfg, hazard, listA, listB, own, heard, marks, backoff, step, routeB, hold, st, pending, cls,
    door, path, mu, queue, chamber, de, codes, supply⟩ := s.tick_frame
  have list (r : Route) : s.tick.ms.list r = s.ms.list r := by cases r <;> assumption
  have foam : s.tick.isFoam = s.isFoam := by simp only [State.isFoam, cfg]
  have gate : s.tick.gate = s.gate := by simp only [State.gate, State.level, State.filter, de, mu]
  have seated : s.tick.ownSeated = s.ownSeated := by simp only [State.ownSeated, own, heard, list, address]
  have valve : s.tick.chamberValve = s.chamberValve := by
    simp only [State.chamberValve, State.chamberValveCommand, State.ownPurgePath, State.purgeInProgress, foam, gate,
      seated, st, pending, path, marks, backoff, State.tick_sweep_isStopped]
  have suspended : s.tick.suspended = s.suspended := by
    simp only [State.suspended, State.suspendCause, State.purgeInProgress, step, seated, backoff, marks]
  have onA : s.tick.valveA = s.valveA := by
    simp only [State.valveA, State.isExtraction, State.chamberRoute, cfg, step, routeB, suspended, gate, valve, cls]
  have onB : s.tick.valveB = s.valveB := by
    simp only [State.valveB, State.isExtraction, State.chamberRoute, cfg, step, routeB, suspended, gate, valve, cls]
  have pump : s.tick.srp = s.srp := by
    simp only [State.srp, State.srpCommand, foam, gate, seated, st, pending, mu, hazard]
  have vent : s.tick.nvCommand = s.nvCommand := by
    simp only [State.nvCommand, st, pending, State.tick_sweep_isStopped]
  have ready : s.tick.chamberReady = s.chamberReady := by
    simp only [State.chamberReady, pending, st, pump, chamber]
  have start : s.tick.extractionReady = s.extractionReady := by
    simp only [State.extractionReady, State.startPermitted, State.isExtraction, State.inRun, State.phase, State.level,
      State.filter, Accounts.active, cfg, phase, de, mu, queue, supply]
  have hphase : s.tick.phase = s.phase := phase
  simp only [State.outputs, State.cld, State.flt, hphase, foam, gate, onA, onB, pump, vent, ready, start,
    st, pending, path, door, step, hold, codes]

end

/-- Settles O2: the blocks after a millisecond, and the outputs that read no remaining time. -/
theorem idleStepCountsRunningTimers : Obligations.IdleStepCountsRunningTimers := by
  intro s hpending
  refine ⟨s.tick, by simp [step, hpending], fun hhold => if_pos hhold, ?_⟩
  intro hrun ms
  have htick : Timer.tick = ms := funext Timer.tick_eq
  rw [← htick]
  obtain ⟨boot, pt, unit, sq, ch, ac, pu, rs, li, nv, free, pending⟩ := State.tick_blocks hrun
  obtain ⟨-, -, cfg, -, -, -, -, -, -, -, -, -, -, -, -, -, -, -, mu, -, -, de, codes, -⟩ := s.tick_frame
  refine ⟨boot, by rw [pt]; rfl, by rw [pt]; rfl, by rw [pt]; rfl, unit, sq, ch, ac, rs, fun x => ?_, codes, de, cfg, li,
    mu, nv, free, pending.trans hpending, s.tick_outputs⟩
  rw [State.source, pu]
  exact Sources.tick_get s.pu.sources x

end Sys2Proof.Machine
end

section
/-! SUPPORT. The end of a step where SQ has little to do: at an EXTRACTION station in E0, and at a FOAM station in
INERTING, which it leaves for HALTED on a halt cause and keeps until its window is complete and the oxygen low. -/

namespace Sys2Proof.Machine

/-! ### An EXTRACTION station in E0 -/

/-- In E0 the end of a step is the STATUS alone. -/
theorem State.conclude_e0 {s : State} (hf : s.isFoam = false) (h : s.sq.step = .e0) (old : State) :
    s.conclude old = s.announceIf false old := by
  simp [State.conclude, State.concludeIf, State.summaryMoves, State.settle, hf, State.settleExtraction,
    State.settleStarve, h]

/-- Outside JOINING and RUN no STATUS reports a change (R127). -/
theorem State.announceIf_idle {s : State} (hw : s.working = false) (b : Bool) (old : State) :
    s.announceIf b old = s := by
  simp [State.announceIf, hw]

/-! ### A FOAM station in INERTING -/

/-- The causes that halt a chamber in INERTING (R90). -/
theorem State.haltCause_inerting_iff (s : State) :
    s.haltCause .inerting = true ↔ s.pu.de = false ∨ s.pt.ownHazard = .stop := by
  simp [State.haltCause]

/-- Without a halt cause INERTING lasts until both of its conditions have come (R78). -/
theorem State.chamberMoves_inerting_stays {s : State} (hst : s.ch.st = .inerting)
    (hc : ¬s.haltCause .inerting = true) (hw : (s.ch.zeroDone && s.mu.cmp.inert.met) = false) (n : Nat) :
    s.chamberMoves n = s := by
  have hmove : s.chamberMove = none := by simp [State.chamberMove, hst, hc, hw]
  cases n with
  | zero => rfl
  | succ n => simp [State.chamberMoves, hmove]

/-- A halt cause of INERTING leads to HALTED, and keeps the chamber there (R90, R91). -/
theorem State.chamberMoves_inerting_halts {s : State} (hst : s.ch.st = .inerting)
    (hc : s.haltCause .inerting = true) (n : Nat) : s.chamberMoves (n + 1) = s.enterHalted := by
  have hmove : s.chamberMove = some s.enterHalted := by simp [State.chamberMove, hst, hc]
  have hends : s.enterHalted.haltEnds = false := by
    rcases s.haltCause_inerting_iff.mp hc with h | h <;> simp [State.haltEnds, h]
  have hstays : s.enterHalted.chamberMove = none := by simp [State.chamberMove, hends]
  rw [State.chamberMoves, hmove]
  cases n with
  | zero => rfl
  | succ n => simp [State.chamberMoves, hstays]

/-- Leaving INERTING for HALTED drops its window and disarms its comparator (R79). -/
theorem State.enterHalted_inerting {s : State} (hst : s.ch.st = .inerting) :
    s.enterHalted.mu.window = {} ∧ s.enterHalted.mu.cmp.inert = Comparator.disarm ∧
      s.enterHalted.ms.own = s.ms.own := by
  simp [State.enterHalted, State.leaveState, hst, State.setInert]

/-- At a FOAM station at work the end of a step leaves the chamber, the own claim, PU and the window of INERTING as
the changes of state have made them. -/
theorem State.conclude_chamber {s u : State} (hf : s.isFoam = true) (hp : s.ch.pending = false)
    (hu : s.chamberMoves 6 = u) (old : State) :
    (s.conclude old).ch.st = u.ch.st ∧ (s.conclude old).ch.zeroDone = u.ch.zeroDone ∧
    (s.conclude old).ms.own = u.ms.own ∧ (s.conclude old).pu = u.pu ∧
    (s.conclude old).mu.window = u.mu.window ∧ (s.conclude old).mu.cmp.inert = u.mu.cmp.inert := by
  simp [State.conclude, State.concludeIf, State.settle, hf, State.settleChamber, hp, hu]

section
variable {s : State} (hf : s.isFoam = true) (hp : s.ch.pending = false) (hst : s.ch.st = .inerting)
include hf hp hst

/-- The end of a step that leaves a FOAM station in INERTING. -/
theorem State.conclude_inerting_stays (hc : ¬s.haltCause .inerting = true)
    (hw : (s.ch.zeroDone && s.mu.cmp.inert.met) = false) (old : State) :
    (s.conclude old).ch.st = .inerting ∧ (s.conclude old).ch.zeroDone = s.ch.zeroDone ∧
    (s.conclude old).ms.own = s.ms.own ∧ (s.conclude old).pu = s.pu ∧
    (s.conclude old).mu.window = s.mu.window ∧ (s.conclude old).mu.cmp.inert = s.mu.cmp.inert := by
  have h := State.conclude_chamber hf hp (State.chamberMoves_inerting_stays hst hc hw 6) old
  rwa [hst] at h

/-- The end of a step in which a halt cause takes a FOAM station out of INERTING. -/
theorem State.conclude_inerting_halts (hc : s.haltCause .inerting = true) (old : State) :
    (s.conclude old).ch.st = .halted ∧ (s.conclude old).ch.zeroDone = s.ch.zeroDone ∧
    (s.conclude old).ms.own = s.ms.own ∧ (s.conclude old).pu = s.pu ∧ (s.conclude old).mu.window = {} := by
  obtain ⟨st, zeroDone, own, pu, window, -⟩ :=
    State.conclude_chamber hf hp (State.chamberMoves_inerting_halts hst hc 5) old
  obtain ⟨hwindow, -, hown⟩ := State.enterHalted_inerting hst
  exact ⟨by simpa using st, by simpa using zeroDone, own.trans hown, by simpa using pu, window.trans hwindow⟩

end

end Sys2Proof.Machine
end

section
/-! PROOF. The filling of an input filter and the end of JOINING (O20). -/

namespace Sys2Proof.Machine

/-! ### The filters -/

@[simp] theorem State.setFilter_filter_same (s : State) (p : Pin) (f : Filter) : (s.setFilter p f).filter p = f :=
  Filters.get_set_same ..

theorem State.setFilter_filter_ne (s : State) {p q : Pin} (h : q ≠ p) (f : Filter) :
    (s.setFilter p f).filter q = s.filter q := Filters.get_set_ne _ h f

/-- The end of a step moves no filter. -/
@[simp] theorem State.conclude_filter (s old : State) (p : Pin) : (s.conclude old).filter p = s.filter p := by
  simp [State.filter]

/-- A filter fills, and SQ follows its level (R34). -/
theorem exec_inputFilterFill {s : State} {p : Pin} (hp : s.phase ≠ .hold) (hd : (s.filter p).fillDue = true)
    (hs : p ≠ .svc ∨ s.phase ≠ .starting) :
    exec (.inputFilterFill p) s = .next ((s.setFilter p (s.filter p).fill).conclude s) := by
  have hstrap : ¬(p = .svc ∧ s.phase = .starting) := by tauto
  simp [exec, execInputFilterFill, hp, hd, hstrap]

/-! ### The entry of RUN -/

/-- What the entry of RUN writes in either role (R144, R175). -/
theorem enterRun_spec (s : State) :
    s.enterRun.boot = { s.boot with phase := .run, joining := Timer.stopped } ∧
    s.enterRun.pu.de = s.pu.codes.all fun c => !isFatal c && !s.cfg.trips c := by
  unfold State.enterRun
  dsimp only
  split <;> simp [State.evalDe, State.driveRule, State.inRun, State.phase]

/-- At an EXTRACTION station MS and the chamber stay as they are. -/
theorem enterRun_extraction {s : State} (hf : s.isFoam = false) :
    s.enterRun.ms = s.ms ∧ s.enterRun.ch = s.ch := by
  have hrole : (s.cfg.role == .foam) = false := hf
  simp [State.enterRun, State.isFoam, hrole]

/-- At a FOAM station RUN begins with the entry of INERTING (R73, R78). -/
theorem enterRun_foam {s : State} (hf : s.isFoam = true) :
    s.enterRun.ch.st = .inerting ∧ s.enterRun.ch.pending = false ∧ s.enterRun.ch.zeroDone = false ∧
    s.enterRun.ms.own = none ∧ s.enterRun.mu.window = Window.opened ∧
    s.enterRun.mu.cmp.inert = Comparator.arm := by
  have hrole : (s.cfg.role == .foam) = true := hf
  simp [State.enterRun, State.isFoam, hrole, State.enterInerting, State.setInert]

/-- The end of JOINING at an EXTRACTION station, whose sequence stands in E0. -/
theorem joiningEnd_extraction {s : State} (hf : s.isFoam = false) (hq : s.sq = {}) :
    (s.enterRun.conclude s).sq = {} ∧ (s.enterRun.conclude s).ms = s.ms ∧ (s.enterRun.conclude s).ch = s.ch ∧
    (s.enterRun.conclude s).pu = s.enterRun.pu := by
  obtain ⟨unit, chamber⟩ := enterRun_extraction hf
  have hf' : s.enterRun.isFoam = false := by simpa [State.isFoam] using hf
  rw [State.conclude_e0 hf' (by simp [hq])]
  simp [hq, unit, chamber]

/-- The end of JOINING at a FOAM station: HALTED on a halt cause, else the INERTING that has been entered (R90). -/
theorem joiningEnd_foam {s : State} (hf : s.isFoam = true) :
    (s.enterRun.conclude s).ms.own = none ∧ (s.enterRun.conclude s).pu = s.enterRun.pu
      ∧ (s.enterRun.pu.de = true → s.pt.ownHazard ≠ .stop →
          (s.enterRun.conclude s).ch.st = .inerting ∧ (s.enterRun.conclude s).mu.window = Window.opened
          ∧ (s.enterRun.conclude s).mu.cmp.inert = Comparator.arm)
      ∧ (s.enterRun.pu.de = false ∨ s.pt.ownHazard = .stop →
          (s.enterRun.conclude s).ch.st = .halted ∧ (s.enterRun.conclude s).mu.window = {}) := by
  obtain ⟨hst, hpending, hzero, hown, hwindow, hinert⟩ := enterRun_foam hf
  have hf' : s.enterRun.isFoam = true := by simpa [State.isFoam] using hf
  have hcause := s.enterRun.haltCause_inerting_iff
  simp only [State.enterRun_frame] at hcause
  by_cases hc : s.enterRun.haltCause .inerting = true
  · obtain ⟨st, -, own, pu, window⟩ := State.conclude_inerting_halts hf' hpending hst hc s
    refine ⟨own.trans hown, pu, fun hde hhaz => ?_, fun _ => ⟨st, window⟩⟩
    rcases hcause.mp hc with h | h
    · rw [h] at hde
      cases hde
    · exact absurd h hhaz
  · obtain ⟨st, -, own, pu, window, inert⟩ :=
      State.conclude_inerting_stays hf' hpending hst hc (by simp [hzero]) s
    exact ⟨own.trans hown, pu, fun _ _ => ⟨st, window.trans hwindow, inert.trans hinert⟩,
      fun h => absurd (hcause.mpr h) hc⟩

/-! ### The obligation -/

/-- Settles O20: the filter's new state with the frame of the end of its step, and the entry of RUN by role. -/
theorem filterFillAndJoiningEnd : Obligations.FilterFillAndJoiningEnd := by
  refine ⟨fun s p hp hd hs => ⟨_, exec_inputFilterFill hp hd hs, ?_⟩, fun s hp hd hq => ?_⟩
  · have hfill : (s.filter p).fill = { filled := true, level := (s.filter p).raw, raw := (s.filter p).raw, count := 0 } :=
      rfl
    refine ⟨by simp [hfill], fun q hqp => ?_, by simp, by simp, by simp, by simp, by simp, by simp, by simp, ?_,
      by simp, by simp, fun hw hx hsq => ?_⟩
    · rw [State.conclude_filter, State.setFilter_filter_ne s hqp]
    · exact (State.conclude_work _ s).trans (State.queueWork_congr (by simp))
    · have hfoam : (s.setFilter p (s.filter p).fill).isFoam = false := by
        simpa [State.isFoam] using isFoam_of_isExtraction hx
      have hidle : (s.setFilter p (s.filter p).fill).working = false := by
        simpa [State.working, State.phase] using hw
      rw [State.conclude_filter, State.setFilter_filter_same, State.conclude_e0 hfoam (by simp [hsq]),
        State.announceIf_idle hidle]
  · have hexec : exec .joiningEnd s = .next (s.enterRun.conclude s) := by simp [exec, execJoiningEnd, hp, hd]
    obtain ⟨boot, de⟩ := enterRun_spec s
    refine ⟨_, hexec, by simpa using boot, ?_⟩
    cases hf : s.isFoam with
    | false =>
      obtain ⟨sq, unit, chamber, pu⟩ := joiningEnd_extraction hf hq
      exact ⟨by rw [pu, de], by simp [pu], fun _ => ⟨sq, unit, chamber⟩, by simp⟩
    | true =>
      obtain ⟨own, pu, stays, halts⟩ := joiningEnd_foam hf
      have hpending : (s.enterRun.conclude s).ch.pending = false := by simpa using (enterRun_foam hf).2.1
      rw [pu]
      exact ⟨de, by simp, by simp, fun _ => ⟨hpending, own, fun hde hhaz => stays hde (by simpa using hhaz),
        fun h => halts (by simpa using h)⟩⟩

end Sys2Proof.Machine
end

section
/-! PROOF. The end of a zero window (O25): the zero it gives, the account it marks, and the step that follows. -/

namespace Sys2Proof.Machine

/-! ### The zero of a window -/

/-- A zero is accepted when no sample was over range and it is at most 2,000 (R39). -/
theorem zeroOf_accepted {w : Window} (h : w.overRange = false ∧ w.sum / 32 ≤ 2000) :
    zeroOf w = some (w.sum / 32) := by
  simp [zeroOf, h.1, h.2]

/-- Any other is rejected. -/
theorem zeroOf_rejected {w : Window} (h : ¬(w.overRange = false ∧ w.sum / 32 ≤ 2000)) : zeroOf w = none := by
  unfold zeroOf
  split
  · rfl
  · rename_i hover
    exact if_neg fun hz => h ⟨by simpa using hover, hz⟩

/-- The measurement unit with the zero of its window in use, and the window closed (R39). -/
theorem takeZero_mu (s : State) :
    s.takeZero.mu = { s.mu with
      zero := (zeroOf s.mu.window).getD 0, zeroRejected := (zeroOf s.mu.window).isNone, window := {} } := by
  unfold State.takeZero
  dsimp only
  split <;> simp

/-- An accepted zero is no business of PU. -/
theorem takeZero_pu_accepted {s : State} {z : Nat} (h : zeroOf s.mu.window = some z) : s.takeZero.pu = s.pu := by
  simp [State.takeZero, h]

/-- A rejected zero is reported as source 14 (R39). -/
theorem takeZero_rejected {s : State} (h : zeroOf s.mu.window = none) :
    (s.takeZero.source .flowZero).st = .tripped ∧
      ((s.source .flowZero).st = .normal → 14 ∈ s.takeZero.pu.codes) := by
  have htake : s.takeZero =
      (s.setMu { s.mu with zero := 0, zeroRejected := true, window := {} }).reportEvent .flowZero := by
    simp [State.takeZero, h]
  rw [htake]
  exact ⟨State.reportEvent_st _ _, fun hn => State.reportEvent_codes (t := .flowZero) hn⟩

/-! ### The two roles -/

/-- The state once SQ has taken the zero in its role, before the end of the step (R55, R78). -/
def State.zeroEnded (s : State) : State :=
  if s.isFoam then s.takeZero.setCh { s.ch with zeroDone := true } else s.endZero

theorem exec_zeroWindowComplete {s : State} (hw : s.working = true) (ho : s.mu.window.isOpen = true)
    (hn : 32 ≤ s.mu.window.count) : exec .zeroWindowComplete s = .next (s.zeroEnded.conclude s) := by
  simp [exec, execZeroWindowComplete, hw, ho, hn, State.zeroEnded]

/-- SQ takes the zero as MU and PU have it. -/
theorem zeroEnded_mu_pu (s : State) : s.zeroEnded.mu = s.takeZero.mu ∧ s.zeroEnded.pu = s.takeZero.pu := by
  unfold State.zeroEnded
  split
  · exact ⟨rfl, rfl⟩
  · simp [State.endZero]

/-- What a completed window writes into an ACTIVE entry (R39, R55). -/
def QueueEntry.zeroed (w : Window) (threshold : Nat) (e : QueueEntry) : QueueEntry :=
  { e with account := e.account.zeroed (zeroOf w) w.first threshold }

/-- The queue after E2: the ACTIVE account has its zero, whatever SQ does next in E3. -/
theorem endZero_queue (s : State) :
    s.endZero.ac.queue = s.ac.queue.map fun e =>
      if e.st = .active then e.zeroed s.mu.window s.cfg.emptyThreshold else e := by
  simp only [State.endZero, State.enterTimed, State.setSq_ac, State.onActive, State.setQueue_queue,
    State.takeZero_frame]
  rfl

/-- Every ACTIVE account of that queue has been written. -/
theorem active_of_endZero {s : State} {e : QueueEntry} (he : e ∈ s.endZero.ac.queue) (hst : e.st = .active) :
    ∃ f, e = QueueEntry.zeroed s.mu.window s.cfg.emptyThreshold f := by
  rw [endZero_queue, List.mem_map] at he
  obtain ⟨f, -, hf⟩ := he
  split at hf
  · exact ⟨f, hf.symm⟩
  · rename_i hne
    exact absurd (hf ▸ hst) hne

/-- E3 with its timer reset: with a classify time above 0 it runs from full while the gate is open, and SQ does no
more (R52, R56). -/
theorem State.settle_e3 {s : State} (hf : s.isFoam = false) (hs : s.sq.step = .e3) (hc : s.cfg.classifyTime ≠ 0)
    (ht : s.sq.timer = Timer.reset (1000 * s.cfg.classifyTime)) :
    s.settle = s.setSq { s.sq with
      timer := if s.gate then Timer.start (1000 * s.cfg.classifyTime) else Timer.reset (1000 * s.cfg.classifyTime)
      detected := s.sq.detected || s.level .in3 } := by
  have htimer : s.stepTimer =
      if s.gate then Timer.start (1000 * s.cfg.classifyTime) else Timer.reset (1000 * s.cfg.classifyTime) := by
    cases hg : s.gate <;>
      simp [State.stepTimer, ht, hg, hs, Timer.isStopped, Timer.reset, Timer.resume, Timer.start, State.suspended,
        Settings.stepTime]
  simp [State.settle, hf, State.settleExtraction, hs, State.settleE3, hc, htimer, State.settleStarve]

/-- The end of E2 at the end of its step: E3, with the queue and the window as E2 has left them (R55, R56). -/
theorem conclude_endZero {s : State} (hf : s.isFoam = false) (hc : s.cfg.classifyTime ≠ 0) (old : State) :
    (s.endZero.conclude old).sq.step = .e3 ∧
    (s.endZero.conclude old).sq.timer = (if (s.endZero.conclude old).gate then
      Timer.start (1000 * s.cfg.classifyTime) else Timer.reset (1000 * s.cfg.classifyTime)) ∧
    (s.endZero.conclude old).mu.window.isOpen = false ∧
    (s.endZero.conclude old).ac.queue = s.endZero.ac.queue := by
  have hf' : s.endZero.isFoam = false := by simpa [State.isFoam] using hf
  have hstep : s.endZero.sq.step = .e3 := rfl
  have htimer : s.endZero.sq.timer = Timer.reset (1000 * s.endZero.cfg.classifyTime) := rfl
  have hsettle := State.settle_e3 hf' hstep (by simpa using hc) htimer
  have hwindow : s.endZero.mu.window.isOpen = false := by simp [State.endZero, takeZero_mu]
  have hgate : (s.endZero.conclude old).gate = s.endZero.gate := by
    simp [State.conclude, State.concludeIf, hsettle, State.gate, State.level, State.filter]
  rw [hgate]
  simp [State.conclude, State.concludeIf, hsettle, hstep, hwindow]

/-- A FOAM station in INERTING at the end of the step: the window of R78 has completed. -/
theorem conclude_zeroDone {s : State} (hf : s.isFoam = true) (hp : s.ch.pending = false)
    (hst : s.ch.st = .inerting) (hi : s.mu.cmp.inert.met = false) (old : State) :
    (s.zeroEnded.conclude old).ch.zeroDone = true ∧ (s.zeroEnded.conclude old).mu.window.isOpen = false := by
  have hu : s.zeroEnded = s.takeZero.setCh { s.ch with zeroDone := true } := if_pos hf
  have hf' : s.zeroEnded.isFoam = true := by simpa [hu, State.isFoam] using hf
  have hp' : s.zeroEnded.ch.pending = false := by simpa [hu] using hp
  have hst' : s.zeroEnded.ch.st = .inerting := by simpa [hu] using hst
  have hdone : s.zeroEnded.ch.zeroDone = true := by simp [hu]
  have hwindow : s.zeroEnded.mu.window.isOpen = false := by simp [zeroEnded_mu_pu, takeZero_mu]
  by_cases hc : s.zeroEnded.haltCause .inerting = true
  · obtain ⟨-, done, -, -, window⟩ := State.conclude_inerting_halts hf' hp' hst' hc old
    exact ⟨done.trans hdone, by rw [window]⟩
  · obtain ⟨-, done, -, -, window, -⟩ :=
      State.conclude_inerting_stays hf' hp' hst' hc (by simp [zeroEnded_mu_pu, takeZero_mu, hi]) old
    exact ⟨done.trans hdone, by rw [window, hwindow]⟩

/-! ### The obligation -/

/-- Settles O25: the zero in either role, then E3 at an EXTRACTION station and INERTING at a FOAM station. -/
theorem zeroWindowCompletes : Obligations.ZeroWindowCompletes := by
  intro s hw ho hn
  refine ⟨_, exec_zeroWindowComplete hw ho hn, ?_⟩
  obtain ⟨hmu, hpu⟩ := zeroEnded_mu_pu s
  have hzero : (s.zeroEnded.conclude s).mu.zero = (zeroOf s.mu.window).getD 0 ∧
      (s.zeroEnded.conclude s).mu.zeroRejected = (zeroOf s.mu.window).isNone := by
    simp [hmu, takeZero_mu]
  intro z ok
  have accepted (h : ok) : zeroOf s.mu.window = some z := zeroOf_accepted h
  have rejected (h : ¬ok) : zeroOf s.mu.window = none := zeroOf_rejected h
  refine ⟨fun h => ?_, fun h => ?_, fun hf hc => ?_, fun hf hp hst hi => conclude_zeroDone hf hp hst hi s⟩
  · rw [accepted h] at hzero
    refine ⟨hzero.1, hzero.2, ?_⟩
    simp [hpu, takeZero_pu_accepted (accepted h)]
  · rw [rejected h] at hzero
    obtain ⟨htrip, hcode⟩ := takeZero_rejected (rejected h)
    refine ⟨hzero.1, hzero.2, ?_, fun hnormal => ?_⟩
    · rwa [State.conclude_source, State.source_congr (congrArg Protection.sources hpu)]
    · rw [(State.conclude_pu _ s).codes 14 (by decide), hpu]
      exact hcode hnormal
  · have hend : s.zeroEnded = s.endZero := if_neg (by simp [hf])
    rw [hend]
    obtain ⟨step, timer, window, queue⟩ := conclude_endZero hf hc s
    refine ⟨step, timer, window, ?_, fun e he hst => ?_⟩
    · refine (State.conclude_work _ s).trans ?_
      refine (State.queueWork_congr (s := s.takeZero.onActive _) ?_).trans
        ((State.onActive_work s.takeZero (QueueEntry.zeroed s.mu.window s.cfg.emptyThreshold) fun _ => rfl).trans
          (State.queueWork_congr (by simp)))
      rw [endZero_queue]
      simp [State.onActive]
    · rw [queue] at he
      obtain ⟨f, rfl⟩ := active_of_endZero he hst
      refine ⟨rfl, fun h => ?_, fun h => ?_, fun h => ?_⟩
      · simp [QueueEntry.zeroed, Account.zeroed, accepted h]
      · simp [QueueEntry.zeroed, Account.zeroed, rejected h]
      · simp [QueueEntry.zeroed, Account.zeroed, h]

end Sys2Proof.Machine
end

section
/-! SUPPORT. A station sample: what each of its users makes of it, when SQ follows within the step, and what the end of
the step keeps. -/

namespace Sys2Proof.Machine

/-! ### What the step of a sample is -/

/-- The state once every user has taken the sample, with the recoveries of a recovery time of 0 (R24, R150). -/
def State.sampleTaken (s : State) (x : Sample) : State := (s.takeSample x).recoverAtOnce

/-- The state at the end of the step of a sample other than the first after the configuration check. -/
def State.sampled (s : State) (x : Sample) : State :=
  if s.sampleTells (s.sampleTaken x) then (s.sampleTaken x).conclude s else s.sampleTaken x

/-- The first sample after the configuration check enters JOINING (R175, log 33). -/
theorem exec_stationSample_first {s : State} (x : Sample) (hp : s.phase = .starting) (hc : s.boot.checked = true) :
    exec (.stationSample x) s = .next (s.firstSample x) := by
  simp [exec, execStationSample, hp, hc]

/-- Every other sample is taken in its phase. -/
theorem exec_stationSample_later {s : State} (x : Sample) (hp : s.phase ≠ .hold)
    (hc : s.phase ≠ .starting ∨ s.boot.checked = false) :
    exec (.stationSample x) s = .next (s.sampled x) := by
  have hnot : ¬(s.phase = .starting ∧ s.boot.checked = true) := by
    rintro ⟨hs, hk⟩
    rcases hc with h | h
    · exact h hs
    · rw [h] at hk
      cases hk
  simp only [exec, execStationSample, if_neg hp, if_neg hnot]
  rfl

/-- In JOINING and RUN no sample is the first. -/
theorem exec_stationSample_working {s : State} (x : Sample) (hw : s.working = true) :
    exec (.stationSample x) s = .next (s.sampled x) := by
  have hphase : s.phase = .joining ∨ s.phase = .run := by simpa [State.working] using hw
  refine exec_stationSample_later x ?_ (Or.inl ?_) <;> rcases hphase with h | h <;> simp [h]

/-- The end of the step: the state the sample has left, or that with SQ's reaction. -/
theorem State.sampled_cases (s : State) (x : Sample) :
    s.sampled x = s.sampleTaken x ∨ s.sampled x = (s.sampleTaken x).conclude s := by
  unfold State.sampled
  split
  · exact Or.inr rfl
  · exact Or.inl rfl

/-- Where the sample tells SQ nothing, the step ends with the sample. -/
theorem State.sampled_quiet {s : State} {x : Sample} (h : s.sampleTells (s.sampleTaken x) = false) :
    s.sampled x = s.sampleTaken x := if_neg (by simp [h])

/-! ### Recoveries at the sample -/

/-- With a recovery time above 0 none ends at the sample. -/
theorem State.recoverAtOnce_timed {s : State} (h : s.cfg.recoveryTime ≠ 0) : s.recoverAtOnce = s := if_neg h

/-- Nor does one where no source is RECOVERING. -/
theorem recoverRun_none {l : List TripSource} {s : State} (h : ∀ u, (s.source u).st ≠ .recovering) :
    recoverRun l s = s := by
  induction l with
  | nil => rfl
  | cons t ts ih =>
    have hstep : recoverRun (t :: ts) s = recoverRun ts s := by simp [recoverRun, h t]
    rw [hstep, ih]

/-- Recoveries make the RECOVERING sources they reach NORMAL, and move no other source's state (R150). -/
theorem recoverRun_st (l : List TripSource) (s : State) (u : TripSource) :
    ((recoverRun l s).source u).st =
      if u ∈ l ∧ (s.source u).st = .recovering then .normal else (s.source u).st := by
  induction l generalizing s with
  | nil => simp [recoverRun]
  | cons t ts ih =>
    have hstep : recoverRun (t :: ts) s =
        recoverRun ts (if (s.source t).st = .recovering then s.recover t else s) := rfl
    rw [hstep, ih]
    by_cases hrec : (s.source t).st = .recovering
    · rw [if_pos hrec]
      by_cases hu : u = t
      · subst hu
        simp [hrec]
      · rw [State.recover_source_ne s hu]
        simp [hu]
    · rw [if_neg hrec]
      by_cases hu : u = t
      · subst hu
        simp [hrec]
      · simp [hu]

/-- Every trip source is in the list of all. -/
theorem mem_all_sources (u : TripSource) : u ∈ TripSource.all := by cases u <;> decide

/-- The sources after a sample, one by one. -/
theorem sampleSources_get (cfg : Settings) (cond : TripSource → Bool) (x : Sources) (u : TripSource) :
    (sampleSources cfg cond x).get u =
      (x.get u).sample (cfg.source u) (1000 * cfg.recoveryTime) (cond u) := by
  cases u <;> rfl

/-- A NORMAL source stays NORMAL at a sample (log 3). -/
theorem Source.sample_normal {x : Source} (h : x.st = .normal) (cfg : SourceSetting) (ms : Nat) (b : Bool) :
    (x.sample cfg ms b).st = .normal := by
  cases b <;> simp [Source.sample, h]

/-! ### Each user's part -/

section
variable {s : State} (x : Sample)

theorem takeSample_mu (s : State) : (s.takeSample x).mu = s.sampleMu x := by
  unfold State.takeSample
  dsimp only
  split <;> rfl

@[simp] theorem sampleTaken_mu (s : State) : (s.sampleTaken x).mu = s.sampleMu x := by
  simp [State.sampleTaken, takeSample_mu]

/-- The eight filters at a sample (R33, R34). -/
@[simp] theorem sampleMu_filters (s : State) :
    (s.sampleMu x).filters = sampleFilters (s.isFoam && s.working) x.levels s.mu.filters := by
  unfold State.sampleMu
  dsimp only
  split
  · rfl
  · split <;> rfl

/-- The channel values at a sample (R25): the delivered ones at work and in STARTING. -/
theorem sampleMu_ch (h : s.working = true ∨ s.phase = .starting) :
    (s.sampleMu x).ch = channelsOf s.boot.factoryOk s.isFoam x := by
  unfold State.sampleMu
  dsimp only
  split
  · rfl
  · rename_i hw
    rw [if_pos (h.resolve_left hw)]

/-- In every other phase they are discarded (R26). -/
theorem sampleMu_ch_discarded (hw : s.working = false) (hp : s.phase ≠ .starting) : (s.sampleMu x).ch = s.mu.ch := by
  simp [State.sampleMu, hw, hp]

/-- The comparators at a sample at work (R28, R30). -/
theorem sampleMu_cmp (hw : s.working = true) :
    (s.sampleMu x).cmp = sampleComparators s.cfg s.isFoam (s.sampleMu x).ch s.mu.cmp := by
  simp [State.sampleMu, hw]

/-- The zero window at a sample at work (R37, R38). -/
theorem sampleMu_window (hw : s.working = true) :
    (s.sampleMu x).window = s.mu.window.sample (s.valveA || s.valveB) (s.sampleMu x).ch := by
  simp [State.sampleMu, hw]

/-- The account store at a sample at work (R41, R42). -/
theorem sampleTaken_ac (hw : s.working = true) :
    (s.sampleTaken x).ac =
      creditAccounts s.isFoam s.valveA s.valveB (s.sampleMu x).ch.c1 s.mu.zero s.ac := by
  simp [State.sampleTaken, State.takeSample, hw]

/-- The trip sources at a sample at work (R31, R148). -/
theorem takeSample_source (hw : s.working = true) (u : TripSource) :
    (s.takeSample x).source u = (s.source u).sample (s.cfg.source u) (1000 * s.cfg.recoveryTime)
      (conditionAt s.cfg s.isFoam (s.sampleMu x).ch (s.sampleMu x).presentA (s.sampleMu x).presentB u) := by
  have htaken : (s.takeSample x).pu = s.samplePu (s.sampleMu x) := by simp [State.takeSample, hw]
  rw [State.source, htaken, State.samplePu, if_pos hw]
  exact sampleSources_get ..

/-- What a sample leaves unchanged. -/
@[simp] theorem sampleTaken_frame (s : State) :
    (s.sampleTaken x).boot = s.boot ∧ (s.sampleTaken x).cfg = s.cfg ∧ (s.sampleTaken x).pt = s.pt ∧
    (s.sampleTaken x).ms = s.ms := by
  simp [State.sampleTaken]

/-- What SQ's reaction at the end of the step keeps of it. -/
theorem sampled_frame (s : State) :
    (s.sampled x).boot = s.boot ∧ (s.sampled x).cfg = s.cfg ∧ (s.sampled x).pt.ownHazard = s.pt.ownHazard ∧
    (s.sampled x).ms.backoff = s.ms.backoff ∧ (s.sampled x).mu.ch = (s.sampleMu x).ch ∧
    (s.sampled x).mu.filters = (s.sampleMu x).filters := by
  rcases s.sampled_cases x with h | h <;> simp [h]

/-- The comparators that no reaction of SQ arms or disarms. -/
theorem sampled_comparators (s : State) :
    let a := (s.sampleMu x).cmp
    let b := (s.sampled x).mu.cmp
    b.headerHigh = a.headerHigh ∧ b.headerRecovered = a.headerRecovered ∧ b.oxygenHigh = a.oxygenHigh ∧
    b.oxygenUnder = a.oxygenUnder ∧ b.purgeNeeded = a.purgeNeeded ∧ b.purgeClear = a.purgeClear ∧
    b.ambientWatch = a.ambientWatch ∧ b.ambientStop = a.ambientStop ∧ b.chamberWatch = a.chamberWatch ∧
    b.chamberStop = a.chamberStop := by
  rcases s.sampled_cases x with h | h <;> simp [h]

/-! ### When the sample tells SQ nothing -/

/-- Where no recovery has ended at the sample and oxygen high has not ceased, SQ hears of no change (R80, R81). -/
theorem sampleTells_quiet (hrec : s.sampleTaken x = s.takeSample x)
    (hoxygen : s.mu.cmp.oxygenHigh.met = true → (s.sampleMu x).cmp.oxygenHigh.met = true) :
    s.sampleTells (s.sampleTaken x) = false := by
  have hmu : (s.takeSample x).mu = s.sampleMu x := takeSample_mu x s
  simpa [State.sampleTells, hrec, hmu] using hoxygen

/-- A sample after which every source stands as before has recovered none. -/
theorem sampleTaken_of_sources (hw : s.working = true)
    (h : ∀ u, ((s.sampleTaken x).source u).st = (s.source u).st) : s.sampleTaken x = s.takeSample x := by
  by_cases hr : s.cfg.recoveryTime = 0
  · have htaken : s.sampleTaken x = recoverRun TripSource.all (s.takeSample x) := if_pos (by simpa using hr)
    refine htaken.trans (recoverRun_none fun u hu => ?_)
    have hnormal : (s.source u).st = .normal := by
      rw [← h u, htaken, recoverRun_st, if_pos ⟨mem_all_sources u, hu⟩]
    rw [takeSample_source x hw, Source.sample_normal hnormal] at hu
    cases hu
  · exact State.recoverAtOnce_timed (by simpa using hr)

/-- With a recovery time above 0 the sample recovers none. -/
theorem sampleTaken_of_time (hr : s.cfg.recoveryTime ≠ 0) : s.sampleTaken x = s.takeSample x :=
  State.recoverAtOnce_timed (by simpa using hr)

end

/-! ### SQ's reaction and what it leaves of the queue's accounts -/

/-- A reading of a queue entry that neither the routing decision nor the route change touches (R57, R62). -/
structure RouteBlind {α : Type} (g : QueueEntry → α) : Prop where
  rerouted : ∀ e, g e.rerouted = g e
  routed : ∀ declared detected e, g (e.routed declared detected) = g e

/-- A change of the ACTIVE account that a reading does not see. -/
theorem onActive_map {α : Type} {g : QueueEntry → α} (s : State) {f : QueueEntry → QueueEntry}
    (hf : ∀ e, g (f e) = g e) : (s.onActive f).ac.queue.map g = s.ac.queue.map g := by
  simp only [State.onActive, State.setQueue_queue, List.map_map]
  refine List.map_congr_left fun e _ => ?_
  simp only [Function.comp]
  split
  · exact hf e
  · rfl

section
variable {α : Type} {g : QueueEntry → α} (hg : RouteBlind g)
include hg

theorem enterE5_map (s : State) : s.enterE5.ac.queue.map g = s.ac.queue.map g := by
  have hchange (t : State) : t.routeChange.ac.queue.map g = t.ac.queue.map g := by
    have h := onActive_map (t.setSq { t.sq with routeB := true }) hg.rerouted
    simpa [State.routeChange] using h
  simp only [State.enterE5]
  split
  · simpa using hchange ((s.enterTimed .e5).setPulldown Comparator.disarm)
  · simp

theorem endClassify_map (s : State) : s.endClassify.ac.queue.map g = s.ac.queue.map g := by
  have h := onActive_map s (hg.routed s.declaredClass s.sq.detected)
  simp only [State.endClassify]
  split <;> simpa using h

/-- Over SQ's reaction at an EXTRACTION station. -/
theorem settleExtraction_map (s : State) : s.settleExtraction.ac.queue.map g = s.ac.queue.map g := by
  unfold State.settleExtraction
  rw [State.settleStarve_queue]
  split
  · simp
  · simp
  · simp only [State.settleE3]
    split
    · simpa using endClassify_map hg (s.setSq { s.sq with
        timer := s.stepTimer, detected := s.sq.detected || s.level .in3 })
    · simp
  · unfold State.settleE4
    split
    · simpa using enterE5_map hg (s.setSq { s.sq with starve := Timer.stopped })
    · rfl
  · simp
  · simp
  · rfl
  · rfl

/-- Over the end of a step in either role. -/
theorem conclude_map (s old : State) : (s.conclude old).ac.queue.map g = s.ac.queue.map g := by
  have hend : (s.conclude old).ac.queue = s.settle.ac.queue := by simp [State.conclude, State.concludeIf]
  rw [hend, State.settle]
  split
  · simp
  · exact settleExtraction_map hg s

end

end Sys2Proof.Machine
end

section
/-! PROOF. What a station sample delivers and counts (O21): one relation for an input filter, one for a comparator with
a command of its own and one for a level, each met by the sample's function. -/

namespace Sys2Proof.Machine

/-! ### The input filters -/

/-- The count of a filter after a raw level (R33, R34): equal levels while it fills, disagreeing ones once filled. -/
def Filter.counted (f : Filter) (raw : Bool) : Nat :=
  if f.filled then if raw = f.level then 0 else min 5 (f.count + 1)
  else if raw = f.raw ∨ f.count = 0 then min 5 (f.count + 1) else 1

/-- A filter after a raw level, where `taken` says whether a command takes the edge it makes (R35): such an edge is
due, any other has changed the level (log 3). -/
def Filter.sampledAs (f b : Filter) (raw taken : Bool) : Prop :=
  b.filled = f.filled ∧ b.raw = raw
  ∧ (b.edgeDue raw = true ↔ (f.filled = true ∧ 5 ≤ f.counted raw) ∧ taken = true)
  ∧ (f.filled = true ∧ 5 ≤ f.counted raw → taken = false → b.level = raw ∧ b.count = 0)
  ∧ (¬((f.filled = true ∧ 5 ≤ f.counted raw) ∧ taken = false) → b.level = f.level ∧ b.count = f.counted raw)

/-- A raw level counts. -/
theorem Filter.sample_eq (f : Filter) (raw : Bool) : f.sample raw = { f with raw := raw, count := f.counted raw } := by
  unfold Filter.sample Filter.counted
  (repeat' split) <;> rfl

/-- The counted level makes an edge due at the fifth level that disagrees (R33). -/
theorem Filter.sample_edgeDue (f : Filter) (raw : Bool) :
    (f.sample raw).edgeDue raw = true ↔ f.filled = true ∧ 5 ≤ f.counted raw := by
  have hdisagrees (hf : f.filled = true) (hc : 5 ≤ f.counted raw) : f.level = !raw := by
    by_cases h : raw = f.level
    · simp [Filter.counted, hf, h] at hc
    · revert h
      cases raw <;> cases f.level <;> simp
  simp only [Filter.sample_eq, Filter.edgeDue, Bool.and_eq_true, decide_eq_true_eq, beq_iff_eq]
  constructor
  · rintro ⟨⟨hf, hc⟩, -⟩
    exact ⟨hf, hc⟩
  · rintro ⟨hf, hc⟩
    exact ⟨⟨hf, hc⟩, hdisagrees hf hc⟩

/-- A filter whose edges commands take in both directions. -/
theorem Filter.sample_sampledAs (f : Filter) (raw : Bool) : f.sampledAs (f.sample raw) raw true := by
  refine ⟨by rw [Filter.sample_eq], by rw [Filter.sample_eq], ?_, by simp, fun _ => by simp [Filter.sample_eq]⟩
  simpa using f.sample_edgeDue raw

/-- A filter whose due edge has changed its level at the sample. -/
theorem Filter.toggle_sampledAs {f : Filter} {raw : Bool} (h : (f.sample raw).edgeDue raw = true) :
    f.sampledAs (f.sample raw).toggle raw false := by
  have hfive := (f.sample_edgeDue raw).mp h
  have hlevel : (f.sample raw).level = !raw := by
    simp only [Filter.edgeDue, Bool.and_eq_true, beq_iff_eq] at h
    exact h.2
  refine ⟨by simp [Filter.toggle, Filter.sample_eq], by simp [Filter.toggle, Filter.sample_eq], ?_, fun _ _ => ?_,
    fun hno => absurd ⟨hfive, rfl⟩ hno⟩
  · simp [Filter.toggle, Filter.edgeDue]
  · simp [Filter.toggle, hlevel]

/-- A filter without a due edge stands as it has counted, whatever takes its edges. -/
theorem Filter.still_sampledAs {f : Filter} {raw : Bool} (h : ¬(f.sample raw).edgeDue raw = true) (taken : Bool) :
    f.sampledAs (f.sample raw) raw taken := by
  have hfive : ¬(f.filled = true ∧ 5 ≤ f.counted raw) := fun hf => h ((f.sample_edgeDue raw).mpr hf)
  exact ⟨by rw [Filter.sample_eq], by rw [Filter.sample_eq], iff_of_false h fun hf => hfive hf.1,
    fun hf => absurd hf hfive, fun _ => by simp [Filter.sample_eq]⟩

/-- An edge of a filter that has just counted `raw` leads to `raw`. -/
theorem Filter.edgeDue_of_sample {f : Filter} {raw up : Bool} (h : (f.sample raw).edgeDue up = true) : up = raw := by
  simp only [Filter.sample_eq, Filter.edgeDue, Bool.and_eq_true, decide_eq_true_eq, beq_iff_eq] at h
  obtain ⟨⟨hfilled, hfive⟩, hlevel⟩ := h
  by_contra hne
  have hagrees : raw = f.level := by
    revert hne
    rw [hlevel]
    cases up <;> cases raw <;> simp
  simp [Filter.counted, hfilled, hagrees] at hfive

/-- A filter whose rising edges alone a command takes. -/
theorem Filter.dropEdge_sampledAs (f : Filter) (raw : Bool) : f.sampledAs (f.sample raw).dropEdge raw raw := by
  unfold Filter.dropEdge
  split
  · rename_i h
    obtain rfl := Filter.edgeDue_of_sample h
    exact Filter.toggle_sampledAs h
  · rename_i h
    cases raw with
    | true => exact f.sample_sampledAs true
    | false => exact Filter.still_sampledAs h false

/-- A filter whose edges no command takes. -/
theorem Filter.anyEdge_sampledAs (f : Filter) (raw : Bool) : f.sampledAs (f.sample raw).anyEdge raw false := by
  unfold Filter.anyEdge
  split
  · rename_i h
    rw [Filter.edgeDue_of_sample h] at h
    exact Filter.toggle_sampledAs h
  · rename_i h
    refine Filter.still_sampledAs (fun hdue => h ?_) false
    have hlevel : raw = !(f.sample raw).level := by
      simp only [Filter.edgeDue, Bool.and_eq_true, beq_iff_eq] at hdue
      simp [hdue.2]
    rwa [← hlevel]

/-! ### The comparators -/

/-- A comparator with a command of its own after a sample (R28): a failing relation ends its run and its met state, a
holding one counts up to the hold count, at which the command is due. -/
def Comparator.movedTo (a b : Comparator) (hold : Nat) (rel : Bool) : Prop :=
  (a.armed = false → b = a)
  ∧ (a.armed = true → rel = false → b = ⟨true, 0, false⟩)
  ∧ (a.armed = true → rel = true →
      b.armed = true ∧ b.met = a.met ∧ b.run = if a.run < max 1 hold then a.run + 1 else a.run)
  ∧ (b.due hold = true ↔ a.armed = true ∧ rel = true ∧ a.met = false ∧ max 1 hold ≤ b.run)

theorem Comparator.sample_movedTo (a : Comparator) (hold : Nat) (rel : Bool) :
    a.movedTo (a.sample hold rel) hold rel := by
  unfold Comparator.movedTo Comparator.sample
  cases harmed : a.armed with
  | false => simp [Comparator.due, harmed]
  | true =>
    cases rel with
    | false => simp [Comparator.due, holdRun]
    | true =>
      refine ⟨nofun, nofun, fun _ _ => ⟨rfl, rfl, rfl⟩, ?_⟩
      simp [Comparator.due, show max 1 hold = holdRun hold from rfl]

/-- A level of hold 0, which is met at the sample (R129, log 3). -/
theorem Comparator.sampleLevel_level (a : Comparator) (rel : Bool) :
    (a.armed = true → (a.sampleLevel rel).met = rel) ∧ (a.armed = false → a.sampleLevel rel = a) := by
  constructor
  · intro harmed
    cases rel with
    | false => simp [Comparator.sampleLevel, Comparator.sample, Comparator.due, harmed, holdRun]
    | true =>
      have hrun : 1 ≤ (a.sample 0 true).run := by
        have hhold : holdRun 0 = 1 := rfl
        simp only [Comparator.sample, harmed, if_true]
        split <;> omega
      cases hmet : a.met <;>
        simp_all [Comparator.sampleLevel, Comparator.sample, Comparator.due, Comparator.fire, holdRun]
  · intro harmed
    simp [Comparator.sampleLevel, Comparator.sample, Comparator.due, harmed]

/-! ### The sample at MU, filter by filter and channel by channel -/

/-- The number of an input (R35). -/
def inputBit : Pin → Nat
  | .ilk => 0 | .str => 1 | .in2 => 2 | .in3 => 3 | .vaf => 4 | .vbf => 5 | .fcl => 6 | .svc => 7

/-- What holds of every input, with its number. -/
theorem forall_inputs {P : Pin × Nat → Prop} (h : ∀ p, P (p, inputBit p)) :
    ∀ q ∈ [(Pin.ilk, 0), (.str, 1), (.in2, 2), (.in3, 3), (.vaf, 4), (.vbf, 5), (.fcl, 6), (.svc, 7)], P q := by
  intro q hq
  simp only [List.mem_cons, List.not_mem_nil, or_false] at hq
  rcases hq with rfl | rfl | rfl | rfl | rfl | rfl | rfl | rfl
  exacts [h .ilk, h .str, h .in2, h .in3, h .vaf, h .vbf, h .fcl, h .svc]

/-- Whether a command takes the edge of an input to `raw` (R35); `shredder` says so of the falls of IN3. -/
def edgeTaken (shredder raw : Bool) : Pin → Bool
  | .ilk | .in2 => true
  | .str | .fcl => raw
  | .in3 => raw || shredder
  | .vaf | .vbf | .svc => false

/-- Every filter takes its own raw level. -/
theorem sampleFilters_sampledAs (shredder : Bool) (levels : Byte) (f : Filters) (p : Pin) :
    (f.get p).sampledAs ((sampleFilters shredder levels f).get p) (levels.getLsbD (inputBit p))
      (edgeTaken shredder (levels.getLsbD (inputBit p)) p) := by
  cases p with
  | ilk | in2 => exact Filter.sample_sampledAs _ _
  | str | fcl => exact Filter.dropEdge_sampledAs _ _
  | vaf | vbf | svc => exact Filter.anyEdge_sampledAs _ _
  | in3 =>
    cases shredder with
    | true =>
      rw [edgeTaken, Bool.or_true]
      exact Filter.sample_sampledAs _ _
    | false =>
      rw [edgeTaken, Bool.or_false]
      exact Filter.dropEdge_sampledAs _ _

/-- A value as R25 delivers it: itself inside its range with a valid factory block, else the over-range code. -/
def delivered (ok : Bool) (top : Nat) (v : Half) : Nat := if ok = true ∧ v.toNat ≤ top then v.toNat else 65535

/-- The ranges of the channels by role (R25). -/
theorem channelsOf_eq (ok foam : Bool) (x : Sample) :
    channelsOf ok foam x =
      { c0 := delivered ok 20000 x.ch0, c1 := delivered ok 65534 x.ch1, c2 := delivered ok 20000 x.ch2
        c3 := delivered ok (if foam then 250 else 1000) x.ch3
        c4 := delivered ok (if foam then 1000 else 65535) x.ch4
        c5 := delivered ok (if foam then 1000 else 65535) x.ch5
        c6 := delivered ok 65535 x.ch6, c7 := delivered ok 65535 x.ch7 } := by
  simp [channelsOf, deliver, delivered, channelMax, overCode]

/-! ### The first sample after the configuration check -/

/-- The first sample delivers its values, and moves the filters as a station at work does (R175, log 33). -/
theorem firstSample_spec (s : State) (x : Sample) :
    (s.firstSample x).mu.ch = channelsOf s.boot.factoryOk s.isFoam x ∧
    (s.firstSample x).mu.filters = sampleFilters (s.isFoam && (s.firstSample x).working) x.levels s.mu.filters ∧
    (s.firstSample x).cfg = s.cfg := by
  have hu : (s.setBoot { s.boot with phase := .joining }).working = true := rfl
  have hfoam : (s.setBoot { s.boot with phase := .joining }).isFoam = s.isFoam := rfl
  have ht : (s.firstSample x).working = true := by
    simp [State.firstSample, State.enterJoining, State.working, State.phase]
  refine ⟨?_, ?_, by simp [State.firstSample]⟩
  · simpa [State.firstSample, takeSample_mu, hfoam] using sampleMu_ch x (Or.inl hu)
  · rw [ht]
    simp [State.firstSample, takeSample_mu, hu, hfoam]

/-! ### The obligation -/

/-- The comparators of a station at work after a sample that SQ hears nothing of (R28). -/
theorem sampled_cmp_quiet {s : State} {x : Sample} (hw : s.working = true)
    (hoxygen : s.mu.cmp.oxygenHigh.met = true → (s.sampled x).mu.cmp.oxygenHigh.met = true)
    (hsources : s.cfg.recoveryTime ≠ 0 ∨ ∀ u, ((s.sampled x).source u).st = (s.source u).st) :
    (s.sampled x).mu.cmp = sampleComparators s.cfg s.isFoam (s.sampled x).mu.ch s.mu.cmp := by
  have hsource (u : TripSource) : (s.sampled x).source u = (s.sampleTaken x).source u := by
    rcases s.sampled_cases x with h | h <;> simp [h]
  obtain ⟨-, -, oxygen, -⟩ := sampled_comparators x s
  have htaken : s.sampleTaken x = s.takeSample x := by
    rcases hsources with hr | hst
    · exact sampleTaken_of_time x hr
    · exact sampleTaken_of_sources x hw fun u => by rw [← hsource, hst]
  have hquiet := sampleTells_quiet x htaken (by rwa [oxygen] at hoxygen)
  rw [State.sampled_quiet hquiet, sampleTaken_mu, sampleMu_cmp x hw]

/-- Settles O21: the first sample after the configuration check apart, the state is that of the sample, or of SQ's
reaction to it. -/
theorem sampleDeliversAndCounts : Obligations.SampleDeliversAndCounts := by
  have filters {s t : State} {x : Sample}
      (h : t.mu.filters = sampleFilters (s.isFoam && t.working) x.levels s.mu.filters) (p : Pin) :
      (s.filter p).sampledAs (t.filter p) (x.levels.getLsbD (inputBit p))
        (edgeTaken (s.isFoam && t.working) (x.levels.getLsbD (inputBit p)) p) := by
    rw [State.filter, State.filter, h]
    exact sampleFilters_sampledAs ..
  intro s x hp
  by_cases hfirst : s.phase = .starting ∧ s.boot.checked = true
  · obtain ⟨hstart, hchecked⟩ := hfirst
    have hidle : s.working = false := by simp [State.working, hstart]
    obtain ⟨hch, hfil, hcfg⟩ := firstSample_spec s x
    refine ⟨_, exec_stationSample_first x hstart hchecked, fun _ => ?_, ?_, ?_, ?_, hcfg, ?_⟩
    · rw [hch, channelsOf_eq]
      exact ⟨rfl, rfl, rfl, rfl, rfl, rfl, rfl, rfl⟩
    · simp [hstart]
    · have key := filters hfil
      refine forall_inputs fun p => ?_
      cases p <;> exact key _
    · simp [hidle]
    · simp [hstart, hchecked]
  · have hlater : s.phase ≠ .starting ∨ s.boot.checked = false := by
      rw [← Bool.not_eq_true]
      exact not_and_or.mp hfirst
    obtain ⟨boot, cfg, hazard, backoff, ch, hfil⟩ := sampled_frame x s
    have hworking : (s.sampled x).working = s.working := by simp only [State.working, State.phase, boot]
    rw [sampleMu_filters, ← hworking] at hfil
    refine ⟨_, exec_stationSample_later x hp hlater, fun h => ?_, fun h => ?_, ?_, fun hw => ?_, cfg,
      fun _ => ⟨boot, hazard, backoff⟩⟩
    · rw [ch, sampleMu_ch x h, channelsOf_eq]
      exact ⟨rfl, rfl, rfl, rfl, rfl, rfl, rfl, rfl⟩
    · rw [ch]
      refine sampleMu_ch_discarded x ?_ ?_ <;> rcases h with h | h <;> simp [State.working, h]
    · have key := filters hfil
      refine forall_inputs fun p => ?_
      cases p <;> exact key _
    · obtain ⟨high, recovered, oxygen, under, needed, clear, watch, stop, chWatch, chStop⟩ := sampled_comparators x s
      intro moved level c a b ha
      have hcmp : (s.sampleMu x).cmp = sampleComparators s.cfg s.isFoam c a := by
        rw [sampleMu_cmp x hw, ← ch]
      rw [hcmp] at high recovered oxygen under needed clear watch stop chWatch chStop
      have counts {p q : Comparator} {hold : Nat} {rel : Bool} (h : q = p.sample hold rel) :
          moved p q hold rel := h ▸ p.sample_movedTo hold rel
      have meets {p q : Comparator} {rel : Bool} (h : q = p.sampleLevel rel) : level p q rel :=
        h ▸ p.sampleLevel_level rel
      refine ⟨counts high, counts recovered, counts oxygen, counts under, counts needed, counts clear, meets watch,
        meets stop, meets chWatch, meets chStop, fun hoxygen hsources => ?_⟩
      have hall : b = sampleComparators s.cfg s.isFoam c a := sampled_cmp_quiet hw hoxygen hsources
      exact ⟨counts (congrArg (·.pulldown) hall), counts (congrArg (·.inert) hall), counts (congrArg (·.quiet) hall)⟩

end Sys2Proof.Machine
end

section
/-! PROOF. What a station sample credits (O22, O23): the increment to the ACTIVE or the RECEIVING account, and the zero
window. -/

namespace Sys2Proof.Machine

/-! ### The increment -/

/-- The amount by which the flow exceeds the zero in use; the over-range code counts as the flow it is (R41). -/
theorem increment_eq (q z : Nat) : increment q z = q - z := by
  unfold increment
  split
  · rename_i h
    rw [h]
  · rfl

/-- Crediting at an EXTRACTION station reaches the ACTIVE accounts, while a route valve is on (R42). -/
theorem creditAccounts_queue (onA onB : Bool) (q z : Nat) (a : Accounts) :
    (creditAccounts false onA onB q z a).queue = a.queue.map fun e =>
      if e.st = .active ∧ (onA || onB) = true then creditQueue (!onA) q z e else e := by
  unfold creditAccounts
  split
  · rename_i hon
    simp [hon]
  · rename_i hoff
    simp [hoff]

/-- Crediting at a FOAM station reaches the RECEIVING accounts, while a route valve is on (R42). -/
theorem creditAccounts_chamber (onA onB : Bool) (q z : Nat) (a : Accounts) :
    (creditAccounts true onA onB q z a).chamber = a.chamber.map fun e =>
      if e.st = .receiving ∧ (onA || onB) = true then creditChamber q z e else e := by
  unfold creditAccounts
  split
  · rename_i hon
    simp [hon]
  · rename_i hoff
    simp [hoff]

/-! ### The extraction queue -/

/-- The working state is none of the route's business. -/
theorem work_routeBlind : RouteBlind QueueEntry.work := ⟨fun _ => rfl, fun _ _ _ => rfl⟩

/-- Nor is FLOW OVERRANGE. -/
theorem flowOverrange_routeBlind : RouteBlind fun e => e.account.flags.flowOverrange :=
  ⟨fun _ => rfl, fun _ _ _ => rfl⟩

/-- The readings of the queue that the end of the step leaves as the sample has made them. -/
theorem sampled_map {α : Type} {g : QueueEntry → α} (hg : RouteBlind g) {s : State} (hw : s.working = true)
    (hf : s.isFoam = false) (x : Sample) :
    (s.sampled x).ac.queue.map g = s.ac.queue.map fun e => g
      (if e.st = .active ∧ (s.valveA || s.valveB) = true then
        creditQueue (!s.valveA) (s.sampled x).mu.ch.c1 s.mu.zero e else e) := by
  obtain ⟨-, -, -, -, ch, -⟩ := sampled_frame x s
  have hend : (s.sampled x).ac.queue.map g = (s.sampleTaken x).ac.queue.map g := by
    rcases s.sampled_cases x with h | h
    · rw [h]
    · rw [h, conclude_map hg]
  rw [hend, sampleTaken_ac x hw, hf, creditAccounts_queue, List.map_map, ch]
  rfl

/-- Settles O22: two readings of the queue that SQ's reaction cannot touch, entry by entry. -/
theorem sampleCreditsTheActiveAccount : Obligations.SampleCreditsTheActiveAccount := by
  intro s x hw hf
  refine ⟨_, exec_stationSample_working x hw, ?_⟩
  intro q d
  refine ⟨(sampled_map work_routeBlind hw hf x).trans (List.map_congr_left fun e _ => ?_),
    (sampled_map flowOverrange_routeBlind hw hf x).trans (List.map_congr_left fun e _ => ?_)⟩
  · by_cases hact : e.st = .active
    · cases s.valveA <;> cases s.valveB <;>
        simp [hact, QueueEntry.work, creditQueue, satAdd, accLimit, increment_eq, d, q]
    · simp [hact]
  · by_cases hact : e.st = .active
    · cases s.valveA || s.valveB <;> simp [hact, creditQueue, overCode, q, beq_eq_decide]
    · simp [hact]

/-! ### The zero window -/

section
variable {w : Window} (ho : w.isOpen = true) (hn : w.count < 32) (c : Channels)
include ho hn

/-- With both valves off the window counts the sample (R37). -/
theorem Window.sample_counts :
    w.sample false c = ⟨true, w.count + 1, w.sum + c.c1, w.overRange || c.c1 == 65535,
      if w.count = 0 then c.c0 else w.first⟩ := by
  simp [Window.sample, ho, hn, overCode]

/-- A valve that is on begins it anew (R38). -/
theorem Window.sample_restarts : w.sample true c = ⟨true, 0, 0, false, 0⟩ := by
  simp [Window.sample, ho, hn, Window.opened]

end

/-- A closed window stands, and a full one until its own command (log 3). -/
theorem Window.sample_stands {w : Window} (h : w.isOpen = false ∨ 32 ≤ w.count) (on : Bool) (c : Channels) :
    w.sample on c = w := by
  refine if_neg fun hcounts => ?_
  simp only [Bool.and_eq_true, decide_eq_true_eq] at hcounts
  obtain ⟨hopen, hroom⟩ := hcounts
  rcases h with h | h
  · simp [h] at hopen
  · omega

/-! ### The chamber list and the obligation -/

/-- FLOW OVERRANGE in the foam flags of an entry that is credited (R95). -/
theorem creditChamber_flowOverrange (q z : Nat) (e : ChamberEntry) :
    (creditChamber q z e).account.foam.map (·.flags.flowOverrange) =
      e.account.foam.map fun p => p.flags.flowOverrange || decide (q = 65535) := by
  unfold creditChamber
  cases e.account.foam <;> simp [overCode, beq_eq_decide]

/-- A sample without oxygen high and with a recovery time is a step of its own: SQ hears nothing of it. -/
theorem sampled_of_quiet {s : State} (x : Sample) (ho : s.mu.cmp.oxygenHigh.met = false)
    (hr : s.cfg.recoveryTime ≠ 0) : s.sampled x = s.sampleTaken x :=
  State.sampled_quiet (sampleTells_quiet x (sampleTaken_of_time x hr) (by simp [ho]))

/-- Settles O23: the step ends with the sample, so the window and the chamber list are the sample's own. -/
theorem sampleMovesWindowAndFoamAccount : Obligations.SampleMovesWindowAndFoamAccount := by
  intro s x hw ho hr
  refine ⟨_, exec_stationSample_working x hw, ?_⟩
  rw [sampled_of_quiet x ho hr, sampleTaken_mu, sampleMu_window x hw]
  refine ⟨fun hopen hroom hA hB => ?_, fun hopen hroom hon => ?_, fun h => Window.sample_stands h _ _, fun hf => ?_⟩
  · rw [hA, hB]
    exact Window.sample_counts hopen hroom _
  · have hvalve : (s.valveA || s.valveB) = true := by simpa using hon
    rw [hvalve]
    exact Window.sample_restarts hopen hroom _
  · intro credited
    have hchamber : (s.sampleTaken x).ac.chamber = s.ac.chamber.map fun e =>
        if credited e then creditChamber (s.sampleMu x).ch.c1 s.mu.zero e else e := by
      rw [sampleTaken_ac x hw, hf, creditAccounts_chamber]
      simp [credited]
    rw [hchamber]
    simp only [List.map_map]
    refine ⟨List.map_congr_left fun e _ => ?_, List.map_congr_left fun e _ => ?_, List.map_congr_left fun e _ => ?_⟩
    · by_cases h : credited e <;> simp [h, creditChamber]
    · by_cases h : credited e <;> simp [h, creditChamber, satAdd, accLimit, increment_eq]
    · by_cases h : credited e <;> simp [h, creditChamber_flowOverrange]

end Sys2Proof.Machine
end

section
/-! PROOF. The state after reset meets the invariants (O9), and one of them is not kept by every step (O17): a zero
window that completes at a station of no working role enters E3, where the sequence is to stand at its start values.
No configuration block gives such a role (`settingsOf_role`), so the counterexample is a state that no run reaches. -/

namespace Sys2Proof.Machine

/-! ### After reset -/

/-- Settles O9: every list is empty, every source NORMAL and the sequence in E0. -/
theorem resetMeetsTheInvariants : Obligations.ResetMeetsTheInvariants := by
  have hlist (r : Route) : State.reset.ms.list r = [] := by cases r <;> rfl
  refine ⟨rfl, ⟨rfl, by simp [State.reset], rfl⟩, fun x => ?_, ⟨fun r => ?_, fun _ => ⟨rfl, rfl⟩⟩,
    ⟨List.nodup_nil, fun r => ?_⟩, ?_, ⟨rfl, Nat.zero_le 1⟩, ?_, ?_⟩
  · have hst : (State.reset.source x).st = .normal := by cases x <;> rfl
    have hcodes : State.reset.pu.codes = [] := rfl
    simp [hst, hcodes]
  · simp [hlist, seatedSum]
  · simp [hlist, rankOrdered, exclusiveAlone]
  · exact accountsOk_of_empty rfl rfl
  · simp [State.reset, State.sequenceOk, State.working, State.phase, State.isExtraction, Timer.stopped]
  · simp [State.reset, State.stepTimerOk]

/-! ### A station of neither role -/

/-- A configuration block gives the role EXTRACTION or FOAM (R181). -/
theorem settingsOf_role (ws : List Half) : (settingsOf ws).role = .extraction ∨ (settingsOf ws).role = .foam := by
  simp only [settingsOf]
  split <;> simp

/-- A station in RUN whose role is UNCONFIGURED, with a zero window of 32 samples that waits for its completion. -/
def unconfiguredStation : State :=
  { boot := { phase := .run }, cfg := { role := .unconfigured }, mu := { window := ⟨true, 32, 0, false, 0⟩ }
    pending := [.zeroWindowComplete] }

theorem unconfiguredStation_sequenceOk : unconfiguredStation.sequenceOk := by
  simp [unconfiguredStation, State.sequenceOk, State.working, State.phase, State.isExtraction, State.isFoam]

/-- Its step ends the zero window as one of E2 and enters E3. -/
theorem unconfiguredStation_step :
    ∃ t, step unconfiguredStation = .next t ∧ t.cfg.role = .unconfigured ∧ t.sq.step = .e3 := by
  let s : State := unconfiguredStation.setPending []
  have hend : s.zeroEnded = s.endZero := rfl
  have hstep : step unconfiguredStation = .next (s.endZero.conclude s) := by
    rw [← hend]
    exact exec_zeroWindowComplete (s := s) rfl rfl le_rfl
  obtain ⟨hsq, -⟩ := conclude_endZero (s := s) rfl (by decide) s
  exact ⟨_, hstep, by simp [s, unconfiguredStation], hsq⟩

/-- Refutes O17: in `unconfiguredStation` the sequence stands at its start values, and its step enters E3. -/
theorem not_stepKeepsOwnClaimWithStep : ¬ Obligations.StepKeepsOwnClaimWithStep := by
  rintro ⟨keeps, -⟩
  obtain ⟨t, hstep, hrole, hsq⟩ := unconfiguredStation_step
  obtain ⟨outside, -⟩ := keeps _ t unconfiguredStation_sequenceOk hstep
  have hstart : t.sq = {} := outside (Or.inl (by simp [State.isExtraction, hrole]))
  rw [hstart] at hsq
  cases hsq

end Sys2Proof.Machine
end

section
/-! SUPPORT. What SQ does at the end of a step at an EXTRACTION station that stays in its step of the sequence: one
equation (`State.settleExtraction_stays`), and the timers by the gate, SUSPEND and the seat (R52, R66 to R69). -/

namespace Sys2Proof.Machine

/-! ### The step timer -/

section
variable {s : State}

/-- A closed gate resets a step timer that is not STOPPED (R52, R67). -/
theorem State.stepTimer_closed (hg : s.gate = false) (ht : s.sq.timer.st ≠ .stopped) :
    s.stepTimer = Timer.reset (s.cfg.stepTime s.sq.step) := by
  simp [State.stepTimer, Timer.isStopped, ht, hg]

/-- No step timer runs while the gate is closed. -/
theorem State.stepTimer_closed_st (hg : s.gate = false) : s.stepTimer.st ≠ .running := by
  by_cases ht : s.sq.timer.st = .stopped
  · simp [State.stepTimer, Timer.isStopped, ht]
  · simp [State.stepTimer_closed hg ht, Timer.reset]

/-- With the gate open and no SUSPEND the step timer goes on (R52). -/
theorem State.stepTimer_resumed (hg : s.gate = true) (hs : s.suspended = false) : s.stepTimer = s.sq.timer.resume := by
  by_cases ht : s.sq.timer.st = .stopped <;> simp [State.stepTimer, Timer.isStopped, ht, hg, hs, Timer.resume]

/-- Under SUSPEND the step timer is held while the gate is open (R66). -/
theorem State.stepTimer_held (hg : s.gate = true) (hs : s.suspended = true) : s.stepTimer = s.sq.timer.hold := by
  by_cases ht : s.sq.timer.st = .stopped <;> simp [State.stepTimer, Timer.isStopped, ht, hg, hs, Timer.hold]

theorem Timer.resume_held {t : Timer} (h : t.st = .held) : t.resume = Timer.start t.left := by
  simp [Timer.resume, h, Timer.start]

theorem Timer.hold_held {t : Timer} (h : t.st = .held) : t.hold = t := by
  simp [Timer.hold, h]

@[simp] theorem Timer.resume_reset (ms : Nat) : (Timer.reset ms).resume = Timer.start ms := rfl

@[simp] theorem Timer.hold_reset (ms : Nat) : (Timer.reset ms).hold = Timer.reset ms := rfl

/-- SUSPEND applies in E4 to E6 alone (R65). -/
theorem State.suspended_eq (h : s.sq.step = .e4 ∨ s.sq.step = .e5 ∨ s.sq.step = .e6) :
    s.suspended = s.suspendCause := by
  rcases h with h | h | h <;> simp [State.suspended, h]

theorem State.suspended_outside (h4 : s.sq.step ≠ .e4) (h5 : s.sq.step ≠ .e5) (h6 : s.sq.step ≠ .e6) :
    s.suspended = false := by
  simp [State.suspended, h4, h5, h6]

end

/-! ### The starvation timer -/

/-- The starvation timer as the seat, the account and the gate give it in E4 to E6 (R69). -/
def State.starveTimer (s : State) : Timer :=
  if s.ownSeated || s.promoted then Timer.stopped
  else if !s.gate then if s.sq.starve.isStopped then s.sq.starve else Timer.reset (1000 * s.cfg.starvationLimit)
  else if s.sq.starve.st = .running then s.sq.starve
  else Timer.start (1000 * s.cfg.starvationLimit)

theorem State.settleStarve_eq (s : State) : s.settleStarve = s.setSq { s.sq with
    starve := if s.sq.step = .e4 ∨ s.sq.step = .e5 ∨ s.sq.step = .e6 then s.starveTimer else s.sq.starve } := by
  unfold State.settleStarve
  split <;> rfl

section
variable {s : State}

/-- A seat or a promotion stops the starvation timer. -/
theorem State.starveTimer_stopped (h : s.ownSeated = true ∨ s.promoted = true) : s.starveTimer = Timer.stopped := by
  simp [State.starveTimer, h]

/-- A closed gate resets a started starvation timer of an unseated claim. -/
theorem State.starveTimer_closed (hs : s.ownSeated = false) (hp : s.promoted = false) (hg : s.gate = false) :
    s.starveTimer = if s.sq.starve.st = .stopped then s.sq.starve
      else Timer.reset (1000 * s.cfg.starvationLimit) := by
  simp [State.starveTimer, hs, hp, hg, Timer.isStopped]

/-- With the gate open the starvation timer of an unseated claim starts from full unless it runs. -/
theorem State.starveTimer_start (hs : s.ownSeated = false) (hp : s.promoted = false) (hg : s.gate = true)
    (ht : s.sq.starve.st ≠ .running) : s.starveTimer = Timer.start (1000 * s.cfg.starvationLimit) := by
  simp [State.starveTimer, hs, hp, hg, ht]

end

/-! ### The reaction that stays in its step -/

/-- Neither the seat in E4 nor a classify time of 0 leads SQ on to the next step (R56, R59, log 15). -/
def State.staysInStep (s : State) : Prop :=
  ¬(s.sq.step = .e4 ∧ s.ownSeated = true) ∧ ¬(s.sq.step = .e3 ∧ s.cfg.classifyTime = 0 ∧ s.gate = true)

/-- The steps with a timer that follows the gate (R52). -/
def Step.followsGate : Step → Bool
  | .e1 | .e3 | .e5 | .e6 => true
  | .e0 | .e2 | .e4 | .e7 => false

/-- The steps with an own claim (R58). -/
def Step.claims : Step → Bool
  | .e4 | .e5 | .e6 => true
  | .e0 | .e1 | .e2 | .e3 | .e7 => false

theorem Step.followsGate_iff {x : Step} : x.followsGate = true ↔ x = .e1 ∨ x = .e3 ∨ x = .e5 ∨ x = .e6 := by
  cases x <;> decide

theorem Step.claims_iff {x : Step} : x.claims = true ↔ x = .e4 ∨ x = .e5 ∨ x = .e6 := by
  cases x <;> decide

/-- The sequence once SQ has followed the gate, SUSPEND, the seat and HCD within its step (R52, R56, R63, R69). -/
def State.followedSq (s : State) : Sequence :=
  { s.sq with
    timer := if s.sq.step.followsGate then s.stepTimer else s.sq.timer
    detected := if s.sq.step = .e3 then s.sq.detected || s.level .in3 else s.sq.detected
    starve := if s.sq.step.claims then s.starveTimer else s.sq.starve
    riseCount := if s.sq.step = .e6 ∧ s.gate = false then 0 else s.sq.riseCount
    candidate := if s.sq.step = .e6 ∧ s.gate = false then none else s.sq.candidate
    pStart := if s.sq.step = .e6 ∧ s.gate = false then none else s.sq.pStart }

/-- The zero window and the pulldown comparator once SQ has followed the gate within its step (R38, R60). -/
def State.followedMu (s : State) : Measure :=
  { s.mu with
    window :=
      if s.sq.step = .e2 then if s.gate then if s.mu.window.isOpen then s.mu.window else Window.opened else {}
      else s.mu.window
    cmp := { s.mu.cmp with pulldown :=
      if s.sq.step = .e5 then
        if s.stepTimer.st = .running then if s.mu.cmp.pulldown.armed then s.mu.cmp.pulldown else Comparator.arm
        else Comparator.disarm
      else s.mu.cmp.pulldown } }

/-- SQ's reaction within a step. -/
theorem State.settleExtraction_stays {s : State} (h : s.staysInStep) :
    s.settleExtraction = (s.setSq s.followedSq).setMu s.followedMu := by
  obtain ⟨seat, classify⟩ := h
  cases hst : s.sq.step with
  | e0 | e7 =>
    simp [State.settleExtraction, hst, State.settleStarve_eq, State.followedSq, State.followedMu, Step.followsGate,
      Step.claims]
    rw [← hst]; rfl
  | e1 =>
    simp [State.settleExtraction, hst, State.settleE1, State.settleStarve_eq, State.followedSq, State.followedMu,
      Step.followsGate, Step.claims]
    rw [← hst]; rfl
  | e2 =>
    cases hg : s.gate <;> cases ho : s.mu.window.isOpen <;>
    simp [State.settleExtraction, hst, State.settleE2, hg, ho, State.settleStarve_eq, State.followedSq,
      State.followedMu, Step.followsGate, Step.claims] <;> rw [← hst] <;> rfl
  | e3 =>
    have hdue : ¬(s.cfg.classifyTime = 0 ∧ s.stepTimer.due = true) := by
      rintro ⟨hc, hd⟩
      have hg : s.gate = false := by simpa [hst, hc] using classify
      simp [Timer.due, State.stepTimer_closed_st hg] at hd
    simp [State.settleExtraction, hst, State.settleE3, hdue, State.settleStarve_eq, State.followedSq, State.followedMu,
      Step.followsGate, Step.claims]
    rw [← hst]; rfl
  | e4 =>
    have hs : s.ownSeated = false := by simpa [hst] using seat
    simp [State.settleExtraction, hst, State.settleE4, hs, State.settleStarve_eq, State.followedSq, State.followedMu,
      Step.followsGate, Step.claims]
    rw [← hst]; rfl
  | e5 =>
    cases ha : s.mu.cmp.pulldown.armed <;> by_cases hr : s.stepTimer.st = .running <;>
    simp [State.settleExtraction, hst, State.settlePull, ha, hr, State.settleStarve_eq, State.followedSq,
      State.followedMu, Step.followsGate, Step.claims] <;>
    rw [← hst] <;> rfl
  | e6 =>
    cases hg : s.gate <;>
    simp [State.settleExtraction, hst, State.settlePull, hg, State.settleStarve_eq, State.followedSq, State.followedMu,
      Step.followsGate, Step.claims] <;>
    rw [← hst] <;> rfl

/-- The end of a step at an EXTRACTION station: SQ's reaction and the STATUS. -/
theorem State.conclude_extraction {s : State} (hf : s.isFoam = false) (old : State) :
    s.conclude old = s.settleExtraction.announceIf false old := by
  simp [State.conclude, State.concludeIf, State.settle, State.summaryMoves, hf]

/-- The end of a step in which SQ stays in its step of the sequence. -/
theorem State.conclude_stays {s : State} (hf : s.isFoam = false) (h : s.staysInStep) (old : State) :
    s.conclude old = ((s.setSq s.followedSq).setMu s.followedMu).announceIf false old := by
  rw [State.conclude_extraction hf, State.settleExtraction_stays h]

/-- What that leaves of the other blocks. -/
theorem State.conclude_stays_frame {s : State} (hf : s.isFoam = false) (h : s.staysInStep) (old : State) :
    (s.conclude old).ms = s.ms ∧ (s.conclude old).ac = s.ac ∧ (s.conclude old).pu = s.pu ∧
    (s.conclude old).sq = s.followedSq ∧ (s.conclude old).mu = s.followedMu ∧ (s.conclude old).ch = s.ch ∧
    (s.conclude old).rs = s.rs := by
  simp [State.conclude_stays hf h]

/-- SQ stays in every step but E3 and E4. -/
theorem State.staysInStep_of_step {s : State} (h3 : s.sq.step ≠ .e3) (h4 : s.sq.step ≠ .e4) : s.staysInStep :=
  ⟨fun h => h4 h.1, fun h => h3 h.1⟩

/-- SQ stays in a step with an unseated claim. -/
theorem State.staysInStep_of_unseated {s : State} (h : s.sq.step.claims = true) (hs : s.ownSeated = false) :
    s.staysInStep := by
  refine ⟨fun h4 => by simp [hs] at h4, fun h3 => ?_⟩
  simp [h3.1, Step.claims] at h

@[simp] theorem State.followedSq_frame (s : State) :
    s.followedSq.step = s.sq.step ∧ s.followedSq.routeB = s.sq.routeB ∧ s.followedSq.repeats = s.sq.repeats ∧
    s.followedSq.used = s.sq.used ∧ s.followedSq.clampHold = s.sq.clampHold ∧ s.followedSq.clock = s.sq.clock := by
  simp [State.followedSq]

/-- In E0, E2 and E7 no item of the sequence follows. -/
theorem State.followedSq_still {s : State} (h : s.sq.step = .e0 ∨ s.sq.step = .e2 ∨ s.sq.step = .e7) :
    s.followedSq = s.sq := by
  rcases h with h | h | h <;> simp [State.followedSq, h, Step.followsGate, Step.claims] <;> rw [← h]

/-- In E1 the step timer follows the gate (R52). -/
theorem State.followedSq_e1 {s : State} (h : s.sq.step = .e1) : s.followedSq = { s.sq with timer := s.stepTimer } := by
  simp [State.followedSq, h, Step.followsGate, Step.claims]

/-- Outside E2 and E5 nothing of MU follows. -/
theorem State.followedMu_still {s : State} (h2 : s.sq.step ≠ .e2) (h5 : s.sq.step ≠ .e5) : s.followedMu = s.mu := by
  simp [State.followedMu, h2, h5]

@[simp] theorem State.followedMu_filters (s : State) : s.followedMu.filters = s.mu.filters := rfl

/-! ### Views of states that agree where the view looks -/

theorem State.level_congr {s t : State} (h : t.mu.filters = s.mu.filters) (p : Pin) : t.level p = s.level p := by
  simp [State.level, State.filter, h]

theorem State.gate_congr {s t : State} (hp : t.pu.de = s.pu.de) (hm : t.mu.filters = s.mu.filters) :
    t.gate = s.gate := by
  simp [State.gate, hp, State.level_congr hm]

theorem State.ownSeated_congr {s t : State} (hm : t.ms = s.ms) (hb : t.boot = s.boot) :
    t.ownSeated = s.ownSeated := by
  simp [State.ownSeated, hm, hb]

theorem State.suspendCause_congr {s t : State} (hm : t.ms = s.ms) (hb : t.boot = s.boot) :
    t.suspendCause = s.suspendCause := by
  simp [State.suspendCause, State.ownSeated_congr hm hb, State.purgeInProgress, hm]

theorem State.promoted_congr {s t : State} (h : t.ac.queue = s.ac.queue) : t.promoted = s.promoted := by
  simp [State.promoted, Accounts.active, h]

theorem State.stepTimer_congr {s t : State} (hq : t.sq = s.sq) (hc : t.cfg = s.cfg) (hm : t.ms = s.ms)
    (hb : t.boot = s.boot) (hg : t.gate = s.gate) : t.stepTimer = s.stepTimer := by
  simp [State.stepTimer, State.suspended, hq, hc, hg, State.suspendCause_congr hm hb]

/-- The items of STATUS are equal where what they read is (R127). -/
theorem State.items_congr {s t : State} (h : t.boot = s.boot ∧ t.cfg = s.cfg ∧ t.ms = s.ms ∧
    t.sq.step = s.sq.step ∧ t.ch = s.ch ∧ t.pt = s.pt ∧ t.pu = s.pu ∧ t.rs = s.rs ∧ t.ac.intake = s.ac.intake) :
    t.items = s.items := by
  obtain ⟨hb, hc, hm, hst, hch, hpt, hpu, hrs, hi⟩ := h
  simp [State.items, State.phase, State.stateByte, State.marksByte, State.inRun, State.isFoam, State.suspended,
    State.suspendCause_congr hm hb, State.lowestCode, State.intakeSpace, hb, hc, hm, hst, hch, hpt, hpu, hrs, hi]

end Sys2Proof.Machine
end

section
/-! SUPPORT. Which telegrams wait after an enqueueing: the one enqueued while a place is free or its class is not 3, and
every other that a STATUS finds waiting, unless a full queue drops it (R163, R164, R166). -/

namespace Sys2Proof.Machine

theorem mem_insertTelegram {m t : Telegram} {q : List Telegram} : m ∈ insertTelegram t q ↔ m = t ∨ m ∈ q := by
  induction q with
  | nil => simp [insertTelegram]
  | cons u us ih =>
    unfold insertTelegram
    split
    · simp
    · simp only [List.mem_cons, ih]
      tauto

/-- A full queue takes every telegram but one of class 3 (R166). -/
theorem mem_insertFull_self {t : Telegram} (h : t.cls ≠ 3) (q : List Telegram) : t ∈ insertFull t q := by
  unfold insertFull
  rw [if_neg h]
  (repeat' split) <;> exact mem_insertTelegram.mpr (Or.inl rfl)

/-- A full queue drops telegrams of class 3 and own-claim telegrams alone (R166). -/
theorem mem_insertFull_of_mem {m t : Telegram} {q : List Telegram} (hm : m ∈ q) (hc : m.cls ≠ 3)
    (ho : m.kind.isOwnClaim = false) : m ∈ insertFull t q := by
  unfold insertFull
  (repeat' split)
  · exact hm
  all_goals exact mem_insertTelegram.mpr (Or.inr (List.mem_filter.mpr ⟨hm, by simp [hc, ho]⟩))

/-- A telegram that is no STATUS and no purge telegram waits once it is enqueued (R163, R166). -/
theorem Line.mem_enqueue_self {l : Line} {t : Telegram} (hs : t.kind ≠ .status) (hc : t.kind ≠ .purgeClear)
    (he : t.kind ≠ .purgeEnd) (h : l.room = true ∨ t.cls ≠ 3) :
    { t with moment := l.moment } ∈ (l.enqueue t).queue := by
  by_cases hr : l.room = true
  · simp [Line.enqueue, hs, hc, he, hr, mem_insertTelegram]
  · simpa [Line.enqueue, hs, hc, he, hr] using
      mem_insertFull_self (t := { t with moment := l.moment }) (h.resolve_left hr) l.queue

/-- A telegram of another kind still waits once a STATUS is enqueued, if a place was free or a full queue keeps
it (R164, R166). -/
theorem Line.mem_enqueue_status {l : Line} {m t : Telegram} (ht : t.kind = .status) (hm : m ∈ l.queue)
    (hk : m.kind ≠ .status) (h : l.room = true ∨ m.cls ≠ 3 ∧ m.kind.isOwnClaim = false) :
    m ∈ (l.enqueue t).queue := by
  simp only [Line.enqueue, ht, if_true]
  split
  · exact mem_insertTelegram.mpr (Or.inr (List.mem_filter.mpr ⟨hm, by simpa using hk⟩))
  · by_cases hr : l.room = true
    · simp [hr, mem_insertTelegram, hm]
    · obtain ⟨hc, ho⟩ := h.resolve_left hr
      simpa [hr] using mem_insertFull_of_mem hm hc ho

/-- The same for the STATUS at the end of a step. -/
theorem State.mem_announceIf {s : State} {m : Telegram} (hm : m ∈ s.li.queue) (hk : m.kind ≠ .status)
    (h : s.li.room = true ∨ m.cls ≠ 3 ∧ m.kind.isOwnClaim = false) (b : Bool) (old : State) :
    m ∈ (s.announceIf b old).li.queue := by
  unfold State.announceIf
  split
  · exact Line.mem_enqueue_status rfl hm hk h
  · exact hm

/-! ### The CLAIM of a raise -/

theorem insertTelegram_length (t : Telegram) (q : List Telegram) :
    (insertTelegram t q).length = q.length + 1 := by
  induction q with
  | nil => rfl
  | cons u us ih =>
    unfold insertTelegram
    split
    · rfl
    · simp [ih]

/-- At most six waiting telegrams leave a place free (R163). -/
theorem Line.room_of_length {l : Line} (h : l.queue.length ≤ 6) : l.room = true := by
  unfold Line.room
  split <;> simp <;> omega

/-- A claim raised while at most five telegrams wait has its CLAIM in the transmit queue, where a place is still
free (R99, R163). -/
theorem State.raiseClaim_waits {s : State} (r : Route) (cls : ClaimClass) (h : s.li.queue.length ≤ 5) :
    (∃ m ∈ (s.raiseClaim r cls).li.queue, m.kind = .claim ∧ m.dst = 31
      ∧ m.payload = claimBytes s.cfg.role ⟨r, cls, min s.cfg.ownDemand (s.cfg.cap r)⟩)
    ∧ (s.raiseClaim r cls).li.room = true := by
  have hroom : s.li.room = true := Line.room_of_length (by omega)
  constructor
  · exact ⟨_, Line.mem_enqueue_self (by simp) (by simp) (by simp) (Or.inl hroom), rfl, rfl, rfl⟩
  · apply Line.room_of_length
    simp only [State.raiseClaim, State.send, State.setLi_li, State.setMs_li, Line.enqueue, hroom]
    simp only [reduceCtorEq, if_true, if_false, false_and, insertTelegram_length]
    omega

end Sys2Proof.Machine
end

section
/-! PROOF. The outputs and the route valve law (O5): each output by its row, then the law from what the sequence's
invariant says of the own claim. -/

namespace Sys2Proof.Machine

/-! ### The conditions the rows name -/

/-- The report of the seat (R107). -/
theorem State.ownSeated_iff (s : State) : s.ownSeated = true ↔
    s.ms.claimHeard = true ∧ ∃ c, s.ms.own = some c ∧ ∃ e ∈ s.ms.list c.route,
      e.claimant = s.boot.address ∧ e.cls = c.cls ∧ e.demand = c.demand ∧ e.seated = true := by
  unfold State.ownSeated
  cases s.ms.own with
  | none => simp
  | some c => simp [and_assoc]

/-- The drive gate (R50, R76). -/
theorem State.gate_iff (s : State) : s.gate = true ↔ s.pu.de = true ∧ s.level .ilk = true := by
  simp [State.gate]

/-- No cause of SUSPEND is present (R65). -/
theorem State.suspendCause_eq_false_iff (s : State) :
    s.suspendCause = false ↔ s.ownSeated = true ∧ s.ms.backoff = false ∧ s.ms.marks = [] := by
  simp [State.suspendCause, State.purgeInProgress, and_assoc]

/-- A route valve is drawn upon in E5 (R50). -/
def State.pulls (s : State) : Prop :=
  s.sq.step = .e5 ∧ s.ownSeated = true ∧ s.ms.backoff = false ∧ s.ms.marks = [] ∧ s.gate = true

/-- The valve of the chamber route draws (R75, R76, log 20). -/
def State.draws (s : State) : Prop :=
  s.gate = true ∧ ((s.ch.st = .purging ∧ s.ch.path = .manifold)
    ∨ (s.ownSeated = true ∧ ((s.ch.st = .ready ∨ s.ch.st = .entry) ∨ s.ch.st = .halted
        ∨ s.ch.st = .sweep ∧ s.ch.sweep.st ≠ .stopped)
      ∧ s.ms.marks = [] ∧ s.ms.backoff = false))

/-! ### The route valves -/

/-- The valve of a route at the terminal. -/
def State.valve (s : State) : Route → Bool
  | .A => s.valveA
  | .B => s.valveB

section
variable {s : State}

theorem State.not_foam_of_role (h : s.cfg.role = .extraction) : s.isFoam = false := by simp [State.isFoam, h]

theorem State.chamberValve_of_not_foam (h : s.isFoam = false) : s.chamberValve = false := by
  simp [State.chamberValve, h]

/-- A route valve at an EXTRACTION station (R50). -/
theorem State.pullValve_iff (h : s.isExtraction = true) :
    (s.isExtraction && s.sq.step == .e5 && !s.suspended && s.gate) = true ↔ s.pulls := by
  by_cases h5 : s.sq.step = .e5
  · simp only [State.pulls, State.suspended_eq (Or.inr (Or.inl h5)), h, h5, Bool.and_eq_true, beq_self_eq_true,
      Bool.not_eq_true', State.suspendCause_eq_false_iff]
    tauto
  · simp [State.pulls, h5]

/-- The valve of the chamber route (R75, R76). -/
theorem State.chamberValve_iff (hf : s.isFoam = true) (hp : s.ch.pending = false) :
    s.chamberValve = true ↔ s.draws := by
  simp only [State.chamberValve, State.chamberValveCommand, State.ownPurgePath, State.purgeInProgress, State.draws,
    hf, hp, Timer.isStopped]
  cases s.ch.st <;> simp <;> tauto

end

theorem State.valveA_extraction {s : State} (h : s.isExtraction = true) :
    s.valveA = true ↔ s.sq.routeB = false ∧ s.pulls := by
  have hf : s.isFoam = false := isFoam_of_isExtraction h
  rw [← State.pullValve_iff h]
  simp only [State.valveA, State.chamberValve_of_not_foam hf]
  simp
  tauto

theorem State.valveB_extraction {s : State} (h : s.isExtraction = true) :
    s.valveB = true ↔ s.sq.routeB = true ∧ s.pulls := by
  have hf : s.isFoam = false := isFoam_of_isExtraction h
  rw [← State.pullValve_iff h]
  simp only [State.valveB, State.chamberValve_of_not_foam hf]
  simp
  tauto

theorem State.valveA_foam {s : State} (hf : s.isFoam = true) (hp : s.ch.pending = false) :
    s.valveA = true ↔ s.ch.cls = .halo ∧ s.draws := by
  have hx : s.isExtraction = false := by simp_all [State.isFoam, State.isExtraction]
  rw [← State.chamberValve_iff hf hp]
  cases hc : s.ch.cls <;> simp [State.valveA, hx, State.chamberRoute, hc, ChamberClass.route]

theorem State.valveB_foam {s : State} (hf : s.isFoam = true) (hp : s.ch.pending = false) :
    s.valveB = true ↔ s.ch.cls = .hc ∧ s.draws := by
  have hx : s.isExtraction = false := by simp_all [State.isFoam, State.isExtraction]
  rw [← State.chamberValve_iff hf hp]
  cases hc : s.ch.cls <;> simp [State.valveB, hx, State.chamberRoute, hc, ChamberClass.route]

/-- A route valve is on at an EXTRACTION station or at a FOAM station whose chamber is at work. -/
theorem State.valve_role {s : State} (h : s.valveA = true ∨ s.valveB = true) :
    s.isExtraction = true ∨ s.isFoam = true ∧ s.ch.pending = false := by
  simp only [State.valveA, State.valveB, State.chamberValve, State.chamberValveCommand, Bool.or_eq_true,
    Bool.and_eq_true, Bool.not_eq_true'] at h
  tauto

/-- The two route valves are never on together (R50, R76). -/
theorem State.not_both_valves (s : State) : ¬(s.valveA = true ∧ s.valveB = true) := by
  rintro ⟨ha, hb⟩
  rcases State.valve_role (Or.inl ha) with hx | ⟨hf, hp⟩
  · have hA := ((State.valveA_extraction hx).mp ha).1
    have hB := ((State.valveB_extraction hx).mp hb).1
    simp [hA] at hB
  · have hA := ((State.valveA_foam hf hp).mp ha).1
    have hB := ((State.valveB_foam hf hp).mp hb).1
    simp [hA] at hB

/-! ### The terminals by role -/

/-- The terminals of a station that is not FOAM, out of the hold. -/
theorem State.outputs_extraction {s : State} (h : s.phase ≠ .hold) (hf : s.isFoam = false) :
    s.outputs = ⟨s.cld, s.valveA, s.valveB, s.sq.step == .e3 && s.gate, false, false, s.flt,
      s.extractionReady⟩ := by
  simp [State.outputs, h, hf]

/-- The terminals of a FOAM station out of the hold. -/
theorem State.outputs_foam {s : State} (h : s.phase ≠ .hold) (hf : s.isFoam = true) :
    s.outputs = ⟨!s.ch.pending && s.ch.st == .entry && !s.ch.doorOpen && s.gate, s.valveA, s.valveB, s.nvCommand,
      s.srp, !s.ch.pending && s.ch.st == .purging && s.ch.path == .vent, s.flt, s.chamberReady⟩ := by
  simp [State.outputs, h, hf]

theorem State.outputs_hold {s : State} (h : s.phase = .hold) :
    s.outputs = ⟨false, false, false, false, false, false, false, false⟩ := by
  simp [State.outputs, h]

/-- The route valves and FLT at the terminals, in either role. -/
theorem State.outputs_common {s : State} (h : s.phase ≠ .hold) :
    s.outputs.o1 = s.valveA ∧ s.outputs.o2 = s.valveB ∧ s.outputs.o6 = s.flt := by
  cases hf : s.isFoam
  · simp [State.outputs_extraction h hf]
  · simp [State.outputs_foam h hf]

/-- CLD at the terminal (R50). -/
theorem State.cld_iff (s : State) : s.cld = true ↔
    s.sq.step ∈ [Step.e1, Step.e2, Step.e3, Step.e4, Step.e5, Step.e6]
      ∧ (s.sq.clampHold = true ∨ s.gate = true) := by
  cases h : s.sq.step <;> simp [State.cld, h]

/-- SRP at the terminal of a FOAM station at work (R81). -/
theorem State.srp_iff {s : State} (hf : s.isFoam = true) (hp : s.ch.pending = false) :
    s.srp = true ↔ (s.ch.st = .ready ∨ s.ch.st = .entry) ∧ s.ownSeated = true
      ∧ s.mu.cmp.oxygenHigh.met = false ∧ s.pt.ownHazard ≠ .stop ∧ s.gate = true := by
  simp [State.srp, State.srpCommand, hf, hp, and_assoc]

/-- NV at the terminal of a FOAM station at work (R75). -/
theorem State.nvCommand_iff {s : State} (hp : s.ch.pending = false) :
    s.nvCommand = true ↔ s.ch.st = .inerting ∨ s.ch.st = .halted ∨ s.ch.st = .purging
      ∨ s.ch.st = .sweep ∧ s.ch.sweep.st ≠ .stopped := by
  cases h : s.ch.st <;> simp [State.nvCommand, hp, h, Timer.isStopped]

/-! ### The law -/

/-- What the law says of a route whose valve is on (R51). -/
theorem State.valve_law {s : State} (hs : s.sequenceOk) {r : Route}
    (h : s.valve r = true) :
    s.gate = true
    ∧ (s.isFoam = false → s.isExtraction = true ∧ s.sq.step = .e5)
    ∧ (s.isFoam = true → r = s.ch.cls.route)
    ∧ ((s.isFoam = true ∧ s.ch.st = .purging ∧ s.ch.path = .manifold)
      ∨ (s.ms.marks = [] ∧ s.ms.backoff = false ∧ s.ownSeated = true ∧ ∀ c, s.ms.own = some c → c.route = r)) := by
  obtain ⟨-, -, -, -, extraction, foam⟩ := hs
  have hv : s.valveA = true ∨ s.valveB = true := by cases r <;> simp_all [State.valve]
  rcases State.valve_role hv with hx | ⟨hf, hp⟩
  · have hf : s.isFoam = false := isFoam_of_isExtraction hx
    have hroute : s.currentRoute = r ∧ s.pulls := by
      cases r
      · obtain ⟨hb, hpull⟩ := (State.valveA_extraction hx).mp h
        exact ⟨by simp [State.currentRoute, hb], hpull⟩
      · obtain ⟨hb, hpull⟩ := (State.valveB_extraction hx).mp h
        exact ⟨by simp [State.currentRoute, hb], hpull⟩
    obtain ⟨hr, h5, seated, backoff, marks, gate⟩ := hroute
    obtain ⟨own, -⟩ := extraction hx
    obtain ⟨c, hown, hcr⟩ := own (Or.inr (Or.inl h5))
    refine ⟨gate, fun _ => ⟨hx, h5⟩, by simp [hf], Or.inr ⟨marks, backoff, seated, ?_⟩⟩
    intro d hd
    obtain rfl : c = d := Option.some_inj.mp (hown.symm.trans hd)
    rw [hcr, hr]
  · have hroute : r = s.ch.cls.route ∧ s.draws := by
      cases r
      · obtain ⟨hc, hdraw⟩ := (State.valveA_foam hf hp).mp h
        exact ⟨by simp [hc, ChamberClass.route], hdraw⟩
      · obtain ⟨hc, hdraw⟩ := (State.valveB_foam hf hp).mp h
        exact ⟨by simp [hc, ChamberClass.route], hdraw⟩
    obtain ⟨hr, gate, purge | ⟨seated, -, marks, backoff⟩⟩ := hroute
    · exact ⟨gate, by simp [hf], fun _ => hr, Or.inl ⟨hf, purge⟩⟩
    · exact ⟨gate, by simp [hf], fun _ => hr, Or.inr ⟨marks, backoff, seated, fun c hc => hr ▸ foam hf c hc⟩⟩

/-- Settles O5. -/
theorem routeValveAndGateLaw : Obligations.RouteValveAndGateLaw := by
  refine ⟨fun s => ?_, fun s hs r h => ?_⟩
  · intro o gate seated
    refine ⟨State.outputs_hold, ?_, fun hp => ?_, fun hp hx => ?_, fun hp hf hpend => ?_, fun hp hf hpend => ?_⟩
    · by_cases hp : s.phase = .hold
      · simp [o, State.outputs_hold hp]
      · obtain ⟨hA, hB, -⟩ := State.outputs_common hp
        simpa only [o, hA, hB] using s.not_both_valves
    · obtain ⟨-, -, hflt⟩ := State.outputs_common hp
      simp [o, hflt, State.flt]
    · have hf : s.isFoam = false := State.not_foam_of_role hx
      have hx' : s.isExtraction = true := by simp [State.isExtraction, hx]
      have hpulls : s.pulls ↔ s.sq.step = .e5 ∧ seated ∧ s.ms.backoff = false ∧ s.ms.marks = [] ∧ gate := by
        rw [State.pulls, s.ownSeated_iff, s.gate_iff]
      simp only [o, State.outputs_extraction hp hf]
      refine ⟨?_, ?_, ?_, ?_, trivial, trivial⟩
      · rw [s.cld_iff, s.gate_iff]
      · rw [State.valveA_extraction hx', hpulls]
      · rw [State.valveB_extraction hx', hpulls]
      · simp [gate, s.gate_iff]
    · have hf : s.isFoam = true := by simp [State.isFoam, hf]
      have hx : s.isExtraction = false := by simp_all [State.isFoam, State.isExtraction]
      have hvalve : s.chamberValve = false := by simp [State.chamberValve, State.chamberValveCommand, hpend]
      simp [o, State.outputs_foam hp hf, State.valveA, State.valveB, hx, hvalve, hpend, State.nvCommand, State.srp,
        State.srpCommand, State.chamberReady]
    · have hf : s.isFoam = true := by simp [State.isFoam, hf]
      intro sweeps works draws
      have hdraws : s.draws ↔ draws := by
        simp only [State.draws, s.ownSeated_iff, s.gate_iff, draws, gate, seated, works, sweeps]
      simp only [o, State.outputs_foam hp hf]
      refine ⟨?_, ?_, ?_, ?_, ?_, ?_, ?_⟩
      · simp [hpend, gate, s.gate_iff, and_assoc]
      · rw [State.valveA_foam hf hpend, hdraws]
      · rw [State.valveB_foam hf hpend, hdraws]
      · exact State.nvCommand_iff hpend
      · rw [State.srp_iff hf hpend, s.ownSeated_iff, s.gate_iff]
      · simp [hpend]
      · simp [State.chamberReady, hpend, works, and_assoc]
  · by_cases hp : s.phase = .hold
    · cases r <;> simp [State.outputs_hold hp] at h
    · obtain ⟨hA, hB, -⟩ := State.outputs_common hp
      have hv : s.valve r = true := by cases r <;> simpa [State.valve, hA, hB] using h
      obtain ⟨gate, extraction, foam, law⟩ := State.valve_law hs hv
      obtain ⟨hde, hilk⟩ := s.gate_iff.mp gate
      refine ⟨hde, hilk, extraction, foam, law.imp_right ?_⟩
      rintro ⟨marks, backoff, seated, route⟩
      obtain ⟨heard, c, hc, e, he, heq⟩ := s.ownSeated_iff.mp seated
      exact ⟨by simp [State.purgeInProgress, marks], backoff, heard, c, hc, route c hc, e, route c hc ▸ he, heq⟩

end Sys2Proof.Machine
end

section
/-! PROOF. The clamp (O30, O31): CLC closed in E1 leads to E2, and a clamp that fails abandons the account. -/

namespace Sys2Proof.Machine

/-! ### The edge of an input and the end of a step -/

/-- The level of a pin before an edge that is due (R33). -/
theorem State.level_of_edgeDue {s : State} {p : Pin} {up : Bool} (h : (s.filter p).edgeDue up = true) :
    s.level p = !up := by
  simp only [Filter.edgeDue, Bool.and_eq_true, beq_iff_eq] at h
  exact h.2

/-- An edge of another pin leaves the drive gate. -/
theorem State.edge_gate {s : State} {p : Pin} (h : Pin.ilk ≠ p) : (s.edge p).gate = s.gate := by
  simp [State.gate, State.edge_level_ne s h]

/-- After an edge that is due the pin has its new level, whatever SQ does at the end of the step. -/
theorem State.level_conclude_edge {s t : State} {p : Pin} {up : Bool} (h : (s.filter p).edgeDue up = true)
    (ht : t.mu.filters = (s.edge p).mu.filters) (old : State) : (t.conclude old).level p = up := by
  rw [State.level_congr (s := s.edge p) (by simpa using ht), State.edge_level_same, State.level_of_edgeDue h,
    Bool.not_not]

/-! ### CLC closes (O30) -/

/-- Settles O30. -/
theorem clampClosedEntersZero : Obligations.ClampClosedEntersZero := by
  intro s hp hx he
  refine ⟨fun h1 => ?_, fun h1 => ?_⟩
  · have hexec : exec .clcRise s = .next (((s.edge .in2).enterE2).conclude s) := by
      simp [exec, execClcRise, State.takesEdge, hp, he, hx, h1]
    have hf : (s.edge .in2).enterE2.isFoam = false := by
      simpa [State.isFoam] using isFoam_of_isExtraction hx
    have hstep : (s.edge .in2).enterE2.sq.step = .e2 := rfl
    have hgate : (s.edge .in2).enterE2.gate = s.gate :=
      (State.gate_congr (by simp) (by simp)).trans (State.edge_gate (p := .in2) (by decide))
    have hstays := State.staysInStep_of_step (s := (s.edge .in2).enterE2) (by simp [hstep]) (by simp [hstep])
    obtain ⟨hms, hac, hpu, hsq, hmu, hch, hrs⟩ := State.conclude_stays_frame hf hstays s
    refine ⟨_, hexec, State.level_conclude_edge he (by simp) s, ?_, ?_, ?_, ?_, ?_, ?_, ?_⟩
    · rw [hsq, State.followedSq_still (Or.inr (Or.inl hstep))]
      simp [State.enterE2]
    · have hwindow : (s.edge .in2).enterE2.mu.window = {} := rfl
      rw [hmu]
      simp [State.followedMu, hstep, hgate, hwindow]
    · simpa using hac
    · simpa using hms
    · simpa using hpu
    · simpa using hch
    · simpa using hrs
  · simp [exec, execClcRise, State.takesEdge, hp, he, hx, h1, State.edge]

/-! ### The entry of E7 at the end of its step -/

/-- A release of the own claim changes the own claim and its hearing mark alone (R100). -/
theorem State.releaseClaim_ms (s : State) :
    s.releaseClaim.ms = { s.ms with own := none, claimHeard := s.releaseClaim.ms.claimHeard } := by
  unfold State.releaseClaim
  split
  · rename_i h
    rw [← h]
  · rfl

theorem State.enterE7_mu (s : State) :
    s.enterE7.mu.window = {} ∧ s.enterE7.mu.cmp.pulldown = Comparator.disarm := ⟨rfl, rfl⟩

/-- A step that ends in E7 (R71). -/
theorem State.conclude_enterE7 {s : State} (hf : s.isFoam = false) (old : State) :
    (s.enterE7.conclude old).sq = s.releaseEntered ∧ (s.enterE7.conclude old).ac = s.ac ∧
    (s.enterE7.conclude old).pu = s.pu ∧
    (s.enterE7.conclude old).ms = { s.ms with own := none, claimHeard := (s.enterE7.conclude old).ms.claimHeard } ∧
    (s.enterE7.conclude old).mu.window = {} ∧ (s.enterE7.conclude old).mu.cmp.pulldown = Comparator.disarm ∧
    (s.enterE7.conclude old).ch = s.ch ∧ (s.enterE7.conclude old).rs = s.rs := by
  have hf' : s.enterE7.isFoam = false := by simpa [State.isFoam] using hf
  have hstep : s.enterE7.sq.step = .e7 := rfl
  have hstays := State.staysInStep_of_step (s := s.enterE7) (by simp [hstep]) (by simp [hstep])
  obtain ⟨hms, hac, hpu, hsq, hmu, hch, hrs⟩ := State.conclude_stays_frame hf' hstays old
  rw [State.followedSq_still (Or.inr (Or.inr hstep))] at hsq
  rw [State.followedMu_still (by simp [hstep]) (by simp [hstep])] at hmu
  have hrelease : s.enterE7.ms = s.releaseClaim.ms := by simp [State.enterE7]
  refine ⟨hsq.trans (enterE7_sq s), by simpa using hac, by simpa using hpu, ?_, ?_, ?_, by simpa using hch,
    by simpa using hrs⟩
  · rw [hms, hrelease]
    exact s.releaseClaim_ms
  · rw [hmu]; exact s.enterE7_mu.1
  · rw [hmu]; exact s.enterE7_mu.2

/-! ### The clamp fails (O31) -/

theorem State.reportEvent_source_ne (s : State) {t u : TripSource} (h : u ≠ t) :
    (s.reportEvent t).source u = s.source u := by
  unfold State.reportEvent
  split
  · exact s.trip_source_ne h true
  · exact s.setSource_source_ne h _
  · exact s.setSource_source_ne h _

/-- The code of an event comes into the set at its first report. -/
theorem State.mem_reportEvent_codes {s : State} {t : TripSource} (h : (s.source t).st = .normal) (c : Nat) :
    c ∈ (s.reportEvent t).pu.codes ↔ c = t.code ∨ c ∈ s.pu.codes := by
  have hrep : s.reportEvent t = s.trip t true := by simp [State.reportEvent, h]
  rw [hrep, State.mem_trip_codes]

/-- A further report leaves the set. -/
theorem State.reportEvent_codes_again {s : State} {t : TripSource} (h : (s.source t).st ≠ .normal) :
    (s.reportEvent t).pu.codes = s.pu.codes := by
  unfold State.reportEvent
  split
  · exact absurd ‹_› h
  · simp
  · simp

/-- The state with the clamp failed, before the entry of E7: the account marked and source 10 reported (R53, R54). -/
def State.clampReported (s : State) : State := s.markAbandoned.reportEvent .clampTimeout

theorem clampFailed_eq (s : State) : s.clampFailed = s.clampReported.enterE7 := rfl

theorem clampReported_source (s : State) :
    (s.clampReported.source .clampTimeout).st = .tripped ∧
    (∀ x, x ≠ .clampTimeout → s.clampReported.source x = s.source x) ∧
    ((s.source .clampTimeout).st = .normal → ∀ c, c ∈ s.clampReported.pu.codes ↔ c = 10 ∨ c ∈ s.pu.codes) ∧
    ((s.source .clampTimeout).st ≠ .normal → s.clampReported.pu.codes = s.pu.codes) := by
  have hsource (x : TripSource) : s.markAbandoned.source x = s.source x := State.source_congr (by simp) x
  refine ⟨State.reportEvent_st _ _, fun x hx => ?_, fun h c => ?_, fun h => ?_⟩
  · exact (State.reportEvent_source_ne _ hx).trans (hsource x)
  · refine (State.mem_reportEvent_codes (by rw [hsource, h]) c).trans ?_
    simp [TripSource.code]
  · refine (State.reportEvent_codes_again (by rw [hsource]; exact h)).trans ?_
    simp

/-- A falling CLC in E0 or E1 fails no clamp. -/
theorem State.clampOpened_early {s : State} (h : s.sq.step = .e0 ∨ s.sq.step = .e1) : s.clampOpened = s := by
  rcases h with h | h <;> simp [State.clampOpened, h]

/-- A falling CLC in E2 to E6 under the clamp hold fails the clamp (R54). -/
theorem State.clampOpened_held {s : State} (hc : s.sq.clampHold = true)
    (h : s.sq.step ∈ [Step.e2, Step.e3, Step.e4, Step.e5, Step.e6]) : s.clampOpened = s.clampFailed := by
  simp only [List.mem_cons, List.not_mem_nil, or_false] at h
  rcases h with h | h | h | h | h <;> simp [State.clampOpened, h, hc]

theorem exec_clcFall {s : State} (hx : s.isExtraction = true) (hp : s.phase ≠ .hold)
    (he : (s.filter .in2).edgeDue false = true) :
    exec .clcFall s = .next ((s.edge .in2).clampOpened.conclude s) := by
  simp [exec, execClcFall, State.takesEdge, hp, he, hx]

/-- Nothing of the part is reported while no item of STATUS has changed (R127). -/
theorem State.announceIf_same {s old : State} (h : s.items = old.items) : s.announceIf false old = s := by
  simp [State.announceIf, h]

/-- Settles O31: both ways to the failed clamp end in E7, and a falling CLC before E2 has no effect of its own. -/
theorem clampFailureAbandonsTheAccount : Obligations.ClampFailureAbandonsTheAccount := by
  intro s hx
  have hf : s.isFoam = false := isFoam_of_isExtraction hx
  refine ⟨fun c hc => ?_, fun hp he => ?_⟩
  · obtain ⟨v, hv, hexec, hlevel⟩ : ∃ v : State, (v = s ∨ v = s.edge .in2) ∧
        exec c s = .next (v.clampFailed.conclude s) ∧
        (c = .clcFall → (v.clampFailed.conclude s).level .in2 = false) := by
      rcases hc with ⟨rfl, hdue⟩ | ⟨rfl, hp, he, hold, hstep⟩
      · exact ⟨s, Or.inl rfl, by simp [exec, execClampTimeout, hdue], by simp⟩
      · refine ⟨s.edge .in2, Or.inr rfl, ?_, fun _ => State.level_conclude_edge he (by simp) s⟩
        rw [exec_clcFall hx hp he, State.clampOpened_held (by simpa using hold) (by simpa using hstep)]
    have same : v.sq = s.sq ∧ v.cfg = s.cfg ∧ v.ac = s.ac ∧ v.ms = s.ms ∧ v.pu = s.pu ∧ v.ch = s.ch ∧ v.rs = s.rs := by
      rcases hv with rfl | rfl <;> simp
    obtain ⟨hsq, hcfg, hac, hms, hpu, hch, hrs⟩ := same
    have hfv : v.clampReported.isFoam = false := by simpa [State.isFoam, State.clampReported, hcfg] using hf
    obtain ⟨tsq, tac, tpu, tms, twindow, tpulldown, tch, trs⟩ := State.conclude_enterE7 hfv s
    obtain ⟨tripped, others, first, again⟩ := clampReported_source v
    have tsource (x : TripSource) := State.source_congr (congrArg Protection.sources tpu) x
    have vsource (x : TripSource) : v.source x = s.source x := State.source_congr (by rw [hpu]) x
    simp only [clampFailed_eq] at hexec hlevel
    simp only [vsource, hpu] at first again others
    refine ⟨_, hexec, ?_, ?_, ?_, twindow, tpulldown, ?_, fun x hx => ?_, fun h => ?_, fun h => ?_, hlevel, ?_, ?_⟩
    · rw [tsq]
      simp [State.releaseEntered, State.clampReported, hsq, hcfg]
    · rw [tac]
      simp [State.clampReported, State.markAbandoned, State.onActive, State.setQueue, hac]
    · rw [tms]
      simp [State.clampReported, hms]
    · rw [tsource, tripped]
    · rw [tsource, others x hx]
    · rw [tpu]; exact first h
    · rw [tpu]; exact again h
    · rw [tch]; simpa [State.clampReported] using hch
    · rw [trs]; simpa [State.clampReported] using hrs
  · have hfe : (s.edge .in2).isFoam = false := by simpa [State.isFoam] using hf
    have early (h : s.sq.step = .e0 ∨ s.sq.step = .e1) : exec .clcFall s = .next ((s.edge .in2).conclude s) := by
      rw [exec_clcFall hx hp he, State.clampOpened_early (by simpa using h)]
    refine ⟨fun h0 => ?_, fun h1 => ?_⟩
    · rw [early (Or.inl h0), State.conclude_e0 hfe (by simpa using h0), State.announceIf_same]
      · rfl
      · exact State.items_congr (by simp)
    · have hstays := State.staysInStep_of_step (s := s.edge .in2) (by simp [h1]) (by simp [h1])
      have hend : (s.edge .in2).conclude s = (s.edge .in2).setSq { s.sq with timer := s.stepTimer } := by
        rw [State.conclude_stays hfe hstays, State.followedMu_still (by simp [h1]) (by simp [h1]),
          State.followedSq_e1 (by simpa using h1), State.announceIf_same]
        · rw [State.stepTimer_congr (s := s) (by simp) (by simp) (by simp) (by simp) (State.edge_gate (by decide))]
          simp [State.setSq]
          rfl
        · exact State.items_congr (by simp)
      refine ⟨_, early (Or.inr h1), State.level_conclude_edge he rfl s, ?_, fun h => ?_⟩
      · rw [hend]; rfl
      · rw [hend, h]; rfl

end Sys2Proof.Machine
end

section
/-! SUPPORT. A step that ends with the own claim newly raised: the claim is unseated, its CLAIM waits, and SQ stays in
E4 to E6 (R58, R62, R69, R70, R107). -/

namespace Sys2Proof.Machine

/-! ### The end of the step -/

theorem State.followedSq_starve {s : State} (h : s.sq.step.claims = true) : s.followedSq.starve = s.starveTimer := by
  simp [State.followedSq, h]

/-- The current route is kept within a step. -/
theorem State.currentRoute_followed {s t : State} (h : t.sq = s.followedSq) : t.currentRoute = s.currentRoute := by
  simp [State.currentRoute, h]

/-- The detected mark follows HCD in E3 alone (R56). -/
theorem State.followedSq_detected (s : State) :
    s.followedSq.detected = (s.sq.detected || (s.sq.step == .e3 && s.level .in3)) := by
  by_cases h : s.sq.step = .e3 <;> simp [State.followedSq, h]

/-- A raise in E4 to E6, at the end of its step. -/
theorem State.conclude_raised {s : State} (r : Route) (cls : ClaimClass) (hf : s.isFoam = false)
    (hst : s.sq.step.claims = true) (old : State) :
    let c : Claim := ⟨r, cls, min s.cfg.ownDemand (s.cfg.cap r)⟩
    let t := (s.raiseClaim r cls).conclude old
    t.ms.own = some c ∧ t.ownSeated = false
    ∧ (s.li.queue.length ≤ 5 → t.waits .claim 31 (claimBytes s.cfg.role c))
    ∧ t.ac = s.ac ∧ t.pu = s.pu ∧ t.sq = (s.raiseClaim r cls).followedSq
    ∧ t.ms.listA = s.ms.listA ∧ t.ms.listB = s.ms.listB ∧ t.rs = s.rs := by
  intro c t
  obtain ⟨own, -, unseated⟩ := s.raiseClaim_own r cls
  have hf' : (s.raiseClaim r cls).isFoam = false := by simpa [State.isFoam] using hf
  have hstays := State.staysInStep_of_unseated (s := s.raiseClaim r cls) (by simpa using hst) unseated
  obtain ⟨hms, hac, hpu, hsq, -, -, hrs⟩ := State.conclude_stays_frame hf' hstays old
  refine ⟨by rw [hms, own], ?_, fun hq => ?_, by simpa using hac, by simpa using hpu, hsq, by simp [t], by simp [t],
    by simpa using hrs⟩
  · rw [State.ownSeated_congr hms (by simp), unseated]
  · obtain ⟨⟨m, hm, hkind, hdst, hpay⟩, hroom⟩ := State.raiseClaim_waits r cls hq
    refine ⟨m, ?_, hkind, hdst, hpay⟩
    have hkind' : m.kind ≠ .status := by simp [hkind]
    simp only [t, State.conclude_stays hf' hstays old]
    exact State.mem_announceIf (by simpa using hm) hkind' (Or.inl (by simpa using hroom)) false old

/-- The starvation timer of a claim newly raised for an account that is not PROMOTED (R69). -/
theorem State.starveTimer_raised {s : State} (r : Route) (cls : ClaimClass) (hp : s.promoted = false)
    (hg : s.gate = true) (ht : s.sq.starve.st ≠ .running) :
    (s.raiseClaim r cls).starveTimer = Timer.start (1000 * s.cfg.starvationLimit) := by
  obtain ⟨-, -, unseated⟩ := s.raiseClaim_own r cls
  have hp' : (s.raiseClaim r cls).promoted = false := (State.promoted_congr (by simp)).trans hp
  have hg' : (s.raiseClaim r cls).gate = true := (State.gate_congr (by simp) (by simp)).trans hg
  simpa using State.starveTimer_start unseated hp' hg' (by simpa using ht)

/-! ### The ACTIVE account -/

/-- A change of the ACTIVE account is found where the account was. -/
theorem State.active_onActive (s : State) {f : QueueEntry → QueueEntry} (hf : ∀ e, (f e).st = e.st) :
    (s.onActive f).ac.active = s.ac.active.map f := by
  have hst : ((fun e : QueueEntry => e.st == .active) ∘ fun e => if e.st = .active then f e else e) =
      fun e => e.st == .active := by
    funext e
    simp only [Function.comp]
    split <;> simp [hf]
  simp only [Accounts.active, State.onActive, State.setQueue_queue, List.find?_map, hst]
  cases h : s.ac.queue.find? fun e => e.st == .active with
  | none => rfl
  | some e =>
    have he : e.st = .active := by simpa using List.find?_some h
    simp [he]

/-- A change that leaves the mark PROMOTED leaves it of the ACTIVE account. -/
theorem State.promoted_onActive (s : State) {f : QueueEntry → QueueEntry} (hf : ∀ e, (f e).st = e.st)
    (hp : ∀ e, (f e).account.flags.promoted = e.account.flags.promoted) :
    (s.onActive f).promoted = s.promoted := by
  simp only [State.promoted, s.active_onActive hf]
  cases s.ac.active <;> simp [hp]

/-! ### DE and the codes of the sequence -/

/-- The codes 6 and 7 leave the drive gate where DE follows its rule (R144). -/
theorem State.addCode_gate {s : State} {c : Nat} (hc : c ∈ [6, 7]) (h : s.pu.de = s.driveRule) :
    (s.addCode c).gate = s.gate := by
  have harmless : ∀ x ∈ [c], TripSource.ofCode x = none ∧ isFatal x = false := by
    simp only [List.mem_singleton, forall_eq]
    exact announceCodes_harmless c (by fin_cases hc <;> decide)
  refine State.gate_congr ?_ (by simp)
  rw [State.addCode_de, h]
  exact driveRule_of_harmless (by simp) (by simp) harmless fun x hx => by
    simp_all [mem_insertCode]

end Sys2Proof.Machine
end

section
/-! PROOF. Classification and the claims of an extraction: the end of E3 (O32), the route change in E5 (O33), and the
promotion of a starved claim (O36). -/

namespace Sys2Proof.Machine

/-! ### The end of E3 (O32) -/

/-- The state with the routing decision made and E4 entered, before the claim is raised (R57, R58). -/
def State.classified (s : State) : State :=
  let t := s.onActive (QueueEntry.routed s.declaredClass s.sq.detected)
  let u := if s.declaredClass == .halo && s.sq.detected then t.addCode 6 else t
  u.setSq { u.sq with
    step := .e4, timer := Timer.stopped, routeB := routesToB s.declaredClass s.sq.detected, detected := false }

/-- The route the decision takes (R57). -/
def State.decidedRoute (s : State) : Route := if routesToB s.declaredClass s.sq.detected then .B else .A

theorem endClassify_eq (s : State) : s.endClassify = s.classified.raiseClaim s.decidedRoute .ordinary := rfl

theorem State.decidedRoute_eq (s : State) :
    s.decidedRoute = if s.declaredClass = .hc ∨ s.sq.detected = true then Route.B else .A := by
  simp [State.decidedRoute, routesToB]

/-- What the routing decision leaves unchanged. -/
@[simp] theorem State.classified_frame (s : State) :
    s.classified.boot = s.boot ∧ s.classified.cfg = s.cfg ∧ s.classified.li = s.li ∧ s.classified.ms = s.ms ∧
    s.classified.mu = s.mu ∧ s.classified.rs = s.rs ∧ s.classified.sq.starve = s.sq.starve := by
  simp only [State.classified]
  split <;> simp

theorem classified_sq (s : State) :
    s.classified.sq.step = .e4 ∧ s.classified.sq.timer = Timer.stopped ∧ s.classified.sq.detected = false
      ∧ s.classified.currentRoute = s.decidedRoute := ⟨rfl, rfl, rfl, rfl⟩

theorem classified_queue (s : State) : s.classified.ac.queue = s.ac.queue.map fun e =>
    if e.st = .active then e.routed s.declaredClass s.sq.detected else e := by
  simp only [State.classified]
  split <;> simp [State.onActive]

theorem classified_codes (s : State) (n : Nat) :
    n ∈ s.classified.pu.codes ↔ n ∈ s.pu.codes ∨ (n = 6 ∧ s.declaredClass = .halo ∧ s.sq.detected = true) := by
  simp only [State.classified, State.setSq_pu]
  split
  next h =>
    simp only [Bool.and_eq_true, beq_iff_eq] at h
    simp [mem_insertCode, h, or_comm]
  next h =>
    simp only [Bool.and_eq_true, beq_iff_eq] at h
    simp [h]

theorem classified_promoted (s : State) : s.classified.promoted = s.promoted := by
  have hq : s.classified.ac.queue = (s.onActive (QueueEntry.routed s.declaredClass s.sq.detected)).ac.queue := by
    rw [classified_queue]
    rfl
  exact (State.promoted_congr hq).trans (State.promoted_onActive s (fun _ => rfl) fun _ => rfl)

theorem classified_gate {s : State} (h : s.pu.de = s.driveRule) : s.classified.gate = s.gate := by
  let t := s.onActive (QueueEntry.routed s.declaredClass s.sq.detected)
  have ht : t.gate = s.gate := State.gate_congr (by simp [t]) (by simp [t])
  have hde : t.pu.de = t.driveRule := by
    rw [State.driveRule_congr (s := s) (by simp [t]) (by simp [t]) (by simp [t])]
    simpa [t] using h
  simp only [State.classified]
  split
  · exact (State.gate_congr rfl rfl).trans ((State.addCode_gate (by decide) hde).trans ht)
  · exact (State.gate_congr rfl rfl).trans ht

/-! ### HCD rises (R56, R62) -/

/-- HCD on where it changes no route: the edge and the end of the step. -/
theorem exec_hcdRise_kept {s : State} (hx : s.isExtraction = true) (hp : s.phase ≠ .hold)
    (he : (s.filter .in3).edgeDue true = true) (h : ¬(s.sq.step = .e5 ∧ s.sq.routeB = false)) :
    exec .hcdRise s = .next ((s.edge .in3).conclude s) := by
  simp [exec, execHcdRise, State.takesEdge, hp, he, hx, h]

/-- HCD on in E5 on route A. -/
theorem exec_hcdRise_changes {s : State} (hx : s.isExtraction = true) (hp : s.phase ≠ .hold)
    (he : (s.filter .in3).edgeDue true = true) (h5 : s.sq.step = .e5) (hA : s.sq.routeB = false) :
    exec .hcdRise s = .next ((s.edge .in3).routeChange.conclude s) := by
  simp [exec, execHcdRise, State.takesEdge, hp, he, hx, h5, hA]

/-- The same outside the steps that HCD leads on. -/
theorem hcdRise_stays {s : State} (hx : s.isExtraction = true) (h : (s.edge .in3).staysInStep) :
    let t := (s.edge .in3).conclude s
    t.sq = (s.edge .in3).followedSq ∧ t.ms = s.ms ∧ t.ac = s.ac ∧ t.pu = s.pu := by
  have hf : (s.edge .in3).isFoam = false := by simpa [State.isFoam] using isFoam_of_isExtraction hx
  obtain ⟨hms, hac, hpu, hsq, -, -, -⟩ := State.conclude_stays_frame hf h s
  exact ⟨hsq, by simpa using hms, by simpa using hac, by simpa using hpu⟩

/-- Settles O32. -/
theorem routingDecisionRaisesTheClaim : Obligations.RoutingDecisionRaisesTheClaim := by
  intro s hx
  have hf : s.isFoam = false := isFoam_of_isExtraction hx
  have hrole : s.cfg.role = .extraction := by simpa [State.isExtraction] using hx
  refine ⟨fun hdue a ha => ?_, fun hp he => ?_⟩
  · intro cls det r c
    have hcls : s.declaredClass = cls := by simp [State.declaredClass, ha, cls]
    have hr : s.decidedRoute = r := by rw [s.decidedRoute_eq, hcls]
    have hexec : exec .classifyTimeExpiry s = .next ((s.classified.raiseClaim r .ordinary).conclude s) := by
      simp [exec, execClassifyTimeExpiry, hdue, endClassify_eq, hr]
    have hfc : s.classified.isFoam = false := by simpa [State.isFoam] using hf
    obtain ⟨hstep, htimer, hdet, hroute⟩ := classified_sq s
    have hroute' : (s.classified.raiseClaim r .ordinary).currentRoute = r := by
      simpa [State.currentRoute] using hroute.trans hr
    obtain ⟨own, unseated, waits, hac, hpu, hsq, -, -, hrs⟩ :=
      State.conclude_raised r .ordinary hfc (by rw [hstep]; rfl) s
    refine ⟨_, hexec, ?_, ?_, ?_, ?_, ?_, unseated, fun hq => ?_, ?_, fun n => ?_, fun hde hg hpr hst => ?_, ?_, ?_, ?_⟩
    · simp [hsq, hstep]
    · exact (State.currentRoute_followed hsq).trans hroute'
    · simp [hsq, State.followedSq_detected, hstep, hdet]
    · simp [hsq, State.followedSq, hstep, htimer, Step.followsGate]
    · simpa using own
    · simpa [hrole] using waits (by simpa using hq)
    · rw [hac, classified_queue]
      simp only [QueueEntry.routed, ← hr, State.decidedRoute, ← hcls]
      cases routesToB s.declaredClass s.sq.detected <;> rfl
    · rw [hpu, classified_codes, hcls]
    · rw [hsq, State.followedSq_starve (by simp [hstep, Step.claims]), State.starveTimer_raised]
      · simp
      · rw [classified_promoted, hpr]
      · rw [classified_gate hde, hg]
      · simp [hst, Timer.stopped]
    · simp
    · simp
    · simpa using hrs
  · have hlevel : (s.edge .in3).level .in3 = true := by simp [State.level_of_edgeDue he]
    by_cases hch : s.sq.step = .e5 ∧ s.sq.routeB = false
    · refine ⟨_, exec_hcdRise_changes hx hp he hch.1 hch.2, State.level_conclude_edge he (by simp) s, ?_, ?_⟩
      · simp [hch.1]
      · simp [hch.1]
    · have stays := hcdRise_stays (s := s) hx
      refine ⟨_, exec_hcdRise_kept hx hp he hch, State.level_conclude_edge he rfl s, fun h3 hc => ?_, fun h => ?_⟩
      · obtain ⟨hsq, -, hac, hpu⟩ := stays ⟨by simp [h3], by simp [hc]⟩
        exact ⟨by simp [hsq, h3], by simp [hsq, State.followedSq_detected, h3, hlevel], hac, hpu⟩
      · have hseat : (s.edge .in3).ownSeated = s.ownSeated := State.ownSeated_congr (by simp) (by simp)
        have hstays : (s.edge .in3).staysInStep := by
          simp only [State.staysInStep, State.edge_frame, hseat]
          rcases h with h | ⟨h4, hs⟩
          · simp only [List.mem_cons, List.not_mem_nil, or_false] at h
            rcases h with h | h | h | h | h <;> simp [h]
          · simp [h4, hs]
        obtain ⟨hsq, hms, hac, hpu⟩ := stays hstays
        exact ⟨by simp [hsq], by simp [hsq], hms, hac, hpu⟩

/-! ### The route change (O33) -/

/-- The state with the route changed to B, before the claim is raised anew (R62). -/
def State.rerouted (s : State) : State :=
  ((s.setSq { s.sq with routeB := true }).onActive QueueEntry.rerouted).addCode 7

/-- The class in which a route change raises the claim: that of the own claim (R62). -/
def State.claimClass (s : State) : ClaimClass :=
  match s.ms.own with
  | some c => c.cls
  | none => .ordinary

theorem routeChange_eq (s : State) : s.routeChange = s.rerouted.raiseClaim .B s.claimClass := rfl

/-- What the change of the route leaves unchanged. -/
@[simp] theorem State.rerouted_frame (s : State) :
    s.rerouted.boot = s.boot ∧ s.rerouted.cfg = s.cfg ∧ s.rerouted.li = s.li ∧ s.rerouted.ms = s.ms ∧
    s.rerouted.mu = s.mu ∧ s.rerouted.rs = s.rs ∧ s.rerouted.sq = { s.sq with routeB := true } := by
  simp [State.rerouted]

theorem rerouted_queue (s : State) : s.rerouted.ac.queue = s.ac.queue.map fun e =>
    if e.st = .active then e.rerouted else e := rfl

theorem rerouted_codes (s : State) (n : Nat) : n ∈ s.rerouted.pu.codes ↔ n = 7 ∨ n ∈ s.pu.codes := by
  simp [State.rerouted, mem_insertCode]

theorem rerouted_promoted (s : State) : s.rerouted.promoted = s.promoted :=
  (State.promoted_congr (s := s.onActive QueueEntry.rerouted) rfl).trans
    (State.promoted_onActive s (fun _ => rfl) fun _ => rfl)

theorem rerouted_gate {s : State} (h : s.pu.de = s.driveRule) : s.rerouted.gate = s.gate :=
  State.addCode_gate (s := (s.setSq { s.sq with routeB := true }).onActive QueueEntry.rerouted) (by decide) h

/-- Settles O33. -/
theorem hydrocarbonOnRouteAChangesTheRoute : Obligations.HydrocarbonOnRouteAChangesTheRoute := by
  intro s hx hp he h5
  have hf : (s.edge .in3).rerouted.isFoam = false := by simpa [State.isFoam] using isFoam_of_isExtraction hx
  have hrole : s.cfg.role = .extraction := by simpa [State.isExtraction] using hx
  refine ⟨fun hA c hc => ?_, fun hB => ?_⟩
  · intro c'
    have hcls : (s.edge .in3).claimClass = c.cls := by simp [State.claimClass, hc]
    have hclaims : (s.edge .in3).rerouted.sq.step.claims = true := by simp [h5, Step.claims]
    have hexec := exec_hcdRise_changes hx hp he h5 hA
    rw [routeChange_eq, hcls] at hexec
    obtain ⟨own, unseated, waits, hac, hpu, hsq, -, -, -⟩ := State.conclude_raised .B c.cls hf hclaims s
    refine ⟨_, hexec, ?_, ?_, ?_, unseated, fun hq => ?_, ?_, fun n => ?_, fun hde hg hpr hst => ?_, ?_, ?_⟩
    · simp [hsq, h5]
    · simp [State.currentRoute, hsq]
    · simpa [Settings.cap] using own
    · simpa [hrole, Settings.cap] using waits (by simpa using hq)
    · rw [hac, rerouted_queue]
      simp only [State.edge_frame, QueueEntry.rerouted]
    · rw [hpu, rerouted_codes]
      simp
    · rw [hsq, State.followedSq_starve (by simpa using hclaims), State.starveTimer_raised]
      · simp
      · rw [rerouted_promoted, State.promoted_congr (s := s) (by simp), hpr]
      · have hde' : (s.edge .in3).pu.de = (s.edge .in3).driveRule := by
          simpa using hde.trans (State.driveRule_congr (t := s.edge .in3) (by simp) (by simp) (by simp)).symm
        rw [rerouted_gate hde', State.edge_gate (by decide), hg]
      · simpa using hst
    · simp
    · simp
  · obtain ⟨hsq, hms, hac, hpu⟩ := hcdRise_stays hx (State.staysInStep_of_step (by simp [h5]) (by simp [h5]))
    exact ⟨_, exec_hcdRise_kept hx hp he (by simp [hB]), by simp [hsq, h5], by simp [hsq, hB], hms, hac, hpu⟩

/-! ### The promotion (O36) -/

/-- The state with the account PROMOTED and the starvation timer stopped, before the claim is raised anew (R70). -/
def State.promotedAccount (s : State) : State :=
  (s.setSq { s.sq with starve := Timer.stopped }).flagActive fun f => { f with promoted := true }

/-- What a promotion leaves unchanged. -/
@[simp] theorem State.promotedAccount_frame (s : State) :
    s.promotedAccount.boot = s.boot ∧ s.promotedAccount.cfg = s.cfg ∧ s.promotedAccount.ms = s.ms ∧
    s.promotedAccount.pu = s.pu ∧ s.promotedAccount.rs = s.rs ∧
    s.promotedAccount.sq = { s.sq with starve := Timer.stopped } := by
  simp [State.promotedAccount]

theorem promote_eq (s : State) : s.promote = s.promotedAccount.raiseClaim s.currentRoute .priority := rfl

theorem promotedAccount_promoted {s : State} (h : s.ac.active.isSome = true) : s.promotedAccount.promoted = true := by
  obtain ⟨e, he⟩ := Option.isSome_iff_exists.mp h
  have hactive : s.promotedAccount.ac.active = s.ac.active.map _ :=
    State.active_onActive (s.setSq { s.sq with starve := Timer.stopped }) fun _ => rfl
  simp [State.promoted, hactive, he]

/-- Settles O36. -/
theorem starvationRaisesPriorityClaim : Obligations.StarvationRaisesPriorityClaim := by
  intro s hx hdue hst hact c
  have hf : s.promotedAccount.isFoam = false := by
    simpa [State.isFoam] using isFoam_of_isExtraction hx
  have hrole : s.cfg.role = .extraction := by simpa [State.isExtraction] using hx
  have hclaims : s.promotedAccount.sq.step.claims = true := Step.claims_iff.mpr hst
  have hexec : exec .starvationPromotion s =
      .next ((s.promotedAccount.raiseClaim s.currentRoute .priority).conclude s) := by
    simp [exec, execStarvationPromotion, hdue, promote_eq]
  obtain ⟨own, unseated, waits, hac, hpu, hsq, -, -, hrs⟩ :=
    State.conclude_raised s.currentRoute .priority hf hclaims s
  have hpromoted : (s.promotedAccount.raiseClaim s.currentRoute .priority).promoted = true :=
    (State.promoted_congr (by simp)).trans (promotedAccount_promoted hact)
  refine ⟨_, hexec, own, unseated, fun hq => ?_, by simp [hsq], by simp [hsq], ?_, ?_, by simp, by simp, ?_, ?_⟩
  · rw [← hrole]
    exact waits hq
  · rw [hsq, State.followedSq_starve (by simpa using hclaims), State.starveTimer_stopped (Or.inr hpromoted)]
  · rw [hac]; rfl
  · rw [hpu]; simp
  · rw [hrs]; simp

end Sys2Proof.Machine
end

section
/-! PROOF. E5 and E6: pulldown reached or timed out and the samples of the hold (O34), the rise test (O35). -/

namespace Sys2Proof.Machine

/-! ### A step timer that stands reset -/

/-- A timed step goes on from a timer reset to its full time: it starts with the gate open and no SUSPEND, and stays
reset otherwise (R52). -/
theorem State.stepTimer_reset {s : State} (h : s.sq.timer = Timer.reset (s.cfg.stepTime s.sq.step)) :
    s.stepTimer = if s.gate = true ∧ s.suspended = false then Timer.start (s.cfg.stepTime s.sq.step)
      else Timer.reset (s.cfg.stepTime s.sq.step) := by
  cases hg : s.gate with
  | false => simp [State.stepTimer_closed hg (by simp [h, Timer.reset])]
  | true =>
    cases hs : s.suspended with
    | false => simp [State.stepTimer_resumed hg hs, h]
    | true => simp [State.stepTimer_held hg hs, h]

/-! ### The hold (O34) -/

theorem enterE6_step_timer (s : State) :
    s.enterE6.sq.step = .e6 ∧ s.enterE6.sq.timer = Timer.reset (s.enterE6.cfg.stepTime .e6) ∧
    s.enterE6.mu.cmp.pulldown = Comparator.disarm := ⟨rfl, rfl, rfl⟩

/-- The hold time from the entry of E6 on (R52, R63). -/
theorem enterE6_stepTimer (s : State) : s.enterE6.stepTimer =
    if s.gate = true ∧ s.suspendCause = false then Timer.start (1000 * s.cfg.holdTime)
    else Timer.reset (1000 * s.cfg.holdTime) := by
  obtain ⟨hstep, htimer, -⟩ := enterE6_step_timer s
  have hgate : s.enterE6.gate = s.gate := State.gate_congr (by simp) (by simp)
  have hcause : s.enterE6.suspended = s.suspendCause :=
    (State.suspended_eq (Or.inr (Or.inr hstep))).trans (State.suspendCause_congr (by simp) (by simp))
  rw [State.stepTimer_reset (by rw [htimer, hstep]), hgate, hcause, hstep]
  simp [Settings.stepTime]

/-- A step that ends with the entry of E6 (R61, R63). -/
theorem conclude_enterE6 {s : State} (hf : s.isFoam = false) (old : State) :
    let t := s.enterE6.conclude old
    t.sq = { s.sq with
      step := .e6, riseCount := 0, candidate := none, pStart := none, starve := t.sq.starve
      timer := if s.gate = true ∧ s.suspendCause = false then Timer.start (1000 * s.cfg.holdTime)
        else Timer.reset (1000 * s.cfg.holdTime) }
    ∧ t.mu.cmp.pulldown = Comparator.disarm ∧ t.ms = s.ms ∧ t.ac = s.ac ∧ t.pu = s.pu ∧ t.rs = s.rs := by
  intro t
  obtain ⟨hstep, -, hpulldown⟩ := enterE6_step_timer s
  have hf' : s.enterE6.isFoam = false := by simpa [State.isFoam] using hf
  have hstays := State.staysInStep_of_step (s := s.enterE6) (by simp [hstep]) (by simp [hstep])
  obtain ⟨hms, hac, hpu, hsq, hmu, -, hrs⟩ := State.conclude_stays_frame hf' hstays old
  refine ⟨?_, ?_, by simpa using hms, by simpa using hac, by simpa using hpu, by simpa using hrs⟩
  · have hcounts : s.enterE6.sq.riseCount = 0 ∧ s.enterE6.sq.candidate = none ∧ s.enterE6.sq.pStart = none :=
      ⟨rfl, rfl, rfl⟩
    simp [t, hsq, State.followedSq, hstep, hcounts, enterE6_stepTimer, Step.followsGate]
  · rw [hmu, State.followedMu_still (by simp [hstep]) (by simp [hstep])]
    exact hpulldown

/-- The sequence at a sample at work of which SQ hears nothing (R63, R71). -/
theorem sampled_sq {s : State} (x : Sample) (hw : s.working = true) (ho : s.mu.cmp.oxygenHigh.met = false)
    (hr : s.cfg.recoveryTime ≠ 0) : (s.sampled x).sq = s.sq.sample (s.sampled x).mu.ch := by
  obtain ⟨-, -, -, -, hch, -⟩ := sampled_frame x s
  rw [hch, sampled_of_quiet x ho hr, sampleTaken_of_time x hr]
  simp [State.takeSample, hw]

/-- Settles O34. -/
theorem holdCountsSamplesToThePressureStart : Obligations.HoldCountsSamplesToThePressureStart := by
  intro s hx
  have hf : s.isFoam = false := isFoam_of_isExtraction hx
  refine ⟨fun h5 hdue => ⟨_, ?_, conclude_enterE6 hf s⟩, fun hdue => ?_, fun hdue hp => ?_, fun h6 hn hp => ?_,
    fun x hw ho hr => ⟨_, exec_stationSample_working x hw, ?_, ?_, ?_⟩⟩
  · simp [exec, execPulldownReached, h5, hdue]
  · have hexec : exec .pulldownTimeout s =
        .next ((s.flagActive fun f => { f with pulldownTimeout := true }).enterE7.conclude s) := by
      simp [exec, execPulldownTimeout, hdue]
    have hf' : (s.flagActive fun f => { f with pulldownTimeout := true }).isFoam = false := by
      simpa [State.isFoam] using hf
    obtain ⟨hsq, hac, hpu, hms, -⟩ := State.conclude_enterE7 hf' s
    refine ⟨_, hexec, ?_, by rw [hms], by rw [hpu]; simp, by rw [hac]; rfl⟩
    rw [hsq]
    simp [State.releaseEntered]
  · simp [exec, execHoldTimeExpiry, hdue, hp]
  · simp [exec, execPStart, h6, hn, hp, State.setSq]
  · intro h6 hrun hlt
    rw [sampled_sq x hw ho hr]
    simp [Sequence.sample, h6, hrun, hlt]
  · intro h6 hstop
    rw [sampled_sq x hw ho hr]
    have hnot : ¬(s.sq.timer.st = .running ∧ s.sq.riseCount < 100) := by
      rintro ⟨hrun, hlt⟩
      rcases hstop with h | h
      · exact h hrun
      · omega
    simp [Sequence.sample, h6, hnot]
  · intro h7
    rw [sampled_sq x hw ho hr]
    cases hfp : s.sq.finalPressure with
    | none => simp [Sequence.sample, h7, hfp]
    | some p =>
      simp only [Sequence.sample, h7, hfp]
      rw [← h7, ← hfp]

/-! ### The rise test (O35) -/

/-- The test of R64. -/
theorem riseOk_iff (limit p q : Nat) : riseOk limit p q = true ↔ p ≠ 65535 ∧ q ≠ 65535 ∧ q ≤ p + limit := by
  simp [riseOk, and_assoc]

theorem exec_holdTimeExpiry {s : State} {p : Nat} (hdue : s.stepDue .e6 = true) (hp : s.sq.pStart = some p) :
    exec .holdTimeExpiry s = .next ((s.afterRise (riseOk s.cfg.riseLimit p s.mu.ch.c0)).conclude s) := by
  simp [exec, execHoldTimeExpiry, hdue, hp]

/-- The state with E5 entered, before hydrocarbon is looked for (R60). -/
def State.e5Entered (s : State) : State := (s.enterTimed .e5).setPulldown Comparator.disarm

/-- What the entry of E5 leaves unchanged. -/
@[simp] theorem State.e5Entered_frame (s : State) :
    s.e5Entered.boot = s.boot ∧ s.e5Entered.cfg = s.cfg ∧ s.e5Entered.li = s.li ∧ s.e5Entered.ms = s.ms ∧
    s.e5Entered.ac = s.ac ∧ s.e5Entered.pu = s.pu ∧ s.e5Entered.mu.filters = s.mu.filters ∧
    s.e5Entered.sq = { s.sq with step := .e5, timer := Timer.reset (s.cfg.stepTime .e5) } := by
  simp [State.e5Entered, State.enterTimed]

theorem e5Entered_pulldown (s : State) : s.e5Entered.mu.cmp.pulldown = Comparator.disarm := rfl

/-- E5 is entered as it is on route B or without hydrocarbon (R60). -/
theorem enterE5_kept {s : State} (h : s.sq.routeB = true ∨ s.level .in3 = false) : s.enterE5 = s.e5Entered := by
  have hlevel : s.e5Entered.level .in3 = s.level .in3 := State.level_congr (by simp) _
  refine if_neg ?_
  show ¬(!s.e5Entered.sq.routeB && s.e5Entered.level .in3) = true
  rw [hlevel]
  rcases h with h | h <;> simp [h]

/-- On route A hydrocarbon changes the route at the entry (R60, R62). -/
theorem enterE5_changes {s : State} (hA : s.sq.routeB = false) (h : s.level .in3 = true) :
    s.enterE5 = s.e5Entered.rerouted.raiseClaim .B s.claimClass := by
  have hlevel : s.e5Entered.level .in3 = s.level .in3 := State.level_congr (by simp) _
  refine (if_pos ?_).trans ?_
  · show (!s.e5Entered.sq.routeB && s.e5Entered.level .in3) = true
    rw [hlevel]
    simp [hA, h]
  · rfl

/-- A step that ends with the entry of E5 without a route change (R52, R60). -/
theorem conclude_e5Entered {s : State} (hf : s.isFoam = false) (old : State) :
    let t := s.e5Entered.conclude old
    t.ms = s.ms ∧ t.ac = s.ac ∧ t.pu = s.pu ∧ t.sq.step = .e5 ∧ t.sq.routeB = s.sq.routeB
    ∧ (s.gate = true ∧ s.suspendCause = false →
        t.sq.timer = Timer.start (1000 * s.cfg.pulldownTime) ∧ t.mu.cmp.pulldown = Comparator.arm)
    ∧ (s.gate = false ∨ s.suspendCause = true →
        t.sq.timer = Timer.reset (1000 * s.cfg.pulldownTime) ∧ t.mu.cmp.pulldown = Comparator.disarm) := by
  intro t
  have hf' : s.e5Entered.isFoam = false := by simpa [State.isFoam] using hf
  have hstep : s.e5Entered.sq.step = .e5 := rfl
  have hgate : s.e5Entered.gate = s.gate := State.gate_congr (by simp) (by simp)
  have hcause : s.e5Entered.suspended = s.suspendCause :=
    (State.suspended_eq (Or.inr (Or.inl hstep))).trans (State.suspendCause_congr (by simp) (by simp))
  have hstays := State.staysInStep_of_step (s := s.e5Entered) (by simp) (by simp)
  obtain ⟨hms, hac, hpu, hsq, hmu, -, -⟩ := State.conclude_stays_frame hf' hstays old
  have htimer : t.sq.timer = s.e5Entered.stepTimer := by simp [t, hsq, State.followedSq, Step.followsGate]
  have hpulldown : t.mu.cmp.pulldown =
      if s.e5Entered.stepTimer.st = .running then Comparator.arm else Comparator.disarm := by
    simp [t, hmu, State.followedMu, e5Entered_pulldown, Comparator.disarm]
  have hreset := State.stepTimer_reset (s := s.e5Entered) (by simp)
  rw [hgate, hcause, hstep] at hreset
  refine ⟨by simpa using hms, by simpa using hac, by simpa using hpu, by simp [t, hsq], by simp [t, hsq], fun h => ?_,
    fun h => ?_⟩
  · rw [if_pos h] at hreset
    rw [htimer, hpulldown, hreset]
    exact ⟨by simp [Settings.stepTime], rfl⟩
  · have hnot : ¬(s.gate = true ∧ s.suspendCause = false) := by
      rcases h with h | h <;> simp [h]
    rw [if_neg hnot] at hreset
    rw [htimer, hpulldown, hreset]
    exact ⟨by simp [Settings.stepTime], rfl⟩

/-- However E5 is entered, the step ends in it. -/
theorem conclude_enterE5_step {s : State} (hf : s.isFoam = false) (old : State) :
    (s.enterE5.conclude old).sq.step = .e5 := by
  by_cases h : s.sq.routeB = true ∨ s.level .in3 = false
  · obtain ⟨-, -, -, hstep, -⟩ := conclude_e5Entered hf old
    rw [enterE5_kept h, hstep]
  · simp only [not_or, Bool.not_eq_true, Bool.not_eq_false] at h
    obtain ⟨-, -, -, -, -, hsq, -⟩ := State.conclude_raised (s := s.e5Entered.rerouted) .B s.claimClass
      (by simpa [State.isFoam] using hf) (by simp [Step.claims]) old
    rw [enterE5_changes h.1 h.2, hsq]
    simp

/-- The state with a repeat spent (R64). -/
def State.repeatSpent (s : State) : State :=
  s.setSq { s.sq with repeats := s.sq.repeats - 1, used := s.sq.used + 1 }

/-- Settles O35. -/
theorem riseTestEndsHold : Obligations.RiseTestEndsHold := by
  intro s hx hdue p hp
  have hf : s.isFoam = false := isFoam_of_isExtraction hx
  refine ⟨_, exec_holdTimeExpiry hdue hp, ?_⟩
  intro pass
  have hpass : riseOk s.cfg.riseLimit p s.mu.ch.c0 = true ↔ pass := riseOk_iff ..
  refine ⟨fun h => ?_, fun h h0 => ?_, fun h h0 => ?_⟩
  · have hafter : s.afterRise (riseOk s.cfg.riseLimit p s.mu.ch.c0) = s.enterE7 := by
      rw [hpass.mpr h]; rfl
    obtain ⟨hsq, hac, hpu, hms, -⟩ := State.conclude_enterE7 hf s
    rw [hafter]
    exact ⟨hsq, by rw [hms], hac, hpu⟩
  · have hfail : riseOk s.cfg.riseLimit p s.mu.ch.c0 = false :=
      Bool.eq_false_iff.mpr fun hb => h (hpass.mp hb)
    have hafter : s.afterRise (riseOk s.cfg.riseLimit p s.mu.ch.c0) =
        (s.flagActive fun f => { f with outgassingUnfinished := true }).enterE7 := by
      simp [State.afterRise, hfail, h0]
    have hf' : (s.flagActive fun f => { f with outgassingUnfinished := true }).isFoam = false := by
      simpa [State.isFoam] using hf
    obtain ⟨hsq, hac, hpu, hms, -⟩ := State.conclude_enterE7 hf' s
    rw [hafter]
    refine ⟨?_, by rw [hms], by rw [hpu]; simp, by rw [hac]; rfl⟩
    rw [hsq]
    simp [State.releaseEntered]
  · have hfail : riseOk s.cfg.riseLimit p s.mu.ch.c0 = false :=
      Bool.eq_false_iff.mpr fun hb => h (hpass.mp hb)
    have hafter : s.afterRise (riseOk s.cfg.riseLimit p s.mu.ch.c0) = s.repeatSpent.enterE5 := by
      simp [State.afterRise, hfail, Nat.pos_of_ne_zero h0, State.repeatSpent]
    have hf' : s.repeatSpent.isFoam = false := hf
    rw [hafter]
    refine ⟨?_, by simp [State.repeatSpent], by simp [State.repeatSpent], ?_, fun hkeep => ?_, fun hA h3 => ?_⟩
    · exact conclude_enterE5_step hf' s
    · exact ((State.conclude_work _ s).trans (State.enterE5_work _)).trans (State.queueWork_congr rfl)
    · rw [enterE5_kept (s := s.repeatSpent) hkeep]
      obtain ⟨hms, hac, hpu, -, hroute, hopen, hclosed⟩ := conclude_e5Entered hf' s
      exact ⟨hms, hac, hpu, hroute, hopen, hclosed⟩
    · rw [enterE5_changes (s := s.repeatSpent) hA h3]
      obtain ⟨own, -, -, -, hpu, hsq, -, -, -⟩ := State.conclude_raised (s := s.repeatSpent.e5Entered.rerouted) .B
        s.repeatSpent.claimClass (by simpa [State.isFoam] using hf') (by simp [Step.claims]) s
      exact ⟨by simp [hsq], by rw [hpu, rerouted_codes]; exact Or.inl rfl, _, own, rfl⟩

end Sys2Proof.Machine
end

section
/-! PROOF. The end of E7 (O37): the ACTIVE account is finalized and the oldest DONE account offered. -/

namespace Sys2Proof.Machine

/-- The final pressure an account gets: the first sample of E7, a free value where E7 held none (log 9). -/
def State.finalPressureGiven (s : State) : Nat :=
  match s.sq.finalPressure with
  | some p => p
  | none => (Config.unsampledFinalPressure s.free).toNat

theorem State.finalPressureGiven_sampled {s : State} {p : Nat} (h : s.sq.finalPressure = some p) :
    s.finalPressureGiven = p := by
  simp [State.finalPressureGiven, h]

theorem finalize_queue (s : State) : s.finalize.ac.queue = s.ac.queue.map fun e => if e.st = .active then
    finalizeEntry s.cfg.yieldLimit s.finalPressureGiven (1 + s.sq.used) s.sq.seconds e else e := by
  cases h : s.sq.finalPressure <;> simp [State.finalize, State.finalPressureGiven, h, State.onActive, State.nextFree]

/-- An offer that is idle goes out for the oldest DONE account to a LIVE downstream station (R134). -/
theorem tryOffer_places {s : State} (hx : s.isExtraction = true) (hr : s.inRun = true) (ho : s.ac.offer.st = .idle)
    (hd : (s.peer s.cfg.downstream).presence = .live) {e : QueueEntry}
    (he : s.ac.queue.find? (fun x => x.st == .done) = some e) :
    s.tryOffer = (s.setOffer { s.ac.offer with st := .queued, key := some e.account.key }).send .offer
      s.cfg.downstream (e.account.body false) := by
  simp [State.tryOffer, hx, hr, ho, hd, he]

/-- The OFFER of a placed offer waits at the end of its step, even in a full queue (R163, R166). -/
theorem State.offer_waits (s : State) (dst : Nat) (p : List Byte) (old : State) :
    ((s.send .offer dst p).announceIf false old).waits .offer dst p := by
  have hcls : Kind.offer.cls ≠ 3 := by decide
  have hself := Line.mem_enqueue_self (l := s.li)
    (t := { kind := .offer, dst := dst, payload := p, cls := Kind.offer.cls }) (by simp) (by simp) (by simp) (Or.inr hcls)
  exact ⟨_, State.mem_announceIf hself (by simp) (Or.inr ⟨hcls, rfl⟩) false old, rfl, rfl, rfl⟩

/-- A step that ends with the end of E7. -/
theorem endRelease_conclude {s : State} (hf : s.isFoam = false) (old : State) :
    s.endRelease.conclude old = s.endRelease.announceIf false old := by
  refine State.conclude_e0 (by simpa [State.isFoam] using hf) ?_ old
  simp [State.endRelease]

theorem endRelease_queue (s : State) : s.endRelease.ac.queue = s.finalize.ac.queue := by simp [State.endRelease]

/-- Settles O37: both ways out of E7 take the same end, which is read off the queue and the offer it leaves. -/
theorem releaseEndFinalizesTheAccount : Obligations.ReleaseEndFinalizesTheAccount := by
  intro s c hx hc
  obtain ⟨v, hv, hexec⟩ : ∃ v : State, (v = s ∨ v = s.edge .in2) ∧ exec c s = .next (v.endRelease.conclude s) := by
    rcases hc with ⟨rfl, hdue⟩ | ⟨rfl, hstep, hp, he⟩
    · exact ⟨s, Or.inl rfl, by simp [exec, execReleaseTimeExpiry, hdue]⟩
    · exact ⟨s.edge .in2, Or.inr rfl, by rw [exec_clcFall hx hp he]; simp [State.clampOpened, hstep]⟩
  have same : v.boot = s.boot ∧ v.cfg = s.cfg ∧ v.pt = s.pt ∧ v.sq = s.sq ∧ v.ac = s.ac ∧ v.ms = s.ms ∧ v.ch = s.ch ∧
      v.pu = s.pu ∧ v.rs = s.rs := by
    rcases hv with rfl | rfl <;> simp
  obtain ⟨hboot, hcfg, hpt, hsq, hac, hms, hch, hpu, hrs⟩ := same
  have hf : v.isFoam = false := by simpa [State.isFoam, hcfg] using isFoam_of_isExtraction hx
  rw [endRelease_conclude hf] at hexec
  have hqueue : (v.endRelease.announceIf false s).ac.queue = v.finalize.ac.queue := by simp [endRelease_queue]
  refine ⟨_, hexec, ⟨v.finalPressureGiven, fun p h => ?_, ?_⟩, ?_, ?_, fun hr ho hd e he => ?_, ?_, ?_, ?_, ?_⟩
  · exact State.finalPressureGiven_sampled (by rw [hsq, h])
  · rw [hqueue, finalize_queue, hac, hcfg, hsq]
    rfl
  · rw [active_none_iff, hqueue]
    exact activeCount_finalize v
  · simp [State.endRelease]
  · rw [hqueue] at he
    have hplaced : v.endRelease = _ := tryOffer_places (s := v.finalize.setSq {})
      (by simpa [State.isExtraction, hcfg] using hx) (by simpa [State.inRun, State.phase, hboot] using hr)
      (by simpa [hac] using ho) (by simpa [State.peer, hpt, hcfg] using hd) (by simpa using he)
    rw [hplaced]
    refine ⟨by simp [State.setOffer], by simp [State.setOffer], ?_⟩
    simpa [hcfg] using State.offer_waits _ _ _ s
  all_goals simpa

end Sys2Proof.Machine
end

section
/-! PROOF. The interlock (O28): both edges of ILK close or open the drive gate, and SQ follows within its step, except
for a seat found standing in E4 and an E3 without a classify time. -/

namespace Sys2Proof.Machine

/-! ### The edge of ILK -/

section
variable {s : State}

/-- After a falling ILK the gate is closed (R67). -/
theorem edge_ilk_closes (h : (s.filter .ilk).edgeDue false = true) : (s.edge .ilk).gate = false := by
  simp [State.gate, State.level_of_edgeDue h]

/-- After a rising ILK the gate is as DE has it (R68). -/
theorem edge_ilk_opens (h : (s.filter .ilk).edgeDue true = true) : (s.edge .ilk).gate = s.pu.de := by
  simp [State.gate, State.level_of_edgeDue h]

/-- What SQ reads beside the gate is as before an edge of ILK. -/
theorem edge_ilk_views (s : State) :
    (s.edge .ilk).ownSeated = s.ownSeated ∧ (s.edge .ilk).promoted = s.promoted ∧
    (s.edge .ilk).suspendCause = s.suspendCause ∧ (s.edge .ilk).level .in3 = s.level .in3 :=
  ⟨State.ownSeated_congr (by simp) (by simp), State.promoted_congr (by simp),
    State.suspendCause_congr (by simp) (by simp), State.edge_level_ne s (by decide)⟩

/-- What SQ keeps at the end of a step with an edge, in every step of the sequence. -/
theorem conclude_edge_keeps (s : State) (p : Pin) (old : State) :
    let t := (s.edge p).conclude old
    t.queueWork = s.queueWork ∧ t.ms.listA = s.ms.listA ∧ t.ms.listB = s.ms.listB
      ∧ t.sq.used = s.sq.used ∧ t.sq.repeats = s.sq.repeats ∧ t.sq.clampHold = s.sq.clampHold
      ∧ t.sq.clock = s.sq.clock := by
  refine ⟨(State.conclude_work _ old).trans (State.queueWork_congr (by simp)), ?_⟩
  simp

end

/-! ### The reactions that leave their step -/

/-- However E5 is entered, it is the step. -/
theorem enterE5_step (s : State) : s.enterE5.sq.step = .e5 := by
  by_cases h : s.sq.routeB = true ∨ s.level .in3 = false
  · simp [enterE5_kept h]
  · simp only [not_or, Bool.not_eq_true, Bool.not_eq_false] at h
    simp [enterE5_changes h.1 h.2]

theorem endClassify_step (s : State) : s.endClassify.sq.step = .e4 := by
  simp [endClassify_eq, classified_sq]

/-- A seat found standing in E4 leads to E5 (R59). -/
theorem conclude_seated {s : State} (hf : s.isFoam = false) (h4 : s.sq.step = .e4) (hs : s.ownSeated = true)
    (old : State) : (s.conclude old).sq.step = .e5 := by
  simp [State.conclude_extraction hf, State.settleExtraction, h4, State.settleE4, hs, enterE5_step]

/-- An E3 without a classify time whose timer stands reset ends when the gate opens (R56, log 15). -/
theorem conclude_unclassified {s : State} (hf : s.isFoam = false) (h3 : s.sq.step = .e3)
    (hc : s.cfg.classifyTime = 0) (ht : s.sq.timer = Timer.reset 0) (hg : s.gate = true) (old : State) :
    (s.conclude old).sq.step = .e4 := by
  have hsus : s.suspended = false := State.suspended_outside (by simp [h3]) (by simp [h3]) (by simp [h3])
  have hdue : s.stepTimer.due = true := by
    rw [State.stepTimer_resumed hg hsus, ht]
    rfl
  simp [State.conclude_extraction hf, State.settleExtraction, h3, State.settleE3, hc, hdue, endClassify_step]

/-- The drive gate outlasts the end of a step in which DE follows its rule (R144). -/
theorem conclude_gate {s : State} (hf : s.isFoam = false) (h : s.pu.de = s.driveRule) (old : State) :
    (s.conclude old).gate = s.gate := by
  have harmless : ∀ c ∈ [6, 7], TripSource.ofCode c = none ∧ isFatal c = false := by decide
  refine State.gate_congr ?_ (by simp)
  rw [(s.conclude_pu old).de h, h]
  exact driveRule_of_harmless (by simp) (by simp) harmless (conclude_reacts hf old).codes

/-! ### The purge path -/

/-- A MANIFOLD purge path goes to VENT when the gate is closed (R93). -/
theorem chamberMoves_vents {s : State} (hst : s.ch.st = .purging) (hp : s.ch.path = .manifold) (hg : s.gate = false)
    (n : Nat) : s.chamberMoves (n + 1) = s.pathToVent := by
  have hmove : s.chamberMove = some s.pathToVent := by simp [State.chamberMove, hst, hp, hg]
  have hstays : s.pathToVent.chamberMove = none := by simp [State.chamberMove, hst, State.pathToVent]
  rw [State.chamberMoves, hmove]
  cases n with
  | zero => rfl
  | succ n => simp [State.chamberMoves, hstays]

/-- The same at the end of a step, with its code. -/
theorem conclude_vents {s : State} (hf : s.isFoam = true) (hw : s.ch.pending = false) (hst : s.ch.st = .purging)
    (hp : s.ch.path = .manifold) (hg : s.gate = false) (old : State) :
    (s.conclude old).ch.st = .purging ∧ (s.conclude old).ch.path = .vent ∧ 25 ∈ (s.conclude old).pu.codes := by
  have hmoves := chamberMoves_vents hst hp hg 5
  simp [State.conclude, State.concludeIf, State.settle, hf, State.settleChamber, hw, hmoves, hst, State.pathToVent,
    mem_insertCode]

/-! ### Both edges (O28) -/

section
variable {s : State}

theorem exec_ilkFall (hp : s.phase ≠ .hold) (he : (s.filter .ilk).edgeDue false = true) :
    exec .ilkFall s = .next ((s.edge .ilk).conclude s) := by
  simp [exec, execIlkFall, State.takesEdge, hp, he]

theorem exec_ilkRise (hp : s.phase ≠ .hold) (he : (s.filter .ilk).edgeDue true = true) :
    exec .ilkRise s = .next ((s.edge .ilk).conclude s) := by
  simp [exec, execIlkRise, State.takesEdge, hp, he]

/-- Where SQ stays in its step, an edge of ILK changes the sequence and MU as SQ follows it. -/
theorem conclude_ilk_stays (hf : s.isFoam = false) (h : (s.edge .ilk).staysInStep) :
    let t := (s.edge .ilk).conclude s
    t.ms = s.ms ∧ t.ac = s.ac ∧ t.pu = s.pu ∧ t.sq = (s.edge .ilk).followedSq ∧ t.mu = (s.edge .ilk).followedMu := by
  have hf' : (s.edge .ilk).isFoam = false := by simpa [State.isFoam] using hf
  obtain ⟨hms, hac, hpu, hsq, hmu, -, -⟩ := State.conclude_stays_frame hf' h s
  exact ⟨by simpa using hms, by simpa using hac, by simpa using hpu, hsq, hmu⟩

/-- The detected mark after an edge of ILK (R56). -/
theorem followedSq_ilk_detected (s : State) :
    (s.edge .ilk).followedSq.detected = (s.sq.detected || (s.sq.step == .e3 && s.level .in3)) := by
  obtain ⟨-, -, -, hlevel⟩ := edge_ilk_views s
  rw [State.followedSq_detected, hlevel]
  simp

/-- The step timer after an edge of ILK, in a step with one (R52). -/
theorem followedSq_ilk_timer (h : s.sq.step = .e1 ∨ s.sq.step = .e3 ∨ s.sq.step = .e5 ∨ s.sq.step = .e6) :
    (s.edge .ilk).followedSq.timer = (s.edge .ilk).stepTimer := by
  simp [State.followedSq, Step.followsGate_iff.mpr h]

/-- SQ stays in its step over a falling ILK, a standing seat in E4 apart. -/
theorem staysInStep_ilkFall (he : (s.filter .ilk).edgeDue false = true)
    (h : ¬(s.sq.step = .e4 ∧ s.ownSeated = true)) : (s.edge .ilk).staysInStep := by
  obtain ⟨hseat, -, -, -⟩ := edge_ilk_views s
  refine ⟨?_, ?_⟩
  · simpa [hseat] using h
  · simp [edge_ilk_closes he]

/-- SQ stays in its step over any edge of ILK, a standing seat in E4 and an E3 without a classify time apart. -/
theorem staysInStep_ilkEdge (h4 : ¬(s.sq.step = .e4 ∧ s.ownSeated = true))
    (h3 : ¬(s.sq.step = .e3 ∧ s.cfg.classifyTime = 0)) : (s.edge .ilk).staysInStep := by
  obtain ⟨hseat, -, -, -⟩ := edge_ilk_views s
  refine ⟨by simpa [hseat] using h4, fun h => h3 ?_⟩
  simpa using And.intro h.1 h.2.1

/-- What the falling edge makes of an EXTRACTION station's sequence (R67, R69). -/
theorem ilkFall_follows (hf : s.isFoam = false) (he : (s.filter .ilk).edgeDue false = true)
    (h : ¬(s.sq.step = .e4 ∧ s.ownSeated = true)) :
    let t := (s.edge .ilk).conclude s
    (s.sq.step = .e4 ∨ s.sq.step = .e5 ∨ s.sq.step = .e6 →
        t.sq.starve = if s.ownSeated = true ∨ s.promoted = true then Timer.stopped
          else if s.sq.starve.st = .stopped then s.sq.starve else Timer.reset (1000 * s.cfg.starvationLimit))
    ∧ (s.sq.step = .e1 ∨ s.sq.step = .e3 ∨ s.sq.step = .e5 ∨ s.sq.step = .e6 →
        s.sq.timer.st ≠ .stopped → t.sq.timer = Timer.reset (s.cfg.stepTime s.sq.step))
    ∧ (s.sq.step = .e2 → t.mu.window = {})
    ∧ (s.sq.step = .e5 → t.mu.cmp.pulldown = Comparator.disarm)
    ∧ (s.sq.step = .e6 → t.sq.riseCount = 0 ∧ t.sq.pStart = none)
    ∧ (s.sq.step = .e7 → t.sq = s.sq) := by
  intro t
  have hgate := edge_ilk_closes he
  obtain ⟨hseat, hprom, -, -⟩ := edge_ilk_views s
  obtain ⟨-, -, -, hsq, hmu⟩ := conclude_ilk_stays hf (staysInStep_ilkFall he h)
  have hstill := State.stepTimer_closed_st hgate
  refine ⟨fun hst => ?_, fun hst ht => ?_, fun hst => ?_, fun hst => ?_, fun hst => ?_, fun hst => ?_⟩
  · rw [hsq, State.followedSq_starve (by simpa using Step.claims_iff.mpr hst)]
    by_cases hstop : s.ownSeated = true ∨ s.promoted = true
    · rw [if_pos hstop, State.starveTimer_stopped (by simpa [hseat, hprom] using hstop)]
    · simp only [not_or, Bool.not_eq_true] at hstop
      rw [State.starveTimer_closed (by rw [hseat, hstop.1]) (by rw [hprom, hstop.2]) hgate]
      simp [hstop]
  · rw [hsq, followedSq_ilk_timer hst, State.stepTimer_closed hgate (by simpa using ht)]
    simp
  · simp [t, hmu, State.followedMu, hst, hgate]
  · simp [t, hmu, State.followedMu, hst, hstill]
  · simp [t, hsq, State.followedSq, hst, hgate]
  · rw [hsq, State.followedSq_still (Or.inr (Or.inr (by simpa using hst)))]
    simp

/-- What the rising edge makes of the step timer of an EXTRACTION station (R52, R66, R68). -/
theorem ilkRise_timer (hf : s.isFoam = false) (hg : (s.edge .ilk).gate = true)
    (hst : s.sq.step = .e1 ∨ (s.sq.step = .e3 ∧ s.cfg.classifyTime ≠ 0) ∨ s.sq.step = .e5 ∨ s.sq.step = .e6) :
    ((s.edge .ilk).conclude s).sq.timer =
      if (s.sq.step = .e5 ∨ s.sq.step = .e6) ∧ s.suspendCause = true then s.sq.timer.hold
      else s.sq.timer.resume := by
  obtain ⟨-, -, hcause, -⟩ := edge_ilk_views s
  have hstays : (s.edge .ilk).staysInStep := by
    rcases hst with h | ⟨h, hc⟩ | h | h
    · exact staysInStep_ilkEdge (by simp [h]) (by simp [h])
    · exact staysInStep_ilkEdge (by simp [h]) (by simp [hc])
    · exact staysInStep_ilkEdge (by simp [h]) (by simp [h])
    · exact staysInStep_ilkEdge (by simp [h]) (by simp [h])
  obtain ⟨-, -, -, hsq, -⟩ := conclude_ilk_stays hf hstays
  have hsus : (s.edge .ilk).suspended = decide ((s.sq.step = .e5 ∨ s.sq.step = .e6) ∧ s.suspendCause = true) := by
    rcases hst with h | ⟨h, -⟩ | h | h <;> simp [State.suspended, hcause, h]
  rw [hsq, followedSq_ilk_timer (by tauto)]
  by_cases hs : (s.sq.step = .e5 ∨ s.sq.step = .e6) ∧ s.suspendCause = true
  · rw [if_pos hs, State.stepTimer_held hg (by simp [hsus, hs])]
    simp
  · rw [if_neg hs, State.stepTimer_resumed hg (by simp only [hsus, hs, decide_false])]
    simp

/-- A step timer that the closed gate has reset starts from full when ILK rises, unless SUSPEND applies (R52, R68). -/
theorem ilkRise_timer_full (hf : s.isFoam = false) (hg : (s.edge .ilk).gate = true)
    (hst : s.sq.step = .e1 ∨ (s.sq.step = .e3 ∧ s.cfg.classifyTime ≠ 0)
      ∨ ((s.sq.step = .e5 ∨ s.sq.step = .e6) ∧ s.suspendCause = false))
    (ht : s.sq.timer = Timer.reset (s.cfg.stepTime s.sq.step)) :
    ((s.edge .ilk).conclude s).sq.timer = Timer.start (s.cfg.stepTime s.sq.step) := by
  have hnot : ¬((s.sq.step = .e5 ∨ s.sq.step = .e6) ∧ s.suspendCause = true) := by
    rcases hst with h | ⟨h, -⟩ | ⟨-, h⟩ <;> simp [h]
  rw [ilkRise_timer hf hg (by tauto), if_neg hnot, ht, Timer.resume_reset]

end

/-- Settles O28: each edge is the end of a step over `s.edge .ilk`, whose gate the edge has closed or opened. -/
theorem interlockResetsAndRestartsTheStep : Obligations.InterlockResetsAndRestartsTheStep := by
  intro s hp
  obtain ⟨hseat, hprom, hcause, -⟩ := edge_ilk_views s
  have hkeeps := conclude_edge_keeps s .ilk s
  refine ⟨fun he => ?_, fun he => ?_⟩
  · have hgate := edge_ilk_closes he
    have hlevel : ((s.edge .ilk).conclude s).level .ilk = false := State.level_conclude_edge he rfl s
    refine ⟨_, exec_ilkFall hp he, hlevel, by simp [State.gate, hlevel], fun hf => ?_, fun hf hw hpath => ?_⟩
    · have hf' : (s.edge .ilk).isFoam = false := by simpa [State.isFoam] using hf
      have follows (h4 : s.sq.step ≠ .e4) := ilkFall_follows hf he fun h => h4 h.1
      refine ⟨hkeeps, ?_, fun h => ?_, fun hst => ?_, fun hst => ?_, fun hst => ?_, fun hst => ?_, fun hst => ?_⟩
      · split
        next h => exact conclude_seated hf' (by simpa using h.1) (by simpa [hseat] using h.2) s
        next h =>
          obtain ⟨-, -, -, hsq, -⟩ := conclude_ilk_stays hf (staysInStep_ilkFall he h)
          simp [hsq]
      · obtain ⟨hms, hac, hpu, hsq, -⟩ := conclude_ilk_stays hf (staysInStep_ilkFall he h)
        obtain ⟨hstarve, -⟩ := ilkFall_follows hf he h
        exact ⟨hms, hac, hpu, by simp [hsq], by rw [hsq, followedSq_ilk_detected], hstarve⟩
      · obtain ⟨-, htimer, -⟩ := follows (by rcases hst with h | h | h | h <;> simp [h])
        exact htimer hst
      · obtain ⟨-, -, hwindow, -⟩ := follows (by simp [hst])
        exact hwindow hst
      · obtain ⟨-, -, -, hpulldown, -⟩ := follows (by simp [hst])
        exact hpulldown hst
      · obtain ⟨-, -, -, -, hcounts, -⟩ := follows (by simp [hst])
        exact hcounts hst
      · obtain ⟨-, -, -, -, -, hrelease⟩ := follows (by simp [hst])
        exact hrelease hst
    · simp only [State.ownPurgePath, Bool.and_eq_true, beq_iff_eq] at hpath
      exact conclude_vents (by simpa [State.isFoam] using hf) (by simpa using hw) (by simpa using hpath.1)
        (by simpa using hpath.2) hgate s
  · refine ⟨_, exec_ilkRise hp he, State.level_conclude_edge he rfl s, fun hde hrule hf => ?_⟩
    have hgate : (s.edge .ilk).gate = true := (edge_ilk_opens he).trans hde
    have hf' : (s.edge .ilk).isFoam = false := by simpa [State.isFoam] using hf
    have hrule' : (s.edge .ilk).pu.de = (s.edge .ilk).driveRule := by
      rw [State.driveRule_congr (s := s) (by simp) (by simp) (by simp), ← hrule]
      simp
    refine ⟨(conclude_gate hf' hrule' s).trans hgate, hkeeps, fun h4 h3 => ?_, fun hst ht => ?_, fun hst => ?_,
      fun hst hc ht => ?_, fun hst hc ht => ?_, ilkRise_timer_full hf hgate, fun hst hs hpr hstarve => ?_,
      fun hst hs ht => ⟨?_, ?_⟩, fun hst hs ht => ?_, fun hst hs ht => ?_⟩
    · obtain ⟨hms, hac, hpu, hsq, -⟩ := conclude_ilk_stays hf (staysInStep_ilkEdge h4 h3)
      exact ⟨hms, hac, hpu, by simp [hsq], by simp [hsq], by rw [hsq, followedSq_ilk_detected]⟩
    · rw [ilkRise_timer hf hgate (Or.inl hst), if_neg (by simp [hst]), Timer.resume_held ht]
    · obtain ⟨-, -, -, -, hmu⟩ := conclude_ilk_stays hf (staysInStep_ilkEdge (by simp [hst]) (by simp [hst]))
      simp [hmu, State.followedMu, hst, hgate]
    · rw [ilkRise_timer hf hgate (Or.inr (Or.inl ⟨hst, hc⟩)), if_neg (by simp [hst]), Timer.resume_held ht]
    · exact conclude_unclassified hf' (by simpa using hst) (by simpa using hc) (by simpa using ht) hgate s
    · have hstays := staysInStep_ilkEdge (s := s) (by simp [hs]) (by rcases hst with h | h | h <;> simp [h])
      obtain ⟨-, -, -, hsq, -⟩ := conclude_ilk_stays hf hstays
      rw [hsq, State.followedSq_starve (by simpa using Step.claims_iff.mpr hst),
        State.starveTimer_start (by rw [hseat, hs]) (by rw [hprom, hpr]) hgate (by simpa using hstarve)]
      simp
    · rw [ilkRise_timer hf hgate (by simp [hst]), if_neg (by simp [hs]), Timer.resume_held ht]
    · have hsus : (s.edge .ilk).suspended = false := by rw [State.suspended_eq (by simp [hst]), hcause, hs]
      obtain ⟨-, -, -, -, hmu⟩ := conclude_ilk_stays hf (staysInStep_ilkEdge (by simp [hst]) (by simp [hst]))
      simp [hmu, State.followedMu, hst, State.stepTimer_resumed hgate hsus, Timer.resume_held ht, Timer.start]
    · rw [ilkRise_timer hf hgate (by tauto), if_pos ⟨hst, hs⟩, Timer.hold_held ht]
    · rw [ilkRise_timer hf hgate (by simp [hst]), if_neg (by simp [hs]), Timer.resume_held ht]

end Sys2Proof.Machine
end

section
/-! SUPPORT. The end of a step at a FOAM station at work: the changes of state one after another until the chamber
rests, then the sweep timer, the carry-over timers and the quiet comparator as the route valve stands (R86, R96,
R97). -/

namespace Sys2Proof.Machine

/-! ### The conditions of a change -/

section
variable {s : State}

/-- The causes that halt a chamber outside INERTING (R90). -/
theorem State.haltCause_eq_false_iff {st : ChamberState} (hst : st ≠ .inerting) :
    s.haltCause st = false ↔ s.pu.de = true ∧ s.pt.ownHazard ≠ .stop ∧ s.mu.cmp.oxygenHigh.met = false := by
  simp [State.haltCause, hst, and_assoc]

/-- A chamber in INERTING is halted by DE and the own hazard alone (R90). -/
theorem State.haltCause_inerting_eq_false (hde : s.pu.de = true) (hh : s.pt.ownHazard ≠ .stop) :
    s.haltCause .inerting = false := by
  simp [State.haltCause, hde, hh]

/-- The conditions of ENTRY (R82). -/
theorem State.entryConditions_iff : s.entryConditions = true ↔
    s.headClass = some s.ch.cls ∧ s.ac.chamber.length < 3 ∧ s.srp = true ∧ s.level .in3 = true
      ∧ (s.ch.cls ≠ .hc ∨ s.lineHazard ≠ .stop) ∧ s.ch.doorOpen = false := by
  unfold State.entryConditions
  cases s.headClass with
  | none => simp
  | some c =>
    by_cases hc : c = s.ch.cls
    · subst hc
      simp
      tauto
    · simp [hc]

theorem ChamberClass.ne_iff_other {c d : ChamberClass} : c ≠ d ↔ c = d.other := by
  cases c <;> cases d <;> simp [ChamberClass.other]

/-- The conditions of SWEEP (R86). -/
theorem State.sweepConditions_iff : s.sweepConditions = true ↔
    s.headClass = some s.ch.cls.other ∧ s.ac.chamber = [] ∧ s.ch.sweepRetry.st ≠ .running
      ∧ s.haltCause .ready = false := by
  unfold State.sweepConditions
  cases s.headClass with
  | none => simp
  | some c => simp [ChamberClass.ne_iff_other, and_assoc]

/-- The conditions on which HALTED ends (R91). -/
theorem State.haltEnds_iff : s.haltEnds = true ↔
    s.mu.cmp.oxygenUnder.met = true ∧ s.pt.ownHazard ≠ .stop ∧ s.pu.de = true := by
  simp [State.haltEnds, and_assoc]

/-! ### One change, state by state -/

theorem State.chamberMove_inerting (h : s.ch.st = .inerting) : s.chamberMove =
    if s.haltCause .inerting then some s.enterHalted
    else if s.ch.zeroDone && s.mu.cmp.inert.met then some s.enterReady else none := by
  simp only [State.chamberMove, h]

theorem State.chamberMove_ready (h : s.ch.st = .ready) : s.chamberMove =
    if s.haltCause .ready then some s.enterHalted
    else if s.entryConditions then some s.enterEntry
    else if s.sweepConditions then some s.enterSweep else none := by
  simp only [State.chamberMove, h]

theorem State.chamberMove_entry (h : s.ch.st = .entry) : s.chamberMove =
    if s.haltCause .entry then some s.enterHalted
    else if !s.ch.doorOpen && !(s.srp && s.level .in3) then
      some ((s.setCh { s.ch with door := Timer.stopped }).enterReady)
    else none := by
  simp only [State.chamberMove, h]

theorem State.chamberMove_sweep (h : s.ch.st = .sweep) : s.chamberMove =
    if s.haltCause .sweep then some s.enterHalted
    else if !s.ch.sweepWait.isStopped && s.ownSeated then some s.startSweep else none := by
  simp only [State.chamberMove, h]

theorem State.chamberMove_halted (h : s.ch.st = .halted) : s.chamberMove =
    if s.haltEnds then some s.enterInerting else none := by
  simp only [State.chamberMove, h]

theorem State.chamberMove_purging (h : s.ch.st = .purging) : s.chamberMove =
    if s.ch.path = .manifold ∧ s.gate = false then some s.pathToVent else none := by
  simp only [State.chamberMove, h]

/-! ### Changes one after another -/

/-- A chamber at rest stays. -/
theorem State.chamberMoves_of_none (h : s.chamberMove = none) (n : Nat) : s.chamberMoves n = s := by
  cases n with
  | zero => rfl
  | succ n => simp only [State.chamberMoves, h]

theorem State.chamberMoves_of_some {t : State} (h : s.chamberMove = some t) (n : Nat) :
    s.chamberMoves (n + 1) = t.chamberMoves n := by
  simp only [State.chamberMoves, h]

/-- A chamber that has just entered INERTING rests there without a halt cause (R78). -/
theorem State.enterInerting_rests (hde : s.pu.de = true) (hh : s.pt.ownHazard ≠ .stop) :
    s.enterInerting.chamberMove = none := by
  have hc : s.enterInerting.haltCause .inerting = false :=
    State.haltCause_inerting_eq_false (by simpa using hde) (by simpa using hh)
  rw [State.chamberMove_inerting (by simp), hc]
  simp [State.enterInerting]

/-- What INERTING begins with (R78). -/
theorem State.enterInerting_spec (s : State) : s.enterInerting.ch.zeroDone = false ∧
    s.enterInerting.mu.window = Window.opened ∧ s.enterInerting.mu.cmp.inert = Comparator.arm ∧
    s.enterInerting.ms.own = none := by
  simp [State.enterInerting, State.setInert]

/-- What READY begins with (R77, R80). -/
theorem State.enterReady_spec (s : State) : s.enterReady.mu.cmp.inert = Comparator.disarm ∧
    s.enterReady.ms.own = some (match s.ms.own with
      | some c => c
      | none => ⟨s.ch.cls.route, .priority, min s.cfg.ownDemand (s.cfg.cap s.ch.cls.route)⟩) ∧
    (s.ms.own = none → s.enterReady.ownSeated = false) := by
  cases h : s.ms.own <;> simp [State.enterReady, State.setChamberState, State.setInert, h, State.chamberRoute]

end

/-! ### What follows the route valve -/

@[simp] theorem Timer.follow_isStopped (t : Timer) (b : Bool) : (t.follow b).isStopped = t.isStopped := by
  cases h : t.st <;> cases b <;> simp [Timer.follow, Timer.resume, Timer.hold, Timer.isStopped, h]

/-- A timer at its full time runs while the valve is on and is held while it is off (R32). -/
theorem Timer.follow_full {t : Timer} {ms : Nat} (h : t = Timer.start ms ∨ t = Timer.reset ms) (b : Bool) :
    t.follow b = if b = true then Timer.start ms else Timer.reset ms := by
  rcases h with rfl | rfl <;> cases b <;> rfl

/-- The valve of the chamber route reads the gate, the seat and the chamber (R75, R76). -/
theorem State.chamberValve_congr {s t : State} (hc : t.cfg = s.cfg) (hb : t.boot = s.boot) (hm : t.ms = s.ms)
    (hg : t.gate = s.gate) (hst : t.ch.st = s.ch.st) (hp : t.ch.pending = s.ch.pending) (hpath : t.ch.path = s.ch.path)
    (hsw : t.ch.sweep.isStopped = s.ch.sweep.isStopped) : t.chamberValve = s.chamberValve := by
  simp only [State.chamberValve, State.chamberValveCommand, State.ownPurgePath, State.purgeInProgress,
    State.isFoam, State.ownSeated_congr hm hb, hc, hm, hg, hst, hp, hpath, hsw]

/-- A FOAM station draws upon the valve of its chamber route alone (R75). -/
theorem State.valves_iff {s : State} (hf : s.isFoam = true) (hp : s.ch.pending = false) :
    s.valveA = true ∨ s.valveB = true ↔ s.chamberValve = true := by
  rw [State.valveA_foam hf hp, State.valveB_foam hf hp, State.chamberValve_iff hf hp]
  cases s.ch.cls <;> simp

/-- No carry-over timer runs while the valve is off, and none is due (R96). -/
theorem closeDue_held (l : List ChamberEntry) (s : State) : State.closeDue (followCarry false l) s = s := by
  induction l with
  | nil => rfl
  | cons e es ih =>
    have hdue : (e.carry.follow false).due = false := by
      cases h : e.carry.st <;> simp [Timer.follow, Timer.hold, Timer.due, h]
    simpa [followCarry, State.closeDue, hdue] using ih

/-- The carry-over timers follow the valve, and with a carry-over above 0 or the valve off no account closes
(R96, log 15). -/
theorem State.settleCarry_eq {s : State} (h : s.cfg.carryOver ≠ 0 ∨ s.chamberValve = false) :
    s.settleCarry = s.setChamberList (followCarry s.chamberValve s.ac.chamber) := by
  simp only [State.settleCarry]
  split
  next hc =>
    have hoff : s.chamberValve = false := h.resolve_left fun hn => hn hc
    rw [hoff, State.setChamberList_chamber, closeDue_held]
  next => rfl

/-- Outside SWEEP nothing follows the valve but the chamber list (R86). -/
theorem State.settleSweep_of_ne {s : State} (h : s.ch.st ≠ .sweep) : s.settleSweep = s := if_neg h

/-! ### The end of the step -/

section
variable {s u : State} (hf : s.isFoam = true) (hp : s.ch.pending = false) (hu : s.chamberMoves 6 = u) (b : Bool)
  (old : State)
include hf hp hu

/-- What the end of a step makes of a chamber that rests as `u`: the sweep timer follows the valve, the rest of the
chamber, the own claim, PU, the window and the comparator of INERTING stand (R86). -/
theorem State.concludeIf_rest :
    (s.concludeIf b old).ch = (u.settleSweep).ch ∧ (s.concludeIf b old).ms = u.ms ∧
    (s.concludeIf b old).pu = u.pu ∧ (s.concludeIf b old).mu.window = u.mu.window ∧
    (s.concludeIf b old).mu.cmp.inert = u.mu.cmp.inert := by
  simp [State.concludeIf, State.settle, hf, State.settleChamber, hp, hu]

/-- The valve of the chamber route is then as the chamber at rest commands it. -/
theorem State.concludeIf_chamberValve : (s.concludeIf b old).chamberValve = u.chamberValve := by
  obtain ⟨hch, hms, hpu, -, -⟩ := State.concludeIf_rest hf hp hu b old
  have hsweep : u.settleSweep.ch.sweep.isStopped = u.ch.sweep.isStopped := by
    unfold State.settleSweep
    split <;> simp
  subst hu
  refine State.chamberValve_congr (by simp) (by simp) hms (State.gate_congr (by rw [hpu]) (by simp)) ?_ ?_ ?_ ?_ <;>
    rw [hch]
  · simp
  · simp
  · simp
  · exact hsweep

/-- So is the chamber list, its carry-over timers apart, and nothing joins the commit queue (R96, log 15). -/
theorem State.concludeIf_chamberList (h : s.cfg.carryOver ≠ 0 ∨ u.chamberValve = false) :
    (s.concludeIf b old).ac.chamber = followCarry u.chamberValve u.ac.chamber ∧ (s.concludeIf b old).rs = s.rs := by
  have hvalve : u.settleSweep.chamberValve = u.chamberValve := by
    refine State.chamberValve_congr (by simp) (by simp) (by simp) (State.gate_congr (by simp) (by simp)) (by simp)
      (by simp) (by simp) ?_
    unfold State.settleSweep
    split <;> simp
  subst hu
  have hcarry := State.settleCarry_eq (s := (s.chamberMoves 6).settleSweep) (by simpa [hvalve] using h)
  simp [State.concludeIf, State.settle, hf, State.settleChamber, hp, hcarry, hvalve]

/-- A telegram that waits when the chamber rests still waits, unless the STATUS drops it from a full queue (R166). -/
theorem State.mem_concludeIf {m : Telegram} (hm : m ∈ u.li.queue) (hk : m.kind ≠ .status)
    (h : u.li.room = true ∨ m.cls ≠ 3 ∧ m.kind.isOwnClaim = false) : m ∈ (s.concludeIf b old).li.queue := by
  have hli : s.settle.li = u.li := by simp [State.settle, hf, State.settleChamber, hp, hu]
  exact State.mem_announceIf (by rwa [hli]) hk (by rwa [hli]) _ _

/-- The seat of a claim is reported as the chamber at rest has it. -/
theorem State.concludeIf_ownSeated : (s.concludeIf b old).ownSeated = u.ownSeated := by
  obtain ⟨-, hms, -⟩ := State.concludeIf_rest hf hp hu b old
  subst hu
  exact State.ownSeated_congr hms (by simp)

end

/-- A work list of the chamber list does not read the carry-over timers. -/
theorem chamberWork_followCarry {s t : State} {on : Bool} {l : List ChamberEntry}
    (h : t.ac.chamber = followCarry on l) (hl : s.ac.chamber = l) : t.chamberWork = s.chamberWork := by
  simp [State.chamberWork, h, hl, followCarry]

end Sys2Proof.Machine
end

section
/-! SUPPORT. What waits in the transmit queue at the end of a step at a FOAM station: the STATUS that tells of it, and
the telegrams of a claim, a release or a purge sent within it (R127, R163 to R166). -/

namespace Sys2Proof.Machine

/-! ### The STATUS of a step -/

/-- A STATUS waits once it is enqueued: in the place of the one before it, in a free place, or as a full queue makes
room for it (R164, R166). -/
theorem Line.enqueue_status {l : Line} {t : Telegram} (hk : t.kind = .status) (hc : t.cls ≠ 3) :
    ∃ m ∈ (l.enqueue t).queue, m.kind = .status ∧ m.dst = t.dst ∧ m.payload = t.payload := by
  simp only [Line.enqueue, hk, if_true]
  split
  next old h => exact ⟨_, mem_insertTelegram.mpr (Or.inl rfl), rfl, rfl, rfl⟩
  next h =>
    refine ⟨{ t with moment := l.moment }, ?_, hk, rfl, rfl⟩
    by_cases hr : l.room = true
    · simp [hk, hr, mem_insertTelegram]
    · simpa [hk, hr] using mem_insertFull_self (t := { t with moment := l.moment }) hc l.queue

/-- PT's STATUS waits with the payload as the state then gives it (R126, R128). -/
theorem State.sendStatus_waits (s : State) : s.sendStatus.waits .status 31 s.sendStatus.statusPayload := by
  refine Line.enqueue_status rfl ?_
  dsimp only
  split <;> decide

/-- A step whose state summary changes tells of it, also where the change is over by its end (R74, R127, log 12). -/
theorem State.concludeIf_tells {s : State} {b : Bool} (h : (b || s.summaryMoves) = true) (hw : s.working = true)
    (old : State) : (s.concludeIf b old).waits .status 31 (s.concludeIf b old).statusPayload := by
  have hend : s.concludeIf b old = s.settle.sendStatus := by
    have hw' : s.settle.working = true := by simpa [State.working, State.phase] using hw
    simp only [State.concludeIf, State.announceIf, hw', h, Bool.true_or, Bool.and_self, if_true]
  rw [hend]
  exact State.sendStatus_waits _

/-! ### Telegrams that stand beside a newer one -/

/-- A telegram that a full queue keeps still waits once any other is enqueued, unless the newer replaces or withdraws
it (R164 to R166). -/
theorem Line.mem_enqueue_of_mem {l : Line} {m : Telegram} (hm : m ∈ l.queue) (hs : m.kind ≠ .status)
    (hp : m.kind ≠ .purgeCall) (h : l.room = true ∨ m.cls ≠ 3 ∧ m.kind.isOwnClaim = false) (t : Telegram) :
    m ∈ (l.enqueue t).queue := by
  by_cases ht : t.kind = .status
  · exact Line.mem_enqueue_status ht hm hs h
  · simp only [Line.enqueue, ht, if_false]
    split
    · exact hm
    · split
      · exact List.mem_filter.mpr ⟨hm, by simpa using hp⟩
      · split
        · exact mem_insertTelegram.mpr (Or.inr hm)
        next hr =>
          obtain ⟨hc, ho⟩ := h.resolve_left hr
          exact mem_insertFull_of_mem hm hc ho

/-- A full queue gains the newer telegram alone (R166). -/
theorem mem_of_mem_insertFull {m t : Telegram} {q : List Telegram} (h : m ∈ insertFull t q) : m = t ∨ m ∈ q := by
  unfold insertFull at h
  split at h
  · exact Or.inr h
  · (repeat' split at h) <;>
      exact (mem_insertTelegram.mp h).imp_right fun hm => (List.mem_filter.mp hm).1

/-- What waits after an enqueueing has waited before or is of the kind enqueued. -/
theorem Line.of_mem_enqueue {l : Line} {m t : Telegram} (h : m ∈ (l.enqueue t).queue) :
    m ∈ l.queue ∨ m.kind = t.kind := by
  simp only [Line.enqueue] at h
  split at h
  · rcases mem_insertTelegram.mp h with rfl | hm
    · exact Or.inr rfl
    · exact Or.inl (List.mem_filter.mp hm).1
  · split at h
    · exact Or.inl h
    · split at h
      · exact Or.inl (List.mem_filter.mp h).1
      · split at h
        · exact (mem_insertTelegram.mp h).symm.imp_right fun he => by rw [he]
        · exact (mem_of_mem_insertFull h).symm.imp_right fun he => by rw [he]

/-- The STATUS at the end of a step is the one telegram it may add. -/
theorem State.of_mem_announceIf {s : State} {m : Telegram} {b : Bool} {old : State}
    (h : m ∈ (s.announceIf b old).li.queue) : m ∈ s.li.queue ∨ m.kind = .status := by
  unfold State.announceIf at h
  split at h
  · exact Line.of_mem_enqueue h
  · exact Or.inl h

/-- A RELEASE leaves every telegram that is no STATUS and no PURGE CALL, and that a full queue keeps. -/
theorem State.mem_releaseClaim {s : State} {m : Telegram} (hm : m ∈ s.li.queue) (hs : m.kind ≠ .status)
    (hp : m.kind ≠ .purgeCall) (hc : m.cls ≠ 3) (ho : m.kind.isOwnClaim = false) :
    m ∈ s.releaseClaim.li.queue := by
  unfold State.releaseClaim
  split
  · exact hm
  · exact Line.mem_enqueue_of_mem hm hs hp (Or.inr ⟨hc, ho⟩) _

theorem State.of_mem_releaseClaim {s : State} {m : Telegram} (h : m ∈ s.releaseClaim.li.queue) :
    m ∈ s.li.queue ∨ m.kind = .release := by
  unfold State.releaseClaim at h
  split at h
  · exact Or.inl h
  · exact Line.of_mem_enqueue h

/-- What waits at the end of a step at a FOAM station has waited when the chamber rests, the STATUS apart. -/
theorem State.of_mem_concludeIf {s u : State} (hf : s.isFoam = true) (hp : s.ch.pending = false)
    (hu : s.chamberMoves 6 = u) {m : Telegram} {b : Bool} {old : State} (h : m ∈ (s.concludeIf b old).li.queue) :
    m ∈ u.li.queue ∨ m.kind = .status := by
  have hli : s.settle.li = u.li := by simp [State.settle, hf, State.settleChamber, hp, hu]
  rw [← hli]
  exact State.of_mem_announceIf h

end Sys2Proof.Machine
end

section
/-! PROOF. INERTING, READY and HALTED (O42): the changes of state that follow inert reached and oxygen under the run
limit, and what INERTING and READY begin with. -/

namespace Sys2Proof.Machine

/-! ### The comparators that become met -/

/-- Inert reached has become met (R78). -/
def State.inertMet (s : State) : State := s.setCmp { s.mu.cmp with inert := s.mu.cmp.inert.fire }

/-- Oxygen under the run limit has become met (R91). -/
def State.oxygenUnderMet (s : State) : State := s.setCmp { s.mu.cmp with oxygenUnder := s.mu.cmp.oxygenUnder.fire }

/-- What the two leave unchanged. -/
@[simp] theorem State.inertMet_frame (s : State) :
    s.inertMet.boot = s.boot ∧ s.inertMet.cfg = s.cfg ∧ s.inertMet.pt = s.pt ∧ s.inertMet.ms = s.ms ∧
    s.inertMet.ch = s.ch ∧ s.inertMet.ac = s.ac ∧ s.inertMet.pu = s.pu ∧ s.inertMet.mu.cmp.inert.met = true ∧
    s.inertMet.mu.cmp.oxygenHigh = s.mu.cmp.oxygenHigh ∧
    s.inertMet.mu.cmp.oxygenUnder = s.mu.cmp.oxygenUnder := by
  simp [State.inertMet, Comparator.fire]

@[simp] theorem State.oxygenUnderMet_frame (s : State) :
    s.oxygenUnderMet.cfg = s.cfg ∧ s.oxygenUnderMet.pt = s.pt ∧ s.oxygenUnderMet.ch = s.ch ∧
    s.oxygenUnderMet.pu = s.pu ∧ s.oxygenUnderMet.mu.cmp.oxygenUnder.met = true := by
  simp [State.oxygenUnderMet, Comparator.fire]

section
variable {s : State}

theorem exec_inertReached (hf : s.isFoam = true) (hd : s.mu.cmp.inert.due (100 * s.cfg.inertHold) = true) :
    exec .inertReached s = .next (s.inertMet.conclude s) := by
  simp [exec, execInertReached, hf, hd, State.inertMet]

theorem exec_oxygenUnderRunLimit (hf : s.isFoam = true) (hd : s.mu.cmp.oxygenUnder.due 0 = true) :
    exec .oxygenUnderRunLimit s = .next (s.oxygenUnderMet.conclude s) := by
  simp [exec, execOxygenUnderRunLimit, hf, hd, State.oxygenUnderMet]

/-! ### INERTING to READY -/

/-- INERTING passes to READY once its window is complete and inert has been reached (R78). -/
theorem chamberMove_inert_complete (hst : s.ch.st = .inerting) (hde : s.pu.de = true) (hh : s.pt.ownHazard ≠ .stop)
    (hz : s.ch.zeroDone = true) (hm : s.mu.cmp.inert.met = true) : s.chamberMove = some s.enterReady := by
  rw [State.chamberMove_inerting hst, State.haltCause_inerting_eq_false hde hh, hz, hm]
  rfl

/-- READY rests while it has no halt cause and the conditions of neither ENTRY nor SWEEP hold (R80, R82, R86). -/
theorem chamberMove_ready_rests (hst : s.ch.st = .ready) (hc : s.haltCause .ready = false)
    (he : s.entryConditions = false) (hw : s.sweepConditions = false) : s.chamberMove = none := by
  rw [State.chamberMove_ready hst, hc, he, hw]
  rfl

/-- With an empty intake list READY is left by a halt alone. -/
theorem chamberMove_ready_empty (hst : s.ch.st = .ready) (hc : s.haltCause .ready = false) (hi : s.ac.intake = []) :
    s.chamberMove = none := by
  have hhead : s.headClass = none := by simp [State.headClass, hi]
  exact chamberMove_ready_rests hst hc (by simp [State.entryConditions, hhead])
    (by simp [State.sweepConditions, hhead])

/-- READY halted by oxygen high comes back to INERTING when oxygen is under the run limit (R90, R91). -/
theorem chamberMoves_ready_oxygen (hst : s.ch.st = .ready) (hde : s.pu.de = true) (hh : s.pt.ownHazard ≠ .stop)
    (ho : s.mu.cmp.oxygenHigh.met = true) (hu : s.mu.cmp.oxygenUnder.met = true) (n : Nat) :
    s.chamberMoves (n + 2) = s.enterHalted.enterInerting := by
  have hhalt : s.chamberMove = some s.enterHalted := by
    rw [State.chamberMove_ready hst]
    simp [State.haltCause, ho]
  have hends : s.enterHalted.chamberMove = some s.enterHalted.enterInerting := by
    rw [State.chamberMove_halted (by simp), State.haltEnds_iff.mpr (by simp [hu, hh, hde])]
    rfl
  rw [State.chamberMoves_of_some hhalt, State.chamberMoves_of_some hends,
    State.chamberMoves_of_none (State.enterInerting_rests (by simpa using hde) (by simpa using hh))]

/-! ### HALTED -/

/-- HALTED ends in INERTING, where the chamber rests (R91). -/
theorem chamberMoves_halted_ends (hst : s.ch.st = .halted) (hde : s.pu.de = true) (hh : s.pt.ownHazard ≠ .stop)
    (hu : s.mu.cmp.oxygenUnder.met = true) (n : Nat) : s.chamberMoves (n + 1) = s.enterInerting := by
  have hends : s.chamberMove = some s.enterInerting := by
    rw [State.chamberMove_halted hst, State.haltEnds_iff.mpr ⟨hu, hh, hde⟩]
    rfl
  rw [State.chamberMoves_of_some hends, State.chamberMoves_of_none (State.enterInerting_rests hde hh)]

/-- HALTED stays while DE is clear or the own hazard STOP (R91). -/
theorem chamberMoves_halted_stays (hst : s.ch.st = .halted) (hc : s.pu.de = false ∨ s.pt.ownHazard = .stop)
    (n : Nat) : s.chamberMoves n = s := by
  refine State.chamberMoves_of_none ?_ n
  have hends : s.haltEnds = false := by rcases hc with h | h <;> simp [State.haltEnds, h]
  rw [State.chamberMove_halted hst, hends]
  rfl

end

/-! ### The end of the step -/

section
variable {s u : State} (hf : s.isFoam = true) (hp : s.ch.pending = false) (b : Bool) (old : State)
include hf hp

/-- The end of a step in which the chamber comes to rest in an INERTING it has entered within it (R78). -/
theorem State.concludeIf_entered_inerting (hu : s.chamberMoves 6 = u.enterInerting) :
    (s.concludeIf b old).ch.st = .inerting ∧ (s.concludeIf b old).ch.zeroDone = false ∧
    (s.concludeIf b old).mu.window = Window.opened ∧ (s.concludeIf b old).mu.cmp.inert = Comparator.arm ∧
    (s.concludeIf b old).ms.own = none := by
  obtain ⟨hch, hms, -, hwindow, hinert⟩ := State.concludeIf_rest hf hp hu b old
  obtain ⟨hzero, hopened, harmed, hown⟩ := u.enterInerting_spec
  rw [hch, hms, hwindow, hinert]
  exact ⟨by simp, by simpa using hzero, hopened, harmed, hown⟩

end

/-! ### The obligation -/

section
variable {s : State} (hf : s.isFoam = true) (hp : s.ch.pending = false) (old : State)
include hf hp

/-- INERTING with both of its conditions, an empty intake list and no halt cause ends in READY (R77, R78, R80). -/
theorem conclude_inert_ready (hst : s.ch.st = .inerting) (hde : s.pu.de = true) (hh : s.pt.ownHazard ≠ .stop)
    (hz : s.ch.zeroDone = true) (hm : s.mu.cmp.inert.met = true) (ho : s.mu.cmp.oxygenHigh.met = false)
    (hi : s.ac.intake = []) :
    let t := s.conclude old
    t.ch.st = .ready ∧ t.mu.cmp.inert = Comparator.disarm
      ∧ t.ms.own = some (match s.ms.own with
          | some c => c
          | none => ⟨s.ch.cls.route, .priority, min s.cfg.ownDemand (s.cfg.cap s.ch.cls.route)⟩)
      ∧ (s.ms.own = none → t.ownSeated = false) := by
  have hc : s.enterReady.haltCause .ready = false := by
    rw [State.haltCause_eq_false_iff (by decide)]
    simp [hde, hh, ho]
  have hu : s.chamberMoves 6 = s.enterReady := by
    rw [State.chamberMoves_of_some (chamberMove_inert_complete hst hde hh hz hm),
      State.chamberMoves_of_none (chamberMove_ready_empty (by simp) hc (by simpa using hi))]
  obtain ⟨hch, hms, -, -, hinert⟩ := State.concludeIf_rest hf hp hu false old
  obtain ⟨disarmed, own, seat⟩ := s.enterReady_spec
  have hseat := State.concludeIf_ownSeated hf hp hu false old
  exact ⟨by rw [State.conclude, hch]; simp, hinert.trans disarmed, (congrArg Manifold.own hms).trans own,
    fun hnone => hseat.trans (seat hnone)⟩

/-- The same INERTING with oxygen high met but under the run limit comes back to INERTING, and a STATUS tells of it
(R74, R90, R91, log 12). -/
theorem conclude_inert_oxygen (hst : s.ch.st = .inerting) (hde : s.pu.de = true) (hh : s.pt.ownHazard ≠ .stop)
    (hz : s.ch.zeroDone = true) (hm : s.mu.cmp.inert.met = true) (ho : s.mu.cmp.oxygenHigh.met = true)
    (hu : s.mu.cmp.oxygenUnder.met = true) :
    let t := s.conclude old
    t.ch.st = .inerting ∧ t.ch.zeroDone = false ∧ t.ms.own = none
      ∧ (s.working = true → t.waits .status 31 t.statusPayload) := by
  have complete := chamberMove_inert_complete hst hde hh hz hm
  have hmoves : s.chamberMoves 6 = s.enterReady.enterHalted.enterInerting := by
    rw [State.chamberMoves_of_some complete]
    exact chamberMoves_ready_oxygen (by simp) (by simpa using hde) (by simpa using hh) (by simpa using ho)
      (by simpa using hu) 3
  have htells : s.summaryMoves = true := by simp [State.summaryMoves, complete, hf, hp, hst]
  obtain ⟨st, zeroDone, -, -, own⟩ := State.concludeIf_entered_inerting hf hp false old hmoves
  exact ⟨st, zeroDone, own, fun hw => State.concludeIf_tells (by simp [htells]) hw old⟩

end

/-- Settles O42: inert reached in INERTING, then oxygen under the run limit in HALTED. -/
theorem inertReachedLeadsToReady : Obligations.InertReachedLeadsToReady := by
  intro s hf hp
  refine ⟨fun hst hd hde hh => ⟨_, exec_inertReached hf hd, fun hz => ?_, fun hz ho hi => ?_, fun hz ho hu => ?_⟩,
    fun hd => ⟨_, exec_oxygenUnderRunLimit hf hd, by simp, fun hst h => ?_, fun hst h => ?_⟩⟩
  · have hc : ¬s.inertMet.haltCause .inerting = true := by simp [State.haltCause, hde, hh]
    obtain ⟨st, -, -, -, -, inert⟩ :=
      State.conclude_inerting_stays (s := s.inertMet) hf hp hst hc (by simp [hz]) s
    exact ⟨st, by simp [inert]⟩
  · exact conclude_inert_ready (s := s.inertMet) hf hp s hst hde hh hz (by simp) ho hi
  · exact conclude_inert_oxygen (s := s.inertMet) hf hp s hst hde hh hz (by simp) ho hu
  · exact State.concludeIf_entered_inerting (s := s.oxygenUnderMet) hf hp false s
      (chamberMoves_halted_ends (s := s.oxygenUnderMet) hst h.1 h.2 (by simp) 5)
  · have hu := chamberMoves_halted_stays (s := s.oxygenUnderMet) hst h 6
    obtain ⟨hch, -⟩ := State.concludeIf_rest (s := s.oxygenUnderMet) hf hp hu false s
    rw [State.conclude, hch]
    simpa using hst

end Sys2Proof.Machine
end

section
/-! PROOF. PURGING (O43): how it is entered from any other state, and how it ends in INERTING. -/

namespace Sys2Proof.Machine

/-! ### The entry of PURGING -/

/-- Purge needed has become met (R92). -/
def State.purgeMet (s : State) : State := s.setCmp { s.mu.cmp with purgeNeeded := s.mu.cmp.purgeNeeded.fire }

/-- The awaited set names the LIVE peers of a role (R116). -/
theorem State.mem_awaitedNow {s : State} {a : Nat} : a ∈ s.awaitedNow ↔
    a < 24 ∧ a ≠ s.boot.address ∧ (s.peer a).presence = .live ∧ (s.peer a).role ≠ .unconfigured := by
  simp [State.awaitedNow, and_assoc]

/-- The sweep wait of a chamber that leaves its state for a halt or a purge (R88). -/
theorem State.leaveState_sweepWait (s : State) :
    s.leaveState.ch.sweepWait = if s.ch.st = .sweep then Timer.stopped else s.ch.sweepWait := by
  cases h : s.ch.st <;> simp [State.leaveState, h]
  split <;> rfl

/-- What PURGING begins with (R92, R116). -/
theorem State.enterPurging_spec (s : State) :
    s.enterPurging.ch.path = .awaiting ∧ s.enterPurging.ms.own = none ∧
    s.enterPurging.ch.sweepWait = (if s.ch.st = .sweep then Timer.stopped else s.ch.sweepWait) ∧
    s.enterPurging.ac.chamber = flagPurged s.ac.chamber ∧
    s.enterPurging.ms.call = ⟨.waiting, s.awaitedNow, false, Timer.start (1000 * s.cfg.purgeWait)⟩ ∧
    s.enterPurging.mu.cmp.purgeClear = Comparator.arm := by
  simp [State.enterPurging, State.callPurge, State.leaveState_sweepWait, State.awaitedNow, State.peer]

/-- Its PURGE CALL waits (R116, R163, R166). -/
theorem State.enterPurging_calls (s : State) : ∃ m ∈ s.enterPurging.li.queue,
    m.kind = .purgeCall ∧ m.dst = 31 ∧ m.payload = [] ∧ m.cls ≠ 3 :=
  ⟨_, Line.mem_enqueue_self (by simp) (by simp) (by simp) (Or.inr (by simp [Kind.cls])), rfl, rfl, rfl,
    by simp [Kind.cls]⟩

section
variable {s : State}

theorem exec_purgeNeeded (hf : s.isFoam = true) (hp : s.ch.pending = false) (hst : s.ch.st ≠ .purging)
    (hd : s.mu.cmp.purgeNeeded.due 20 = true) :
    exec .purgeNeeded s = .next (s.purgeMet.enterPurging.conclude s) := by
  simp [exec, execPurgeNeeded, hf, hp, hst, hd, State.purgeMet]

/-- A purge that waits for its CLEARs draws through no route valve (R75, R93). -/
theorem enterPurging_chamberValve (s : State) : s.enterPurging.chamberValve = false := by
  obtain ⟨hpath, -⟩ := s.enterPurging_spec
  simp [State.chamberValve, State.chamberValveCommand, hpath]

/-- PURGING rests until its path changes or the purge is clear (R93, R94). -/
theorem enterPurging_rests (s : State) (n : Nat) : s.enterPurging.chamberMoves n = s.enterPurging := by
  obtain ⟨hpath, -⟩ := s.enterPurging_spec
  refine State.chamberMoves_of_none ?_ n
  rw [State.chamberMove_purging (by simp), if_neg (by simp [hpath])]

/-- PURGED DURING WINDOW in every open account (R92). -/
theorem chamberWork_flagPurged {t : State} {on : Bool} {l : List ChamberEntry}
    (h : t.ac.chamber = followCarry on (flagPurged l)) :
    t.chamberWork = l.map fun e =>
      (if e.st = .closed then e.account else
        { e.account with foam := e.account.foam.map fun p =>
            { p with flags := { p.flags with purgedDuringWindow := true } } }, e.st, e.accF) := by
  simp only [State.chamberWork, h, followCarry, flagPurged, List.map_map]
  refine List.map_congr_left fun e _ => ?_
  by_cases hc : e.st = .closed <;> simp [ChamberEntry.isOpen, hc]

/-- The end of the step in which PURGING is entered. -/
theorem conclude_enterPurging (hf : s.isFoam = true) (hp : s.ch.pending = false) (old : State) :
    let t := s.enterPurging.conclude old
    t.ch.st = .purging ∧ t.ch.path = .awaiting ∧ t.ms.own = none
      ∧ t.ch.sweepWait = (if s.ch.st = .sweep then Timer.stopped else s.ch.sweepWait)
      ∧ t.ac.chamber = followCarry false (flagPurged s.ac.chamber)
      ∧ t.ms.call = ⟨.waiting, s.awaitedNow, false, Timer.start (1000 * s.cfg.purgeWait)⟩
      ∧ t.waits .purgeCall 31 [] ∧ t.mu.cmp.purgeClear = Comparator.arm
      ∧ t.valveA = false ∧ t.valveB = false := by
  have hf' : s.enterPurging.isFoam = true := by simpa [State.isFoam] using hf
  have hp' : s.enterPurging.ch.pending = false := by simpa using hp
  have hu := enterPurging_rests s 6
  obtain ⟨path, own, wait, list, call, clear⟩ := s.enterPurging_spec
  obtain ⟨m, hm, kind, dst, payload, cls⟩ := s.enterPurging_calls
  obtain ⟨hch, hms, -⟩ := State.concludeIf_rest hf' hp' hu false old
  obtain ⟨chamber, -⟩ :=
    State.concludeIf_chamberList hf' hp' hu false old (Or.inr (enterPurging_chamberValve s))
  have hvalve := State.concludeIf_chamberValve hf' hp' hu false old
  have hmem := State.mem_concludeIf hf' hp' hu false old hm (by simp [kind])
    (Or.inr ⟨cls, by simp [kind, Kind.isOwnClaim]⟩)
  rw [enterPurging_chamberValve] at chamber hvalve
  have hoff : ¬((s.enterPurging.conclude old).valveA = true ∨ (s.enterPurging.conclude old).valveB = true) := by
    rw [State.valves_iff (by simpa [State.isFoam] using hf) (by simpa using hp), State.conclude, hvalve]
    simp
  simp only [not_or, Bool.not_eq_true] at hoff
  refine ⟨?_, ?_, (congrArg Manifold.own hms).trans own, ?_, chamber.trans (by rw [list]),
    (congrArg Manifold.call hms).trans call, ⟨m, hmem, kind, dst, payload⟩, by simp [clear], hoff⟩
  · rw [State.conclude, hch]; simp
  · rw [State.conclude, hch]; simp [path]
  · rw [State.conclude, hch]; simp [wait]

/-! ### The end of PURGING -/

/-- The purge is over: no path, the comparator disarmed, the call ended (R94, R118). -/
def State.purgeEnded (s : State) : State :=
  ((s.setCmp { s.mu.cmp with purgeClear := Comparator.disarm }).setCh { s.ch with path := .off }).endPurge

theorem leavePurging_eq (s : State) : s.leavePurging = s.purgeEnded.enterInerting := rfl

theorem exec_purgeClearMet (hf : s.isFoam = true) (hst : s.ch.st = .purging)
    (hd : s.mu.cmp.purgeClear.due 1000 = true) : exec .purgeClearMet s = .next (s.leavePurging.conclude s) := by
  simp [exec, execPurgeClearMet, hf, hst, hd]

theorem leavePurging_spec (s : State) : s.leavePurging.ch.path = .off ∧ s.leavePurging.ms.call = {} ∧
    s.leavePurging.mu.cmp.purgeClear = Comparator.disarm := by
  simp [leavePurging_eq, State.purgeEnded, State.endPurge]

/-- Without a PURGE CALL that waits, PURGE END waits behind the end of a purge (R118, R165). -/
theorem leavePurging_ends (h : (s.li.queue.any fun m => m.kind == .purgeCall) = false) :
    ∃ m ∈ s.leavePurging.li.queue, m.kind = .purgeEnd ∧ m.dst = 31 ∧ m.payload = [] ∧ m.cls ≠ 3 := by
  have hsent : ({ kind := .purgeEnd, dst := 31, payload := [], cls := 0, moment := s.li.moment } : Telegram) ∈
      s.purgeEnded.li.queue := by
    by_cases hr : s.li.room = true
    · simp [State.purgeEnded, State.endPurge, State.send, Line.enqueue, Kind.cls, h, hr, mem_insertTelegram]
    · simpa [State.purgeEnded, State.endPurge, State.send, Line.enqueue, Kind.cls, h, hr] using
        mem_insertFull_self (by simp) s.li.queue
  exact ⟨_, State.mem_releaseClaim hsent (by simp) (by simp) (by simp) rfl, rfl, rfl, rfl, by simp⟩

/-- A PURGE CALL that waits is withdrawn by the end of the purge (R165, log 46). -/
theorem leavePurging_withdraws (h : (s.li.queue.any fun m => m.kind == .purgeCall) = true) :
    ∀ m ∈ s.leavePurging.li.queue, m.kind ≠ .purgeCall := by
  have hended : ∀ m ∈ s.purgeEnded.li.queue, m.kind ≠ .purgeCall := by
    simp [State.purgeEnded, State.endPurge, State.send, Line.enqueue, h]
  intro m hm
  rcases State.of_mem_releaseClaim hm with hm' | hk
  · exact hended m hm'
  · simp [hk]

/-- The chamber rests in INERTING or, on a halt cause, in HALTED, and nothing more is sent (R90). -/
theorem leavePurging_rests (s : State) : ∃ u, s.leavePurging.chamberMoves 6 = u ∧ u.li = s.leavePurging.li
    ∧ u.ch.path = .off ∧ (s.pu.de = true → s.pt.ownHazard ≠ .stop → u = s.leavePurging)
    ∧ (s.pu.de = false ∨ s.pt.ownHazard = .stop → u.ch.st = .halted) := by
  obtain ⟨hpath, -⟩ := leavePurging_spec s
  have hst : s.leavePurging.ch.st = .inerting := by simp [leavePurging_eq]
  have hcause := s.leavePurging.haltCause_inerting_iff
  simp only [State.leavePurging_frame] at hcause
  by_cases hc : s.leavePurging.haltCause .inerting = true
  · refine ⟨_, State.chamberMoves_inerting_halts hst hc 5, ?_, by simpa using hpath, fun hde hh => ?_, by simp⟩
    · simp [State.enterHalted, State.leaveState, hst, State.setChamberState, State.setInert]
    · simp [hcause, hde, hh] at hc
  · refine ⟨_, rfl, ?_⟩
    have hno : ¬(s.pu.de = false ∨ s.pt.ownHazard = .stop) := fun h => hc (hcause.mpr h)
    have hrest : s.leavePurging.chamberMoves 6 = s.leavePurging := by
      simp only [not_or, Bool.not_eq_false] at hno
      exact State.chamberMoves_of_none (State.enterInerting_rests (s := s.purgeEnded)
        (by simpa [State.purgeEnded] using hno.1) (by simpa [State.purgeEnded] using hno.2)) 6
    rw [hrest]
    exact ⟨rfl, hpath, fun _ _ => rfl, fun h => absurd h hno⟩

end

/-! ### The obligation -/

/-- Settles O43: the entry of PURGING, then its end. -/
theorem purgingBeginsAndEnds : Obligations.PurgingBeginsAndEnds := by
  intro s hf hp
  refine ⟨fun hst hd => ⟨_, exec_purgeNeeded hf hp hst hd, ?_⟩, fun hst hd => ⟨_, exec_purgeClearMet hf hst hd, ?_⟩⟩
  · obtain ⟨st, path, own, wait, list, call, calls, clear, valveA, valveB⟩ :=
      conclude_enterPurging (s := s.purgeMet) hf hp s
    refine ⟨st, path, own, wait, chamberWork_flagPurged list, by rw [call], by rw [call], by rw [call]; rfl,
      fun a => ?_, calls, clear, valveA, valveB⟩
    rw [call]
    exact State.mem_awaitedNow
  · have hf' : s.leavePurging.isFoam = true := by simpa [State.isFoam] using hf
    have hp' : s.leavePurging.ch.pending = false := by simpa using hp
    obtain ⟨u, hu, hli, hpath, hinert, hhalt⟩ := leavePurging_rests s
    obtain ⟨-, hcall, hclear⟩ := leavePurging_spec s
    obtain ⟨hch, -⟩ := State.concludeIf_rest hf' hp' hu false s
    refine ⟨by rw [State.conclude, hch]; simpa using hpath, by simpa using hcall, by simpa using hclear,
      fun hnone => ?_, fun m hm hany => ?_, fun hde hh => ?_, fun hc => ?_⟩
    · obtain ⟨m, hm, kind, dst, payload, cls⟩ := leavePurging_ends hnone
      exact ⟨m, State.mem_concludeIf hf' hp' hu false s (by rwa [hli]) (by simp [kind])
        (Or.inr ⟨cls, by simp [kind, Kind.isOwnClaim]⟩), kind, dst, payload⟩
    · rcases State.of_mem_concludeIf hf' hp' hu hm with hm' | hk
      · rw [hli] at hm'
        exact leavePurging_withdraws hany m hm'
      · simp [hk]
    · exact State.concludeIf_entered_inerting hf' hp' false s (hu.trans (hinert hde hh))
    · rw [State.conclude, hch]
      simpa using hhalt hc

end Sys2Proof.Machine
end

section
/-! PROOF. The close of a chamber window (O44): QUIET for the RECEIVING account, a carry-over expiry for the account it
names, and the end of the step with a carry-over above 0. -/

namespace Sys2Proof.Machine

/-! ### A window that closes -/

/-- The chamber list once the open account of a key has closed (R21, R98). -/
def closedWindow (k : Key) (l : List ChamberEntry) : List ChamberEntry :=
  nameReceiving (l.map fun e =>
    if e.account.key = k ∧ e.st ≠ .closed then
      { account := { e.account with
          foam := e.account.foam.map fun p => { p with mass := some (min 65535 ((e.accF + 5000) / 10000)) }
          handoff := some .passed }
        st := .closed }
    else e)

section
variable {s : State}

/-- An open account of the key closes, and joins the commit queue at its tail (R98). -/
theorem closeWindow_open {k : Key} (h : ∃ e ∈ s.ac.chamber, e.account.key = k ∧ e.st ≠ .closed) :
    (s.closeWindow k).ac.chamber = closedWindow k s.ac.chamber ∧
    (s.closeWindow k).rs.commitQueue = s.rs.commitQueue ++ [k] := by
  have hmap : (s.ac.chamber.map fun f => if f.account.key = k ∧ f.isOpen then closeEntry f else f) =
      s.ac.chamber.map fun e =>
        if e.account.key = k ∧ e.st ≠ .closed then
          { account := { e.account with
              foam := e.account.foam.map fun p => { p with mass := some (min 65535 ((e.accF + 5000) / 10000)) }
              handoff := some .passed }
            st := .closed }
        else e := by
    refine List.map_congr_left fun e _ => ?_
    simp only [ChamberEntry.isOpen, bne_iff_ne, ne_eq]
    rfl
  cases hfind : s.ac.chamber.find? fun e => e.account.key == k && e.isOpen with
  | none =>
    obtain ⟨e, he, hk, hopen⟩ := h
    have := List.find?_eq_none.mp hfind e he
    simp [hk, ChamberEntry.isOpen, hopen] at this
  | some e =>
    simp only [State.closeWindow, hfind, hmap]
    split <;> exact ⟨rfl, rfl⟩

/-! ### The end of the step -/

/-- With a carry-over above 0 the end of a step at a FOAM station closes no account (R96, log 15). -/
theorem conclude_chamberWork (hf : s.isFoam = true) (hc : s.cfg.carryOver ≠ 0) (old : State) :
    (s.conclude old).chamberWork = s.chamberWork ∧ (s.conclude old).rs = s.rs := by
  by_cases hp : s.ch.pending = true
  · simp [State.conclude, State.concludeIf, State.settle, hf, State.settleChamber, hp, State.chamberWork]
  · obtain ⟨list, rs⟩ :=
      State.concludeIf_chamberList hf (by simpa using hp) rfl false old (Or.inl hc)
    exact ⟨chamberWork_followCarry list (by simp), rs⟩

/-- The step in which the open account of a key closes. -/
theorem conclude_closeWindow (hf : s.isFoam = true) (hc : s.cfg.carryOver ≠ 0) {k : Key}
    (h : ∃ e ∈ s.ac.chamber, e.account.key = k ∧ e.st ≠ .closed) (old : State) :
    let t := (s.closeWindow k).conclude old
    t.chamberWork = (closedWindow k s.ac.chamber).map (fun e => (e.account, e.st, e.accF))
      ∧ t.rs.commitQueue = s.rs.commitQueue ++ [k] ∧ t.ac.intake = s.ac.intake ∧ t.nv = s.nv := by
  obtain ⟨list, commits⟩ := closeWindow_open h
  obtain ⟨work, rs⟩ := conclude_chamberWork (s := s.closeWindow k) (by simpa [State.isFoam] using hf)
    (by simpa using hc) old
  refine ⟨work.trans ?_, by rw [rs, commits], by simp, by simp⟩
  rw [State.chamberWork, list]

/-! ### The two commands -/

theorem exec_quiet (hf : s.isFoam = true) (hd : s.mu.cmp.quiet.due (100 * s.cfg.quietTime) = true) {e : ChamberEntry}
    (he : s.ac.receiving = some e) : exec .quiet s = .next ((s.closeWindow e.account.key).conclude s) := by
  simp [exec, execQuiet, hf, hd, he]

theorem exec_carryOverExpiry (hf : s.isFoam = true) {k : Key}
    (h : ∃ e ∈ s.ac.chamber, e.account.key = k ∧ e.st ≠ .closed ∧ e.carry.due = true) :
    exec (.carryOverExpiry k) s = .next ((s.closeWindow k).conclude s) := by
  have hdue : s.carryDue k = true := by simpa [State.carryDue, ChamberEntry.isOpen, and_assoc] using h
  simp [exec, execCarryOverExpiry, hf, hdue]

/-- The RECEIVING account is an open one of the chamber list (R11). -/
theorem receiving_open {e : ChamberEntry} (he : s.ac.receiving = some e) : e ∈ s.ac.chamber ∧ e.st ≠ .closed := by
  have hst : e.st = .receiving := by simpa using List.find?_some he
  exact ⟨List.mem_of_find?_eq_some he, by simp [hst]⟩

end

/-- Settles O44: both commands close an open account by `conclude_closeWindow`. -/
theorem windowCloseFinalizesTheAccount : Obligations.WindowCloseFinalizesTheAccount := by
  intro s hf hc
  refine ⟨fun hd e he => ⟨_, exec_quiet hf hd he, ?_⟩, fun k h => ⟨_, exec_carryOverExpiry hf h, ?_⟩⟩
  · obtain ⟨hmem, hopen⟩ := receiving_open he
    exact conclude_closeWindow hf hc ⟨e, hmem, rfl, hopen⟩ s
  · obtain ⟨e, hmem, hk, hopen, -⟩ := h
    exact conclude_closeWindow hf hc ⟨e, hmem, hk, hopen⟩ s

end Sys2Proof.Machine
end

section
/-! PROOF. The door and the shredder (O45): DRC, SRF and the door timer move the chamber between READY and ENTRY, and
the intake head into the chamber. -/

namespace Sys2Proof.Machine

/-! ### The door timer while the door is open -/

/-- No change of state starts or stops the door timer while the door-open mark is set (R82, R84). -/
theorem chamberMove_door {s t : State} (h : s.chamberMove = some t) (ho : s.ch.doorOpen = true) :
    t.ch.door = s.ch.door := by
  have halted : s.enterHalted.ch.door = s.ch.door := by
    cases hst : s.ch.st <;> simp [State.enterHalted, State.leaveState, hst, ho, State.setChamberState]
  have hentry : s.entryConditions = false := by
    rw [← Bool.not_eq_true, State.entryConditions_iff]
    simp [ho]
  cases hst : s.ch.st with
  | inerting =>
    rw [State.chamberMove_inerting hst] at h
    (repeat' split at h) <;> cases h <;> simp [halted]
  | ready =>
    rw [State.chamberMove_ready hst, hentry] at h
    (repeat' split at h) <;> cases h <;> simp_all
  | entry =>
    rw [State.chamberMove_entry hst, ho] at h
    (repeat' split at h) <;> cases h <;> simp_all
  | sweep =>
    rw [State.chamberMove_sweep hst] at h
    (repeat' split at h) <;> cases h <;> simp [halted]
  | halted =>
    rw [State.chamberMove_halted hst] at h
    split at h <;> cases h
    simp
  | purging =>
    rw [State.chamberMove_purging hst] at h
    split at h <;> cases h
    simp

theorem chamberMoves_door {s : State} (ho : s.ch.doorOpen = true) (n : Nat) :
    (s.chamberMoves n).ch.door = s.ch.door := by
  induction n generalizing s with
  | zero => rfl
  | succ n ih =>
    cases h : s.chamberMove with
    | none => rw [State.chamberMoves_of_none h]
    | some t =>
      have hdoor : t.ch.doorOpen = s.ch.doorOpen := by simp [State.chamberMove_frame s t h]
      rw [State.chamberMoves_of_some h, ih (hdoor.trans ho), chamberMove_door h ho]

/-! ### The terminal of the door -/

/-- The door is released in ENTRY alone, and until it has opened (R75). -/
theorem outputs_door {s : State} (hf : s.isFoam = true) (h : s.ch.st ≠ .entry ∨ s.ch.doorOpen = true) :
    s.outputs.o0 = false := by
  by_cases hp : s.phase = .hold
  · rw [State.outputs_hold hp]
  · rw [State.outputs_foam hp hf]
    rcases h with h | h <;> simp [h]

/-! ### READY and ENTRY -/

section
variable {s : State}

/-- The conditions of ENTRY are those of states alike in what they read (R82). -/
theorem State.entryConditions_congr {t : State} (hac : t.ac = s.ac) (hcls : t.ch.cls = s.ch.cls)
    (hdoor : t.ch.doorOpen = s.ch.doorOpen) (hpt : t.pt = s.pt) (hmu : t.mu.filters = s.mu.filters)
    (hsrp : t.srp = s.srp) : t.entryConditions = s.entryConditions := by
  simp only [State.entryConditions, State.headClass, State.lineHazard, State.level_congr hmu, hac, hcls, hdoor, hpt,
    hsrp]

/-- Where SRP is on, nothing halts the chamber (R81, R90). -/
theorem haltCause_of_srp (hf : s.isFoam = true) (hp : s.ch.pending = false) (h : s.srp = true) {st : ChamberState}
    (hst : st ≠ .inerting) : s.haltCause st = false := by
  obtain ⟨-, -, oxygen, hazard, gate⟩ := (State.srp_iff hf hp).mp h
  exact (State.haltCause_eq_false_iff hst).mpr ⟨(s.gate_iff.mp gate).1, hazard, oxygen⟩

/-- The conditions of ENTRY take READY to ENTRY, where the chamber rests (R82, R84). -/
theorem chamberMoves_ready_enters (hf : s.isFoam = true) (hp : s.ch.pending = false) (hst : s.ch.st = .ready)
    (he : s.entryConditions = true) (n : Nat) : s.chamberMoves (n + 1) = s.enterEntry := by
  obtain ⟨-, -, hsrp, hlevel, -, -⟩ := State.entryConditions_iff.mp he
  have hmove : s.chamberMove = some s.enterEntry := by
    rw [State.chamberMove_ready hst, haltCause_of_srp hf hp hsrp (by decide), he]
    rfl
  have hf' : s.enterEntry.isFoam = true := by simpa [State.isFoam] using hf
  have hp' : s.enterEntry.ch.pending = false := by simpa using hp
  have hst' : s.enterEntry.ch.st = .entry := by simp [State.enterEntry]
  have hsrp' : s.enterEntry.srp = true := by
    obtain ⟨-, seat, oxygen, hazard, gate⟩ := (State.srp_iff hf hp).mp hsrp
    refine (State.srp_iff hf' hp').mpr ⟨Or.inr hst', ?_, by simpa using oxygen, by simpa using hazard, ?_⟩
    · rwa [State.ownSeated_congr (s := s) (by simp) (by simp)]
    · rwa [State.gate_congr (s := s) (by simp) (by simp)]
  have hlevel' : s.enterEntry.level .in3 = true := by rwa [State.level_congr (s := s) (by simp)]
  have hrest : s.enterEntry.chamberMove = none := by
    rw [State.chamberMove_entry hst', haltCause_of_srp hf' hp' hsrp' (by decide), hsrp', hlevel']
    simp
  rw [State.chamberMoves_of_some hmove, State.chamberMoves_of_none hrest]

/-- A head of the chamber's own class begins no sweep (R86). -/
theorem sweepConditions_of_head (h : ∀ c, s.headClass = some c → c = s.ch.cls) : s.sweepConditions = false := by
  rw [← Bool.not_eq_true, State.sweepConditions_iff]
  rintro ⟨hhead, -⟩
  exact ChamberClass.ne_iff_other.mpr rfl (h _ hhead)

/-- A claim held stays as it is at the entry of READY (R77). -/
theorem State.enterReady_ms (h : s.ms.own.isSome = true) : s.enterReady.ms = s.ms := by
  obtain ⟨c, hc⟩ := Option.isSome_iff_exists.mp h
  simp [State.enterReady, State.setChamberState, hc]

end

/-! ### DRC falls -/

/-- The door has opened in ENTRY: its timer stops and the mark is set (R83). -/
def State.doorOpened (s : State) : State :=
  (s.edge .in2).setCh { s.ch with door := Timer.stopped, doorOpen := true }

section
variable {s : State} (hf : s.isFoam = true) (hph : s.phase ≠ .hold)
include hf hph

theorem exec_drcFall_opens (he : (s.filter .in2).edgeDue false = true) (hst : s.ch.st = .entry)
    (ho : s.ch.doorOpen = false) : exec .drcFall s = .next (s.doorOpened.conclude s) := by
  simp [exec, execDrcFall, State.takesEdge, hf, hph, he, hst, ho, State.doorOpened]

theorem exec_drcFall_ignored (he : (s.filter .in2).edgeDue false = true)
    (h : ¬(s.ch.st = .entry ∧ s.ch.doorOpen = false)) : exec .drcFall s = .next ((s.edge .in2).conclude s) := by
  simp only [exec, execDrcFall, State.takesEdge, hf, he]
  simp [hph, h]

/-- DRC falling (R83). -/
theorem drcFall_spec (hp : s.ch.pending = false) (he : (s.filter .in2).edgeDue false = true) :
    ∃ t, exec .drcFall s = .next t
      ∧ (s.ch.st = .entry → s.ch.doorOpen = false →
          t.ch.doorOpen = true ∧ t.ch.door = Timer.stopped ∧ t.outputs.o0 = false)
      ∧ (s.ch.st ≠ .entry ∨ s.ch.doorOpen = true → t.ch.doorOpen = s.ch.doorOpen)
      ∧ t.ac.intake = s.ac.intake := by
  by_cases h : s.ch.st = .entry ∧ s.ch.doorOpen = false
  · refine ⟨_, exec_drcFall_opens hf hph he h.1 h.2, fun _ _ => ?_, fun hn => ?_, by simp [State.doorOpened]⟩
    · have hopen : (s.doorOpened.conclude s).ch.doorOpen = true := by simp [State.doorOpened]
      obtain ⟨hch, -⟩ := State.concludeIf_rest (s := s.doorOpened) (by simpa [State.isFoam, State.doorOpened] using hf)
        (by simpa [State.doorOpened] using hp) rfl false s
      refine ⟨hopen, ?_, outputs_door (by simpa [State.isFoam, State.doorOpened] using hf) (Or.inr hopen)⟩
      have hdoor : (s.doorOpened.chamberMoves 6).ch.door = Timer.stopped := chamberMoves_door rfl 6
      rw [State.conclude, hch]
      simpa using hdoor
    · simp [h] at hn
  · exact ⟨_, exec_drcFall_ignored hf hph he h, fun hst ho => absurd ⟨hst, ho⟩ h, fun _ => by simp, by simp⟩

end

/-! ### DRC rises -/

theorem startCarry_work {α : Type} (w : ChamberEntry → α) (hw : ∀ (e : ChamberEntry) c, w { e with carry := c } = w e)
    (ms : Nat) (on : Bool) (l : List ChamberEntry) : (startCarry ms on l).map w = l.map w := by
  induction l with
  | nil => rfl
  | cons e es ih =>
    unfold startCarry
    split
    · simp [ih]
    · split <;> simp [hw]

/-- The newest open account has its carry-over timer at full, running or held as the valve stands (R83, R96). -/
theorem startCarry_last {ms : Nat} {on : Bool} {l : List ChamberEntry} {e : ChamberEntry} (h : l.getLast? = some e)
    (he : e.st ≠ .closed) :
    { e with carry := if on then Timer.start ms else Timer.reset ms } ∈ startCarry ms on l := by
  induction l with
  | nil => cases h
  | cons x xs ih =>
    cases xs with
    | nil =>
      have hx : x = e := by simpa using h
      subst hx
      simp [startCarry, ChamberEntry.isOpen, he]
    | cons y ys =>
      rw [List.getLast?_cons_cons] at h
      have hany : (y :: ys).any ChamberEntry.isOpen = true :=
        List.any_eq_true.mpr ⟨e, List.mem_of_getLast? h, by simp [ChamberEntry.isOpen, he]⟩
      rw [startCarry, if_pos hany]
      exact List.mem_cons_of_mem _ (ih h)

/-- The entry of the chamber list with which a cabinet's window opens (R83, R95). -/
def State.windowOpened (s : State) (a : Account) : ChamberEntry :=
  { account := { a with foam := some {
      station := s.cfg.address, route := s.ch.cls.route, mass := none
      flags := ⟨false, s.mu.zeroRejected, s.ch.st == .purging⟩ } }
    st := if (s.ac.chamber.any fun e => e.st != .closed) = true then .waiting else .receiving }

section
variable {s : State}

/-- What the closing of the door behind a cabinet leaves (R83). -/
theorem doorCloses_spec {a : Account} {rest : List Account} (h : s.ac.intake = a :: rest) :
    s.doorCloses.ac.intake = rest ∧
    s.doorCloses.ac.chamber =
      startCarry (1000 * s.cfg.carryOver) s.chamberValve s.ac.chamber ++ [s.windowOpened a] ∧
    (s.ch.st = .entry → s.doorCloses.ch.st = .ready) := by
  have hintake : s.doorCloses.ac.intake = s.headEnters.ac.intake := by
    simp only [State.doorCloses]
    split <;> simp
  have hchamber : s.doorCloses.ac.chamber = s.headEnters.ac.chamber := by
    simp only [State.doorCloses]
    split <;> simp
  rw [hintake, hchamber]
  refine ⟨by simp [State.headEnters, h], ?_, fun hst => by simp [State.doorCloses, hst]⟩
  simp [State.headEnters, h, State.windowOpened, State.chamberRoute, ChamberEntry.isOpen]

theorem doorCloses_doorOpen (s : State) : s.doorCloses.ch.doorOpen = false := by
  simp only [State.doorCloses]
  split <;> simp

section
variable (hf : s.isFoam = true) (hph : s.phase ≠ .hold) (he : (s.filter .in2).edgeDue true = true)
include hf hph he

theorem exec_drcRise_closes (ho : s.ch.doorOpen = true) :
    exec .drcRise s = .next ((s.edge .in2).doorCloses.concludeIf (s.ch.st == .entry) s) := by
  simp [exec, execDrcRise, State.takesEdge, hf, hph, he, ho]

theorem exec_drcRise_ignored (ho : s.ch.doorOpen = false) :
    exec .drcRise s = .next ((s.edge .in2).conclude s) := by
  simp [exec, execDrcRise, State.takesEdge, hf, hph, he, ho]

end

/-- The end of the step in which a cabinet has entered the chamber (R83, R96). -/
theorem concludeIf_doorCloses (hf : s.isFoam = true) (hp : s.ch.pending = false) {a : Account} {rest : List Account}
    (h : s.ac.intake = a :: rest) (b : Bool) (old : State) :
    let t := s.doorCloses.concludeIf b old
    t.ac.intake = rest
      ∧ (s.cfg.carryOver ≠ 0 →
        t.chamberWork = s.chamberWork ++ [((s.windowOpened a).account, (s.windowOpened a).st, 0)]
        ∧ ∀ e, s.ac.chamber.getLast? = some e → e.st ≠ .closed →
          ∃ x ∈ t.ac.chamber, x.account = e.account ∧ x.carry =
            if t.chamberValve = true then Timer.start (1000 * s.cfg.carryOver)
            else Timer.reset (1000 * s.cfg.carryOver))
      ∧ (s.ch.st = .entry → rest = [] → s.haltCause .ready = false → t.ch.st = .ready) := by
  have hf' : s.doorCloses.isFoam = true := by simpa [State.isFoam] using hf
  have hp' : s.doorCloses.ch.pending = false := by simpa using hp
  obtain ⟨intake, chamber, ready⟩ := doorCloses_spec h
  refine ⟨by simpa using intake, fun hc => ?_, fun hst hrest hhalt => ?_⟩
  · obtain ⟨list, -⟩ := State.concludeIf_chamberList hf' hp' rfl b old (Or.inl (by simpa using hc))
    have hvalve := State.concludeIf_chamberValve hf' hp' rfl b old
    have hac : (s.doorCloses.chamberMoves 6).ac = s.doorCloses.ac := by simp
    rw [← hvalve, hac, chamber] at list
    refine ⟨?_, fun e hlast hopen => ?_⟩
    · have hwork := startCarry_work (fun e => (e.account, e.st, e.accF)) (fun _ _ => rfl) (1000 * s.cfg.carryOver)
        s.chamberValve s.ac.chamber
      simp only [State.chamberWork, list, followCarry, List.map_map, Function.comp_def, List.map_append, hwork]
      rfl
    · have hmem := List.mem_append_left [s.windowOpened a]
        (startCarry_last (ms := 1000 * s.cfg.carryOver) (on := s.chamberValve) hlast hopen)
      rw [list]
      exact ⟨_, List.mem_map_of_mem hmem, rfl, Timer.follow_full (by cases s.chamberValve <;> simp) _⟩
  · have hhalt' : s.doorCloses.haltCause .ready = false := by simpa [State.haltCause] using hhalt
    have hu : s.doorCloses.chamberMoves 6 = s.doorCloses :=
      State.chamberMoves_of_none (chamberMove_ready_empty (ready hst) hhalt' (intake.trans hrest)) 6
    obtain ⟨hch, -⟩ := State.concludeIf_rest hf' hp' hu b old
    rw [hch]
    simpa using ready hst

/-- DRC rising (R83). -/
theorem drcRise_spec (hf : s.isFoam = true) (hph : s.phase ≠ .hold) (hp : s.ch.pending = false)
    (he : (s.filter .in2).edgeDue true = true) :
    ∃ t, exec .drcRise s = .next t
      ∧ t.ch.doorOpen = false
      ∧ (s.ch.doorOpen = false → t.ac.intake = s.ac.intake)
      ∧ (s.ch.doorOpen = true → ∀ a rest, s.ac.intake = a :: rest →
          t.ac.intake = rest
          ∧ (s.cfg.carryOver ≠ 0 →
            t.chamberWork = s.chamberWork ++ [((s.windowOpened a).account, (s.windowOpened a).st, 0)]
            ∧ ∀ e, s.ac.chamber.getLast? = some e → e.st ≠ .closed →
              ∃ x ∈ t.ac.chamber, x.account = e.account ∧ x.carry =
                if t.chamberValve = true then Timer.start (1000 * s.cfg.carryOver)
                else Timer.reset (1000 * s.cfg.carryOver))
          ∧ (s.ch.st = .entry → rest = [] → s.haltCause .ready = false → t.ch.st = .ready)) := by
  cases ho : s.ch.doorOpen with
  | false => exact ⟨_, exec_drcRise_ignored hf hph he ho, by simp [ho], fun _ => by simp, fun h => by simp at h⟩
  | true =>
    refine ⟨_, exec_drcRise_closes hf hph he ho, by simp [doorCloses_doorOpen], fun h => by simp at h,
      fun _ a rest h => ?_⟩
    simpa [State.chamberWork, State.windowOpened, State.haltCause] using
      concludeIf_doorCloses (s := s.edge .in2) (by simpa [State.isFoam] using hf) (by simpa using hp) (by simpa using h)
        (s.ch.st == .entry) s

end

/-! ### SRF changes -/

section
variable {s : State}

theorem exec_srfChange (hf : s.isFoam = true) (hph : s.phase ≠ .hold)
    (he : (s.filter .in3).edgeDue (!s.level .in3) = true) :
    exec .srfChange s = .next ((s.edge .in3).conclude s) := by
  simp [exec, execSrfChange, State.takesEdge, hf, hph, he]

/-- SRP is on alike in states alike in what it reads (R81). -/
theorem State.srp_congr {t : State} (hf : s.isFoam = true) (hp : s.ch.pending = false)
    (hst : s.ch.st = .ready ∨ s.ch.st = .entry) (hst' : t.ch.st = .ready ∨ t.ch.st = .entry) (hc : t.cfg = s.cfg)
    (hp' : t.ch.pending = s.ch.pending) (hb : t.boot = s.boot) (hm : t.ms = s.ms) (hpt : t.pt = s.pt)
    (ho : t.mu.cmp.oxygenHigh = s.mu.cmp.oxygenHigh) (hg : t.gate = s.gate) : t.srp = s.srp := by
  have hf' : t.isFoam = true := by simpa [State.isFoam, hc] using hf
  rw [Bool.eq_iff_iff, State.srp_iff hf' (hp'.trans hp), State.srp_iff hf hp, State.ownSeated_congr hm hb, ho, hpt, hg]
  simp only [hst, hst', true_and]

/-- ENTRY without a running shredder, before the door has opened, leads back to READY, where a head of the chamber's
own class begins nothing (R82, R84, R86). -/
theorem chamberMoves_entry_ends (hst : s.ch.st = .entry) (ho : s.ch.doorOpen = false)
    (hlevel : s.level .in3 = false) (hc : s.haltCause .entry = false)
    (hhead : ∀ c, s.headClass = some c → c = s.ch.cls) (n : Nat) :
    s.chamberMoves (n + 1) = (s.setCh { s.ch with door := Timer.stopped }).enterReady := by
  have hmove : s.chamberMove = some (s.setCh { s.ch with door := Timer.stopped }).enterReady := by
    rw [State.chamberMove_entry hst, hc, ho, hlevel]
    simp
  rw [State.chamberMoves_of_some hmove, State.chamberMoves_of_none]
  refine chamberMove_ready_rests (by simp) (by simpa [State.haltCause] using hc) ?_ (sweepConditions_of_head ?_)
  · have hlevel' : (s.setCh { s.ch with door := Timer.stopped }).enterReady.level .in3 = false := by
      rwa [State.level_congr (s := s) (by simp)]
    rw [← Bool.not_eq_true, State.entryConditions_iff]
    simp [hlevel']
  · simpa [State.headClass] using hhead

variable (hf : s.isFoam = true) (hp : s.ch.pending = false)
include hf hp

/-- SRF falling in ENTRY (R84). -/
theorem conclude_srf_falls (hst : s.ch.st = .entry) (ho : s.ch.doorOpen = false) (hlevel : s.level .in3 = true)
    (hc : s.haltCause .entry = false) (hhead : ∀ c, s.headClass = some c → c = s.ch.cls) (old : State) :
    let t := (s.edge .in3).conclude old
    t.ch.st = .ready ∧ t.ch.door = Timer.stopped ∧ t.outputs.o0 = false := by
  have hu := chamberMoves_entry_ends (s := s.edge .in3) (by simpa using hst) (by simpa using ho) (by simp [hlevel])
    (by simpa [State.haltCause] using hc) (by simpa [State.headClass] using hhead) 5
  obtain ⟨hch, -⟩ := State.concludeIf_rest (by simpa [State.isFoam] using hf) (by simpa using hp) hu false old
  have hready : ((s.edge .in3).conclude old).ch.st = .ready := by rw [State.conclude, hch]; simp
  refine ⟨hready, by rw [State.conclude, hch]; simp, outputs_door (by simpa [State.isFoam] using hf) (Or.inl ?_)⟩
  simp [hready]

/-- SRF rising in READY under the conditions of ENTRY (R82). -/
theorem conclude_srf_rises (hst : s.ch.st = .ready) (hlevel : s.level .in3 = false) (hsrp : s.srp = true)
    (ho : s.ch.doorOpen = false) (hroom : s.ac.chamber.length < 3) (hhead : s.headClass = some s.ch.cls)
    (hline : s.ch.cls ≠ .hc ∨ s.lineHazard ≠ .stop) (old : State) :
    let t := (s.edge .in3).conclude old
    t.ch.st = .entry ∧ t.ch.door = Timer.start (1000 * s.cfg.doorTime) := by
  have hf' : (s.edge .in3).isFoam = true := by simpa [State.isFoam] using hf
  have hp' : (s.edge .in3).ch.pending = false := by simpa using hp
  have hsrp' : (s.edge .in3).srp = true := by
    rw [State.srp_congr hf hp (Or.inl hst) (Or.inl (by simpa using hst)) (by simp) (by simp) (by simp) (by simp)
      (by simp) (by simp) (State.edge_gate (by decide)), hsrp]
  have henter : (s.edge .in3).entryConditions = true :=
    State.entryConditions_iff.mpr ⟨by simpa [State.headClass] using hhead, by simpa using hroom, hsrp',
      by simp [hlevel], by simpa [State.lineHazard] using hline, by simpa using ho⟩
  have hu := chamberMoves_ready_enters hf' hp' (by simpa using hst) henter 5
  obtain ⟨hch, -⟩ := State.concludeIf_rest hf' hp' hu false old
  intro t
  rw [show t.ch = _ from hch]
  simp [State.enterEntry]

/-! ### The door timer expires -/

/-- ENTRY is left for READY with the door timer stopped (R83). -/
def State.doorTimedOut (s : State) : State := (s.setCh { s.ch with door := Timer.stopped }).enterReady

omit hf hp in
@[simp] theorem State.doorTimedOut_frame : s.doorTimedOut.boot = s.boot ∧ s.doorTimedOut.cfg = s.cfg ∧
    s.doorTimedOut.pt = s.pt ∧ s.doorTimedOut.ac = s.ac ∧ s.doorTimedOut.pu = s.pu ∧
    s.doorTimedOut.mu.filters = s.mu.filters ∧ s.doorTimedOut.mu.cmp.oxygenHigh = s.mu.cmp.oxygenHigh ∧
    s.doorTimedOut.ch.st = .ready ∧ s.doorTimedOut.ch.pending = s.ch.pending ∧
    s.doorTimedOut.ch.cls = s.ch.cls ∧ s.doorTimedOut.ch.doorOpen = s.ch.doorOpen ∧
    s.doorTimedOut.ch.door = Timer.stopped := by
  simp [State.doorTimedOut]

omit hf hp in
theorem exec_doorTimerExpiry (hst : s.ch.st = .entry) (hd : s.ch.door.due = true) :
    exec .doorTimerExpiry s = .next (s.doorTimedOut.concludeIf true s) := by
  simp [exec, execDoorTimerExpiry, hst, hd, State.doorTimedOut]

/-- The expiry of the door timer: READY, or at once ENTRY again while its conditions hold (R82, R83, log 43). -/
theorem doorTimerExpiry_spec (hst : s.ch.st = .entry) (hc : s.haltCause .entry = false)
    (hown : s.ms.own.isSome = true) (hhead : s.headClass = some s.ch.cls) (old : State) :
    let t := s.doorTimedOut.concludeIf true old
    (s.entryConditions = true → t.ch.st = .entry ∧ t.ch.door = Timer.start (1000 * s.cfg.doorTime))
      ∧ (s.entryConditions = false → t.ch.st = .ready ∧ t.ch.door = Timer.stopped)
      ∧ t.ms.own = s.ms.own := by
  have hf' : s.doorTimedOut.isFoam = true := by simpa [State.isFoam] using hf
  have hp' : s.doorTimedOut.ch.pending = false := by simpa using hp
  have hst' : s.doorTimedOut.ch.st = .ready := by simp
  have hms : s.doorTimedOut.ms = s.ms := State.enterReady_ms hown
  have hsrp : s.doorTimedOut.srp = s.srp :=
    State.srp_congr hf hp (Or.inr hst) (Or.inl hst') (by simp) (by simp) (by simp) hms (by simp) (by simp)
      (State.gate_congr (by simp) (by simp))
  have hsame : s.doorTimedOut.entryConditions = s.entryConditions :=
    State.entryConditions_congr (by simp) (by simp) (by simp) (by simp) (by simp) hsrp
  cases he : s.entryConditions with
  | true =>
    have hu := chamberMoves_ready_enters hf' hp' hst' (hsame.trans he) 5
    obtain ⟨hch, hms', -⟩ := State.concludeIf_rest hf' hp' hu true old
    refine ⟨fun _ => ?_, nofun, by rw [hms', State.enterEntry, State.setCh_ms, hms]⟩
    rw [hch]
    simp [State.enterEntry]
  | false =>
    have hhead' : s.doorTimedOut.headClass = some s.doorTimedOut.ch.cls := by simpa [State.headClass] using hhead
    have hsweep : s.doorTimedOut.sweepConditions = false :=
      sweepConditions_of_head fun c h => Option.some.inj (h.symm.trans hhead')
    have hu := State.chamberMoves_of_none (chamberMove_ready_rests hst' (by simpa [State.haltCause] using hc)
      (hsame.trans he) hsweep) 6
    obtain ⟨hch, hms', -⟩ := State.concludeIf_rest hf' hp' hu true old
    refine ⟨nofun, fun _ => ?_, by rw [hms', hms]⟩
    rw [hch]
    simp

end

/-- Settles O45: DRC falling, DRC rising, either edge of SRF, and the expiry of the door timer. -/
theorem doorCycleMovesTheCabinet : Obligations.DoorCycleMovesTheCabinet := by
  intro s hf hph hp
  refine ⟨fun he => drcFall_spec hf hph hp he, fun he => drcRise_spec hf hph hp he, fun he => ?_,
    fun hst hd _ hc hown hhead => ?_⟩
  · refine ⟨_, exec_srfChange hf hph he, ?_, fun hst ho hlevel hc hhead => ?_,
      fun hst hlevel hsrp ho hroom hhead hline => ?_⟩
    · rw [State.level_congr (s := s.edge .in3) (by simp)]
      simp
    · exact conclude_srf_falls hf hp hst ho hlevel hc hhead s
    · exact conclude_srf_rises hf hp hst hlevel hsrp ho hroom hhead hline s
  · obtain ⟨again, ready, own⟩ := doorTimerExpiry_spec hf hp hst hc hown hhead s
    exact ⟨_, exec_doorTimerExpiry hst hd, again, ready, own, by simp [State.doorTimedOut]⟩

end Sys2Proof.Machine
end

section
/-! SUPPORT. How a command comes to its end for a chamber that waits in SWEEP: by emptying the volatile state, without a
change of the seat, or with the end of a step, before which the wait stands while the chamber is in SWEEP (R86). -/

namespace Sys2Proof.Machine

/-! ### The seat at the end of a step -/

/-- A seat that finds the chamber in SWEEP has stopped the wait and started the sweep timer, which runs while the route
valve is on (R86). -/
def State.sweepBegun (ms : Nat) (s : State) : Prop :=
  s.ownSeated = true → s.ch.st = .sweep →
    s.ch.sweepWait = Timer.stopped
      ∧ s.ch.sweep = if s.valveA = true ∨ s.valveB = true then Timer.start ms else Timer.reset ms

/-- The same before the sweep timer has followed the valve. -/
def State.seatTaken (s : State) : Prop :=
  s.ch.st = .sweep → s.ownSeated = true →
    s.ch.sweepWait = Timer.stopped ∧ s.ch.sweep = Timer.reset (1000 * s.cfg.sweepTime)

/-- A change of state leads to SWEEP with a claim newly raised, or by the seat (R86, R107). -/
theorem chamberMove_seatTaken {s t : State} (h : s.chamberMove = some t) : t.seatTaken := by
  intro hst hseat
  cases hs : s.ch.st with
  | inerting =>
    rw [State.chamberMove_inerting hs] at h
    (repeat' split at h) <;> cases h <;> simp at hst
  | ready =>
    rw [State.chamberMove_ready hs] at h
    (repeat' split at h) <;> cases h
    · simp at hst
    · simp [State.enterEntry] at hst
    · simp [State.enterSweep] at hseat
  | entry =>
    rw [State.chamberMove_entry hs] at h
    (repeat' split at h) <;> cases h <;> simp at hst
  | sweep =>
    rw [State.chamberMove_sweep hs] at h
    (repeat' split at h) <;> cases h
    · simp at hst
    · exact ⟨rfl, rfl⟩
  | halted =>
    rw [State.chamberMove_halted hs] at h
    split at h <;> cases h
    simp at hst
  | purging =>
    rw [State.chamberMove_purging hs] at h
    split at h <;> cases h
    simp [hs] at hst

theorem chamberMoves_keeps_seatTaken {s : State} (h : s.seatTaken) (n : Nat) : (s.chamberMoves n).seatTaken := by
  induction n generalizing s with
  | zero => exact h
  | succ n ih =>
    cases hm : s.chamberMove with
    | none => rwa [State.chamberMoves_of_none hm]
    | some t =>
      rw [State.chamberMoves_of_some hm]
      exact ih (chamberMove_seatTaken hm)

/-- A SWEEP that waits does not rest on a seat (R86). -/
theorem chamberMoves_seatTaken {s : State} (h : s.ch.st = .sweep → s.ch.sweepWait.st ≠ .stopped) (n : Nat) :
    (s.chamberMoves (n + 1)).seatTaken := by
  cases hm : s.chamberMove with
  | none =>
    rw [State.chamberMoves_of_none hm]
    intro hst hseat
    have hwaits : s.ch.sweepWait.isStopped = false := by simpa [Timer.isStopped] using h hst
    rw [State.chamberMove_sweep hst, hwaits, hseat] at hm
    split at hm <;> simp at hm
  | some t =>
    rw [State.chamberMoves_of_some hm]
    exact chamberMoves_keeps_seatTaken (chamberMove_seatTaken hm) n

/-- The end of a step begins the sweep of a SWEEP that waits once its claim is seated (R86). -/
theorem concludeIf_sweepBegun {s : State} (hf : s.isFoam = true) (hp : s.ch.pending = false)
    (h : s.ch.st = .sweep → s.ch.sweepWait.st ≠ .stopped) (b : Bool) (old : State) :
    (s.concludeIf b old).sweepBegun (1000 * s.cfg.sweepTime) := by
  intro hseat hst
  obtain ⟨hch, -⟩ := State.concludeIf_rest hf hp rfl b old
  rw [State.concludeIf_ownSeated hf hp rfl] at hseat
  have hst' : (s.chamberMoves 6).ch.st = .sweep := by simpa [hch] using hst
  obtain ⟨wait, sweep⟩ := chamberMoves_seatTaken h 5 hst' hseat
  have hvalve := State.concludeIf_chamberValve hf hp rfl b old
  simp only [State.valves_iff (s := s.concludeIf b old) (by simpa [State.isFoam] using hf) (by simpa using hp), hvalve,
    hch]
  refine ⟨by simpa using wait, ?_⟩
  rw [State.settleSweep, if_pos hst']
  exact Timer.follow_full (Or.inr (by simpa using sweep)) _

/-! ### The end of a command -/

/-- What a command has done to a waiting SWEEP before the end of its step: the chamber is at work, and in SWEEP its
wait stands. -/
def State.leavesWait (s v : State) : Prop :=
  v.cfg = s.cfg ∧ v.ch.pending = s.ch.pending ∧ (v.ch.st = .sweep → v.ch.sweepWait = s.ch.sweepWait)

/-- How a command comes to its end. -/
inductive SweepEnd (s t : State) : Prop
  | emptied (hst : t.ch.st ≠ .sweep)
  | unmoved (hms : t.ms = s.ms) (hboot : t.boot = s.boot)
  | concluded (v : State) (b : Bool) (old : State) (hv : s.leavesWait v) (ht : t = v.concludeIf b old)

namespace SweepEnd

variable {s : State}

theorem refl (s : State) : SweepEnd s s := .unmoved rfl rfl

theorem conclude {v old : State} (hv : s.leavesWait v) : SweepEnd s (v.conclude old) := .concluded v false old hv rfl

theorem guard {p : Prop} [Decidable p] {t : State} (h : p → SweepEnd s t) : SweepEnd s (if p then t else s) := by
  split
  · exact h ‹p›
  · exact refl s

/-- However a command has come to its end, a seat that it brings has begun the sweep (R86). -/
theorem sweepBegun {t : State} (h : SweepEnd s t) (hf : s.isFoam = true) (hp : s.ch.pending = false)
    (hw : s.ch.sweepWait.st ≠ .stopped) (hs : s.ownSeated = false) : t.sweepBegun (1000 * s.cfg.sweepTime) := by
  cases h with
  | emptied hst => exact fun _ h => absurd h hst
  | unmoved hms hboot => exact fun h => by simp [State.ownSeated_congr hms hboot, hs] at h
  | concluded v b old hv ht =>
    obtain ⟨hcfg, hpend, hwait⟩ := hv
    rw [ht, ← hcfg]
    exact concludeIf_sweepBegun (by simpa [State.isFoam, hcfg] using hf) (hpend.trans hp)
      (fun hst => by rwa [hwait hst]) b old

end SweepEnd

/-- A state that has only taken note of a telegram's sender. -/
structure Heard (s u : State) : Prop where
  ms : u.ms = s.ms
  boot : u.boot = s.boot
  cfg : u.cfg = s.cfg
  ch : u.ch = s.ch

theorem Heard.unmoved {s u : State} (h : Heard s u) : SweepEnd s u := .unmoved h.ms h.boot

/-- Hearing a telegram ends as its own effect does, if it comes to that. -/
theorem SweepEnd.hear {s : State} {f : Frame} {act : State → State} (ha : ∀ u, Heard s u → SweepEnd s (act u)) :
    SweepEnd s (s.hear f act) := by
  have hend : SweepEnd s s.endReception := .unmoved (by simp) (by simp)
  unfold State.hear
  split
  · exact .refl s
  · dsimp only
    split
    · exact hend
    · split
      · exact hend
      · split
        · exact .conclude (by simp [State.leavesWait])
        · split
          · exact hend
          · exact ha _ ⟨by simp, by simp, by simp, by simp⟩

theorem SweepEnd.hearKind {s : State} {k : Kind} {f : Frame} {act : State → State}
    (ha : ∀ u, Heard s u → SweepEnd s (act u)) : SweepEnd s (s.hearKind k f act) := by
  refine SweepEnd.hear fun u hu => ?_
  have hd : Heard s (u.downstreamChange s) :=
    ⟨by simp [hu.ms], by simp [hu.boot], by simp [hu.cfg], by simp [hu.ch]⟩
  split
  · exact ha _ hd
  · exact .unmoved hd.ms hd.boot

/-- Every command in RUN. -/
theorem exec_sweepEnd {c : Instr} {s t : State} (hr : s.phase = .run) (h : exec c s = .next t) : SweepEnd s t := by
  have hhold : s.phase ≠ .hold := by simp [hr]
  cases c with
  | start cause =>
    cases h
    exact .emptied (by simp [State.enterHold, State.emptied])
  | supplyWarning d =>
    cases h
    rw [if_neg hhold]
    dsimp only
    split
    · exact .emptied (by simp [State.enterHold, State.emptied])
    · split
      · exact .conclude (by simp [State.leavesWait, State.warnSupply])
      · exact .refl s
  | starting | joiningEnd =>
    cases h
    simp [hr, SweepEnd.refl]
  | inputFilterFill pin =>
    cases h
    refine .guard fun _ => ?_
    dsimp only
    split
    next hs => simp [hr] at hs
    next => exact .conclude (by simp [State.leavesWait])
  | tripFilterMet x | recoveryTimerExpiry x | ilkFall | ilkRise | clampTimeout | classifyTimeExpiry | pulldownReached
  | pulldownTimeout | starvationPromotion | releaseTimeExpiry | ownHazardChange | oxygenHigh | oxygenUnderRunLimit
  | inertReached | purgeClearMet | carryOverExpiry x | srfChange | sweepWaitExpiry | sweepTimerExpiry
  | sweepRetryExpiry | purgeWaitExpiry | answerTimerExpiry | holdOffExpiry | peerStale x | headerHigh
  | faultClearButton | clcFall =>
    cases h
    exact .guard fun _ => .conclude (by simp [State.leavesWait])
  | doorTimerExpiry =>
    cases h
    exact .guard fun _ => .concluded _ true s (by simp [State.leavesWait]) rfl
  | pStart | statusTimerExpiry | serviceStatusExpiry | serviceIdleTimerExpiry | telegramDiscard x =>
    cases h
    exact .guard fun _ => .unmoved (by simp) (by simp)
  | stationSample x =>
    cases h
    simp only [if_neg hhold]
    split
    next hs => simp [hr] at hs
    next =>
      split
      · exact .conclude (by simp [State.leavesWait])
      · exact .unmoved (by simp) (by simp)
  | valveDiscrepancy r =>
    cases h
    refine .guard fun _ => ?_
    dsimp only
    split
    · refine .conclude ?_
      split <;> simp [State.leavesWait]
    · exact .unmoved (by simp) (by simp)
  | hcdRise | headerRecovered | purgeNeeded | drcFall | zeroWindowComplete =>
    cases h
    refine .guard fun _ => .conclude ?_
    split <;> simp [State.leavesWait]
  | drcRise =>
    cases h
    refine .guard fun _ => ?_
    dsimp only
    split
    · exact .concluded _ _ _ (by simp [State.leavesWait]) rfl
    · exact .conclude (by simp [State.leavesWait])
  | startEdge | clcRise =>
    cases h
    refine .guard fun _ => ?_
    split
    · exact .conclude (by simp [State.leavesWait])
    · exact .unmoved (by simp) (by simp)
  | holdTimeExpiry | quiet =>
    cases h
    refine .guard fun _ => ?_
    split
    · exact .conclude (by simp [State.leavesWait])
    · exact .refl s
  | lineIdle | lineBusy =>
    cases h
    split <;> exact .unmoved (by simp) (by simp)
  | transmitStart bits =>
    cases h
    split
    · exact .refl s
    · exact .guard fun _ => .unmoved (by simp) (by simp)
  | collision =>
    cases h
    split
    · exact .refl s
    · refine .conclude ?_
      split <;> simp [State.leavesWait]
  | transmitComplete =>
    cases h
    split
    · exact .refl s
    · exact .conclude (by simp [State.leavesWait])
  | configCommitVerify ws =>
    cases h
    split <;> exact .unmoved (by simp) (by simp)
  | commitBegin =>
    cases h
    split
    · exact .refl s
    · split
      · exact .refl s
      · exact .guard fun _ => .unmoved (by simp) (by simp)
  | commitVerify bs =>
    cases h
    split
    · exact .refl s
    · refine .conclude ?_
      split <;> simp [State.leavesWait]
  | collectMark =>
    cases h
    split
    · exact .refl s
    · exact .guard fun _ => .conclude (by simp [State.leavesWait])
  | supplyWarningEnd d =>
    cases h
    simp only [if_neg hhold]
    exact .guard fun _ => .conclude (by simp [State.leavesWait])
  | faultClear f | release f | purgeCall f | purgeClear f | purgeEnd f =>
    cases h
    exact .hearKind fun u hu => .conclude (by simp [State.leavesWait, hu.cfg, hu.ch])
  | certificate f | readData f | checkResult f | configAnswer f =>
    cases h
    exact .hearKind fun u hu => hu.unmoved
  | read f | collect f | checkRange f =>
    cases h
    exact .hearKind fun u hu => .unmoved (by simp [hu.ms]) (by simp [hu.boot])
  | readNext f =>
    cases h
    refine .hearKind fun u hu => ?_
    split <;> exact .unmoved (by simp [hu.ms]) (by simp [hu.boot])
  | claim f =>
    cases h
    refine .hearKind fun u hu => ?_
    split
    · exact .conclude (by simp [State.leavesWait, hu.cfg, hu.ch])
    · exact hu.unmoved
  | announce f | closeAccount f | abandonAccount f | offer f | accept f | refuse f =>
    cases h
    refine .hearKind fun u hu => ?_
    split
    · exact .conclude (by simp [State.leavesWait, hu.cfg, hu.ch])
    · exact hu.unmoved
  | key f | configWrite f | configCommit f =>
    cases h
    simp only [hr]
    exact .hearKind fun u hu => hu.unmoved
  | status f =>
    cases h
    refine .hear fun u hu => ?_
    split
    · exact .conclude (by simp [State.leavesWait, hu.cfg, hu.ch])
    · exact .unmoved (by simp [hu.ms]) (by simp [hu.boot])
  | kindCodeNotInTable code f =>
    cases h
    split
    · exact .refl s
    · exact .hear fun u hu => .unmoved (by simp [hu.ms]) (by simp [hu.boot])

end Sys2Proof.Machine
end

section
/-! PROOF. The sweep (O46): the expiries of its timer, its wait and its retry, and the seat that starts its timer. -/

namespace Sys2Proof.Machine

/-! ### The telegrams of a claim released and raised -/

section
variable {s : State}

theorem State.send_length_le {k : Kind} (hk : k ≠ .status) (h : s.li.room = true) (dst : Nat) (p : List Byte) :
    (s.send k dst p).li.queue.length ≤ s.li.queue.length + 1 := by
  simp only [State.send, State.setLi_li, Line.enqueue, hk, h, if_false, if_true]
  (repeat' split)
  · exact Nat.le_succ _
  · exact (List.length_filter_le ..).trans (Nat.le_succ _)
  · exact (insertTelegram_length ..).le

/-- A RELEASE takes at most one place of the transmit queue (R100, R163). -/
theorem State.releaseClaim_length (h : s.li.queue.length ≤ 4) : s.releaseClaim.li.queue.length ≤ 5 := by
  unfold State.releaseClaim
  split
  · omega
  · have hroom : s.li.room = true := Line.room_of_length (by omega)
    exact (State.send_length_le (by decide) hroom _ _).trans (Nat.succ_le_succ h)

/-- The RELEASE of a claim that is held waits (R100). -/
theorem State.releaseClaim_waits (h : s.li.queue.length ≤ 4) (hown : s.ms.own.isSome = true) :
    s.releaseClaim.waits .release 31 [] := by
  obtain ⟨c, hc⟩ := Option.isSome_iff_exists.mp hown
  have hroom : s.li.room = true := Line.room_of_length (by omega)
  simp only [State.releaseClaim, hc]
  exact ⟨_, Line.mem_enqueue_self (by simp) (by simp) (by simp) (Or.inl hroom), rfl, rfl, rfl⟩

/-- A telegram that waits still waits once a claim is raised while a place is free (R99, R163). -/
theorem State.waits_raiseClaim {k : Kind} {dst : Nat} {p : List Byte} (h : s.waits k dst p) (hs : k ≠ .status)
    (hp : k ≠ .purgeCall) (hroom : s.li.room = true) (r : Route) (c : ClaimClass) :
    (s.raiseClaim r c).waits k dst p := by
  obtain ⟨m, hm, rfl, hdst, hpay⟩ := h
  exact ⟨m, Line.mem_enqueue_of_mem hm hs hp (Or.inl hroom) _, rfl, hdst, hpay⟩

/-- What waits when the chamber rests, with a place free, waits at the end of the step. -/
theorem State.waits_concludeIf {u : State} (hf : s.isFoam = true) (hp : s.ch.pending = false)
    (hu : s.chamberMoves 6 = u) {k : Kind} {dst : Nat} {p : List Byte} (h : u.waits k dst p) (hk : k ≠ .status)
    (hroom : u.li.room = true) (b : Bool) (old : State) : (s.concludeIf b old).waits k dst p := by
  obtain ⟨m, hm, rfl, hdst, hpay⟩ := h
  exact ⟨m, State.mem_concludeIf hf hp hu b old hm hk (Or.inl hroom), rfl, hdst, hpay⟩

/-- READY without an own claim raises the PRIORITY claim of the chamber route (R77). -/
theorem State.enterReady_of_none (h : s.ms.own = none) : s.enterReady =
    ((s.setChamberState .ready).setInert s.mu.window Comparator.disarm).raiseClaim s.chamberRoute .priority := by
  simp [State.enterReady, State.setChamberState, State.setInert, State.chamberRoute, h]

end

/-! ### The expiries -/

/-- The sweep has run to its end (R86). -/
def State.sweepDone (s : State) : State :=
  (s.setCh { s.ch with sweep := Timer.stopped, cls := s.ch.cls.other }).releaseClaim

/-- The sweep has waited in vain (R87). -/
def State.sweepGivenUp (s : State) : State :=
  ((s.setCh { s.ch with
      sweepWait := Timer.stopped
      sweepRetry := Timer.start (1000 * s.cfg.sweepRetry) }).releaseClaim).addCode 26

/-- The retry time is over (R87). -/
def State.retryOver (s : State) : State := s.setCh { s.ch with sweepRetry := Timer.stopped }

section
variable {s : State}

theorem exec_sweepTimerExpiry (hst : s.ch.st = .sweep) (hd : s.ch.sweep.due = true) :
    exec .sweepTimerExpiry s = .next (s.sweepDone.enterInerting.conclude s) := by
  simp [exec, execSweepTimerExpiry, hst, hd, State.sweepDone]

theorem exec_sweepWaitExpiry (hst : s.ch.st = .sweep) (hd : s.ch.sweepWait.due = true) :
    exec .sweepWaitExpiry s = .next (s.sweepGivenUp.enterReady.conclude s) := by
  simp [exec, execSweepWaitExpiry, hst, hd, State.sweepGivenUp]

theorem exec_sweepRetryExpiry (hd : s.ch.sweepRetry.due = true) :
    exec .sweepRetryExpiry s = .next (s.retryOver.conclude s) := by
  simp [exec, execSweepRetryExpiry, hd, State.retryOver]

/-- A head of the other class does not enter (R82). -/
theorem entryConditions_of_head (h : ∀ c, s.headClass = some c → c ≠ s.ch.cls) : s.entryConditions = false := by
  rw [← Bool.not_eq_true, State.entryConditions_iff]
  rintro ⟨hhead, -⟩
  exact h _ hhead rfl

/-- No sweep begins within the retry time (R87). -/
theorem sweepConditions_of_retry (h : s.ch.sweepRetry.st = .running) : s.sweepConditions = false := by
  rw [← Bool.not_eq_true, State.sweepConditions_iff]
  rintro ⟨-, -, hretry, -⟩
  exact hretry h

/-- A given-up sweep adds code 26, which has no part in DE (R87, R144). -/
theorem sweepGivenUp_pu (hde : s.pu.de = true) (hrule : s.pu.de = s.driveRule) :
    s.sweepGivenUp.pu.de = true ∧ ∀ n, n ∈ s.sweepGivenUp.pu.codes ↔ n = 26 ∨ n ∈ s.pu.codes := by
  have hcodes (n : Nat) : n ∈ s.sweepGivenUp.pu.codes ↔ n = 26 ∨ n ∈ s.pu.codes := by
    simp [State.sweepGivenUp, mem_insertCode]
  refine ⟨?_, hcodes⟩
  have hkept : s.sweepGivenUp.driveRule = s.driveRule :=
    driveRule_of_harmless (l := [26]) (by simp [State.sweepGivenUp]) (by simp [State.sweepGivenUp])
      (by decide) fun c hc => by simp [hcodes, List.mem_singleton.not.mp hc]
  calc s.sweepGivenUp.pu.de = s.sweepGivenUp.driveRule := State.addCode_de ..
    _ = true := by rw [hkept, ← hrule, hde]

/-- READY after a given-up sweep rests (R80, R87). -/
theorem sweepGivenUp_rests (hde : s.sweepGivenUp.pu.de = true) (hh : s.pt.ownHazard ≠ .stop)
    (ho : s.mu.cmp.oxygenHigh.met = false) (hhead : ∀ c, s.headClass = some c → c ≠ s.ch.cls) :
    s.sweepGivenUp.enterReady.chamberMove = none := by
  refine chamberMove_ready_rests (by simp) ?_ ?_ ?_
  · rw [State.haltCause_eq_false_iff (by decide)]
    exact ⟨by simpa using hde, by simpa [State.sweepGivenUp] using hh, by simpa [State.sweepGivenUp] using ho⟩
  · exact entryConditions_of_head (by simpa [State.headClass, State.sweepGivenUp] using hhead)
  · exact sweepConditions_of_retry (by simp [State.sweepGivenUp, Timer.start])

/-- The telegrams that wait after a given-up sweep: the CLAIM of READY, and the RELEASE of a claim held (R87). -/
theorem sweepGivenUp_waits (hf : s.isFoam = true) (hq : s.li.queue.length ≤ 4) :
    s.sweepGivenUp.enterReady.li.room = true
    ∧ s.sweepGivenUp.enterReady.waits .claim 31 (claimBytes .foam
        ⟨s.ch.cls.route, .priority, min s.cfg.ownDemand (s.cfg.cap s.ch.cls.route)⟩)
    ∧ (s.ms.own.isSome = true → s.sweepGivenUp.enterReady.waits .release 31 []) := by
  have hrole : s.cfg.role = .foam := by simpa [State.isFoam] using hf
  have hlength : s.sweepGivenUp.li.queue.length ≤ 5 := State.releaseClaim_length (s := s.setCh _) hq
  rw [State.enterReady_of_none (by simp [State.sweepGivenUp])]
  obtain ⟨claim, room⟩ := State.raiseClaim_waits
    (s := (s.sweepGivenUp.setChamberState .ready).setInert s.sweepGivenUp.mu.window Comparator.disarm)
    s.sweepGivenUp.chamberRoute .priority hlength
  refine ⟨room, ?_, fun hown => ?_⟩
  · simpa [State.waits, State.sweepGivenUp, State.chamberRoute, State.setChamberState, State.setInert, hrole]
      using claim
  · refine State.waits_raiseClaim ?_ (by decide) (by decide) (Line.room_of_length (hlength.trans (by decide))) _ _
    exact State.releaseClaim_waits (s := s.setCh _) hq hown

/-- READY with the conditions of SWEEP enters it and rests there until the claim is seated (R86, R107). -/
theorem chamberMoves_sweep_enters (hst : s.ch.st = .ready) (hw : s.sweepConditions = true) (n : Nat) :
    s.chamberMoves (n + 1) = s.enterSweep := by
  obtain ⟨hhead, -, -, hc⟩ := State.sweepConditions_iff.mp hw
  have hother : s.entryConditions = false := by
    refine entryConditions_of_head fun c h => ?_
    rw [hhead, Option.some.injEq] at h
    exact ChamberClass.ne_iff_other.mpr h.symm
  have hmove : s.chamberMove = some s.enterSweep := by
    rw [State.chamberMove_ready hst, hc, hother, hw]
    rfl
  have hc' : s.enterSweep.haltCause .sweep = false := by
    rw [State.haltCause_eq_false_iff (by decide)] at hc ⊢
    simpa using hc
  have hrest : s.enterSweep.chamberMove = none := by
    rw [State.chamberMove_sweep (by simp), hc']
    simp [State.enterSweep]
  rw [State.chamberMoves_of_some hmove, State.chamberMoves_of_none hrest]

/-- What SWEEP begins with (R86): the wait, and the EXCLUSIVE claim in the place of the one held. -/
theorem State.enterSweep_spec (s : State) : s.enterSweep.ch.sweepWait = Timer.start (1000 * s.cfg.sweepWait) ∧
    s.enterSweep.ms.own =
      some ⟨s.ch.cls.route, .exclusive, min s.cfg.ownDemand (s.cfg.cap s.ch.cls.route)⟩ ∧
    s.enterSweep.ownSeated = false := by
  simp [State.enterSweep, State.chamberRoute]

/-- Its CLAIM waits (R99). -/
theorem State.enterSweep_waits (hf : s.isFoam = true) (hq : s.li.queue.length ≤ 4) :
    s.enterSweep.li.room = true ∧ s.enterSweep.waits .claim 31 (claimBytes .foam
      ⟨s.ch.cls.route, .exclusive, min s.cfg.ownDemand (s.cfg.cap s.ch.cls.route)⟩) := by
  have hrole : s.cfg.role = .foam := by simpa [State.isFoam] using hf
  obtain ⟨claim, room⟩ := State.raiseClaim_waits
    (s := (s.setCh { s.ch with st := .sweep, sweepWait := Timer.start (1000 * s.cfg.sweepWait) }).releaseClaim)
    s.chamberRoute .exclusive (State.releaseClaim_length (s := s.setCh _) hq)
  exact ⟨room, by simpa [State.waits, State.enterSweep, State.chamberRoute, hrole] using claim⟩

/-- SWEEP without a halt cause is left by no change of state (R86, R90). -/
theorem chamberMoves_sweep_stays (hst : s.ch.st = .sweep) (hc : s.haltCause .sweep = false) (n : Nat) :
    (s.chamberMoves n).ch.st = .sweep := by
  induction n generalizing s with
  | zero => exact hst
  | succ n ih =>
    cases hm : s.chamberMove with
    | none => rwa [State.chamberMoves_of_none hm]
    | some t =>
      rw [State.chamberMoves_of_some hm]
      rw [State.chamberMove_sweep hst, hc] at hm
      obtain rfl : s.startSweep = t := by
        split at hm
        next h => cases h
        next => split at hm <;> cases hm; rfl
      exact ih (by simp [State.startSweep, hst]) (by simpa [State.startSweep, State.haltCause] using hc)

end

/-! ### The end of each step -/

section
variable {s : State} (hf : s.isFoam = true) (hp : s.ch.pending = false) (old : State)
include hf hp

/-- The end of a sweep changes the class and enters INERTING (R86). -/
theorem conclude_sweepDone (hde : s.pu.de = true) (hh : s.pt.ownHazard ≠ .stop) :
    let t := s.sweepDone.enterInerting.conclude old
    t.ch.cls = s.ch.cls.other ∧ t.ch.st = .inerting ∧ t.ch.zeroDone = false ∧ t.ms.own = none
      ∧ t.ch.sweep = Timer.stopped ∧ t.mu.window = Window.opened ∧ t.mu.cmp.inert = Comparator.arm := by
  have hf' : s.sweepDone.enterInerting.isFoam = true := by simpa [State.isFoam, State.sweepDone] using hf
  have hp' : s.sweepDone.enterInerting.ch.pending = false := by simpa [State.sweepDone] using hp
  have hu := State.chamberMoves_of_none
    (State.enterInerting_rests (s := s.sweepDone) (by simpa [State.sweepDone] using hde)
      (by simpa [State.sweepDone] using hh)) 6
  obtain ⟨hch, -⟩ := State.concludeIf_rest hf' hp' hu false old
  obtain ⟨st, zeroDone, window, inert, own⟩ := State.concludeIf_entered_inerting hf' hp' false old hu
  rw [State.settleSweep_of_ne (by simp)] at hch
  exact ⟨by rw [State.conclude, hch]; simp [State.sweepDone], st, zeroDone, own,
    by rw [State.conclude, hch]; simp [State.sweepDone], window, inert⟩

/-- The end of the wait gives the sweep up for READY and the retry time (R87). -/
theorem conclude_sweepGivenUp (hde : s.pu.de = true) (hrule : s.pu.de = s.driveRule) (hh : s.pt.ownHazard ≠ .stop)
    (ho : s.mu.cmp.oxygenHigh.met = false) (hhead : ∀ c, s.headClass = some c → c ≠ s.ch.cls) :
    let claim : Claim := ⟨s.ch.cls.route, .priority, min s.cfg.ownDemand (s.cfg.cap s.ch.cls.route)⟩
    let t := s.sweepGivenUp.enterReady.conclude old
    t.ch.st = .ready ∧ t.ch.cls = s.ch.cls ∧ t.ch.sweepWait = Timer.stopped
      ∧ t.ch.sweepRetry = Timer.start (1000 * s.cfg.sweepRetry)
      ∧ (∀ n, n ∈ t.pu.codes ↔ n = 26 ∨ n ∈ s.pu.codes) ∧ t.ms.own = some claim
      ∧ t.ownSeated = false
      ∧ (s.li.queue.length ≤ 4 → t.waits .claim 31 (claimBytes .foam claim)
          ∧ (s.ms.own.isSome = true → t.waits .release 31 [])) := by
  intro claim t
  obtain ⟨de, codes⟩ := sweepGivenUp_pu hde hrule
  have hf' : s.sweepGivenUp.enterReady.isFoam = true := by simpa [State.isFoam, State.sweepGivenUp] using hf
  have hp' : s.sweepGivenUp.enterReady.ch.pending = false := by simpa [State.sweepGivenUp] using hp
  have hu := State.chamberMoves_of_none (sweepGivenUp_rests de hh ho hhead) 6
  obtain ⟨hch, hms, hpu, -⟩ := State.concludeIf_rest hf' hp' hu false old
  rw [State.settleSweep_of_ne (by simp)] at hch
  have hnone : s.sweepGivenUp.ms.own = none := by simp [State.sweepGivenUp]
  obtain ⟨-, own, seat⟩ := s.sweepGivenUp.enterReady_spec
  rw [hnone] at own
  have hch' : t.ch = s.sweepGivenUp.enterReady.ch := hch
  have hms' : t.ms = s.sweepGivenUp.enterReady.ms := hms
  have hpu' : t.pu = s.sweepGivenUp.enterReady.pu := hpu
  refine ⟨by simp [hch'], by simp [hch', State.sweepGivenUp], by simp [hch', State.sweepGivenUp],
    by simp [hch', State.sweepGivenUp], fun n => ?_, ?_, ?_, fun hq => ?_⟩
  · rw [hpu', ← codes]
    simp
  · simpa [hms', State.sweepGivenUp, claim] using own
  · exact (State.concludeIf_ownSeated hf' hp' hu false old).trans (seat hnone)
  · obtain ⟨room, claims, releases⟩ := sweepGivenUp_waits hf hq
    exact ⟨State.waits_concludeIf hf' hp' hu claims (by decide) room false old,
      fun hown => State.waits_concludeIf hf' hp' hu (releases hown) (by decide) room false old⟩

/-- The end of the retry time stops its timer. -/
theorem conclude_retryOver : (s.retryOver.conclude old).ch.sweepRetry = Timer.stopped := by
  obtain ⟨hch, -⟩ := State.concludeIf_rest (s := s.retryOver) hf hp rfl false old
  rw [State.conclude, hch]
  simp [State.retryOver]

/-- The conditions of SWEEP then begin its wait anew with the EXCLUSIVE claim (R86, R87). -/
theorem conclude_retryOver_sweeps (hde : s.pu.de = true) (hh : s.pt.ownHazard ≠ .stop) (hst : s.ch.st = .ready)
    (hhead : s.headClass = some s.ch.cls.other) (hempty : s.ac.chamber = []) (ho : s.mu.cmp.oxygenHigh.met = false) :
    let claim : Claim := ⟨s.ch.cls.route, .exclusive, min s.cfg.ownDemand (s.cfg.cap s.ch.cls.route)⟩
    let t := s.retryOver.conclude old
    t.ch.st = .sweep ∧ t.ch.sweepWait = Timer.start (1000 * s.cfg.sweepWait)
      ∧ t.ms.own = some claim ∧ t.ownSeated = false
      ∧ (s.li.queue.length ≤ 4 → t.waits .claim 31 (claimBytes .foam claim)) := by
  intro claim t
  have hc : s.retryOver.haltCause .ready = false := (State.haltCause_eq_false_iff (by decide)).mpr ⟨hde, hh, ho⟩
  have hw : s.retryOver.sweepConditions = true :=
    State.sweepConditions_iff.mpr ⟨hhead, hempty, by simp [State.retryOver, Timer.stopped], hc⟩
  have hu : s.retryOver.chamberMoves 6 = s.retryOver.enterSweep := chamberMoves_sweep_enters (s := s.retryOver) hst hw 5
  obtain ⟨hch, hms, -⟩ := State.concludeIf_rest (s := s.retryOver) hf hp hu false old
  obtain ⟨wait, own, seat⟩ := s.retryOver.enterSweep_spec
  have hch' : t.ch = s.retryOver.enterSweep.settleSweep.ch := hch
  refine ⟨by simp [hch'], by simpa [hch', State.retryOver] using wait, (congrArg Manifold.own hms).trans own, ?_,
    fun hq => ?_⟩
  · exact (State.concludeIf_ownSeated (s := s.retryOver) hf hp hu false old).trans seat
  · obtain ⟨room, claims⟩ := State.enterSweep_waits (s := s.retryOver) hf hq
    exact State.waits_concludeIf (s := s.retryOver) hf hp hu claims (by decide) room false old

/-- The end of a step leaves a SWEEP without a halt cause (R86, R90). -/
theorem conclude_sweep_stays (hst : s.ch.st = .sweep) (hc : s.haltCause .sweep = false) :
    (s.conclude old).ch.st = .sweep := by
  obtain ⟨hch, -⟩ := State.concludeIf_rest hf hp rfl false old
  rw [State.conclude, hch]
  simpa using chamberMoves_sweep_stays hst hc 6

end

/-! ### The RELEASE of a peer -/

theorem exec_release {s : State} {f : Frame} (h : s.takes .release f = true) :
    exec (.release f) s = .next (((s.noted f).dropClaim f.src.toNat).conclude s) := by
  simp [exec, execRelease, State.hearKind_of_takes h]

/-- It reads the hazard of no station, so halts no chamber (R90, R104). -/
theorem haltCause_released (s : State) (f : Frame) (st : ChamberState) :
    ((s.noted f).dropClaim f.src.toNat).haltCause st = s.haltCause st := by
  have hhazard : (s.noted f).pt.ownHazard = s.pt.ownHazard := by simp [State.noted]
  simp [State.haltCause, hhazard]

/-! ### The obligation -/

/-- DE is set in RUN alone (R144). -/
theorem run_of_de {s : State} (hde : s.pu.de = true) (hrule : s.pu.de = s.driveRule) : s.phase = .run := by
  rw [hrule, State.driveRule, Bool.and_eq_true] at hde
  simpa [State.inRun] using hde.1

/-- Settles O46: the three expiries, and the seat by any command, from how each command comes to its end. -/
theorem sweepChangesTheChamberClass : Obligations.SweepChangesTheChamberClass := by
  intro s hf hp hde hrule hh
  have hrun := run_of_de hde hrule
  refine ⟨fun hst hd => ⟨_, exec_sweepTimerExpiry hst hd, conclude_sweepDone hf hp s hde hh⟩,
    fun hst hd ho hhead => ⟨_, exec_sweepWaitExpiry hst hd, ?_⟩,
    fun hd => ⟨_, exec_sweepRetryExpiry hd, conclude_retryOver hf hp s, conclude_retryOver_sweeps hf hp s hde hh⟩,
    fun hst hw hseat => ⟨fun c t h => (exec_sweepEnd hrun h).sweepBegun hf hp hw hseat, fun f htakes ho =>
      ⟨_, exec_release htakes, ?_, (exec_sweepEnd hrun (exec_release htakes)).sweepBegun hf hp hw hseat⟩⟩⟩
  · obtain ⟨st, cls, wait, retry, codes, own, seat, waits⟩ := conclude_sweepGivenUp hf hp s hde hrule hh ho hhead
    exact ⟨st, cls, wait, retry, codes, own, fun _ => seat, waits⟩
  · have hc : s.haltCause .sweep = false := (State.haltCause_eq_false_iff (by decide)).mpr ⟨hde, hh, ho⟩
    exact conclude_sweep_stays (by simpa [State.isFoam] using hf) (by simpa using hp) s (by simpa using hst)
      ((haltCause_released s f .sweep).trans hc)

end Sys2Proof.Machine
end

section
/-! PROOF. Which commands write the line's level, the transmitter, the peer entries, the own hazard and the items of
the Manifold Share Unit (O7): for each command the list of these items its effect touches, and the list is within what
the command may write. -/

namespace Sys2Proof.Machine

/-! ### The items and what leaves them -/

/-- The items of the line, the peer table and the manifold share whose writers O7 names, and the phase with the
configuration in use. -/
inductive ShareItem
  | lineLevel | transmitter | peers | ownHazard | lists | marks | backoff | call | phase

/-- An item stands in the second state as it stood in the first. -/
def ShareItem.same (s t : State) : ShareItem → Prop
  | .lineLevel => t.li.idle = s.li.idle
  | .transmitter => t.li.transmitter = s.li.transmitter
  | .peers => t.pt.entries = s.pt.entries
  | .ownHazard => t.pt.ownHazard = s.pt.ownHazard
  | .lists => t.ms.listA = s.ms.listA ∧ t.ms.listB = s.ms.listB
  | .marks => t.ms.marks = s.ms.marks
  | .backoff => t.ms.backoff = s.ms.backoff
  | .call => t.ms.call = s.ms.call
  | .phase => t.boot = s.boot ∧ t.cfg = s.cfg

/-- Whether a command may write an item. -/
def ShareItem.writtenBy (c : Instr) : ShareItem → Bool
  | .lineLevel => c.writesLineLevel
  | .transmitter => c.writesTransmitter
  | .peers => c.writesPeers
  | .ownHazard => c.writesOwnHazard
  | .lists => c.writesLists
  | .marks => c.writesMarks
  | .backoff => c.writesBackoff
  | .call => c.writesCall
  | .phase => c.writesPhase

/-- A change of the state moves no item but those of a list. -/
def Moves (l : List ShareItem) (s t : State) : Prop := ∀ i, i ∉ l → i.same s t

/-- `Moves` item by item: each is in the list or as it was. -/
theorem moves_iff {l : List ShareItem} {s t : State} :
    Moves l s t ↔
      (.lineLevel ∈ l ∨ t.li.idle = s.li.idle)
      ∧ (.transmitter ∈ l ∨ t.li.transmitter = s.li.transmitter)
      ∧ (.peers ∈ l ∨ t.pt.entries = s.pt.entries)
      ∧ (.ownHazard ∈ l ∨ t.pt.ownHazard = s.pt.ownHazard)
      ∧ (.lists ∈ l ∨ t.ms.listA = s.ms.listA ∧ t.ms.listB = s.ms.listB)
      ∧ (.marks ∈ l ∨ t.ms.marks = s.ms.marks)
      ∧ (.backoff ∈ l ∨ t.ms.backoff = s.ms.backoff)
      ∧ (.call ∈ l ∨ t.ms.call = s.ms.call)
      ∧ (.phase ∈ l ∨ t.boot = s.boot ∧ t.cfg = s.cfg) := by
  simp only [← or_iff_not_imp_left, Moves]
  constructor
  · intro h
    exact ⟨h .lineLevel, h .transmitter, h .peers, h .ownHazard, h .lists, h .marks, h .backoff, h .call, h .phase⟩
  · rintro ⟨level, transmitter, peers, hazard, lists, marks, backoff, call, phase⟩ i
    cases i <;> assumption

theorem Moves.trans {l : List ShareItem} {s t u : State} (h : Moves l s t) (k : Moves l t u) : Moves l s u := by
  intro i hi
  have hs : i.same s t := h i hi
  have ht : i.same t u := k i hi
  cases i <;> simp_all [ShareItem.same]

theorem Moves.refl (l : List ShareItem) (s : State) : Moves l s s := by simp [moves_iff]

/-- The end of a step moves none of the items. -/
theorem Moves.concluded {l : List ShareItem} {s t old : State} (h : Moves l s t) : Moves l s (t.conclude old) :=
  h.trans (by simp [moves_iff])

/-- A command whose condition has not come moves nothing. -/
theorem Moves.guard {l : List ShareItem} {p : Prop} [Decidable p] {s t : State} (ht : p → Moves l s t) :
    Moves l s (if p then t else s) := by
  split
  · exact ht ‹p›
  · exact Moves.refl l s

/-- The hearing of a telegram moves the peer entries alone. -/
theorem moves_carried {l : List ShareItem} (hp : .peers ∈ l) : Carried (Moves l) where
  refl := Moves.refl l
  trans := Moves.trans
  endReception s := by simp [moves_iff]
  refresh s a := by simp [moves_iff, hp]
  conflict s := by simp [moves_iff]
  downstream s old := by simp [moves_iff]
  conclude s old := by simp [moves_iff]

/-! ### What each command moves -/

/-- Every item. -/
def ShareItem.all : List ShareItem :=
  [.lineLevel, .transmitter, .peers, .ownHazard, .lists, .marks, .backoff, .call, .phase]

/-- The items a command's effect moves. -/
def Instr.moved : Instr → List ShareItem
  | .start _ | .starting => ShareItem.all
  | .supplyWarning d => if d < resetThreshold then ShareItem.all else []
  | .inputFilterFill _ | .joiningEnd => [.phase]
  | .stationSample _ => [.ownHazard, .backoff, .phase]
  | .lineIdle | .lineBusy => [.lineLevel]
  | .transmitStart _ => [.lineLevel, .transmitter]
  | .collision => [.transmitter]
  | .transmitComplete => [.transmitter, .lists, .call]
  | .headerHigh | .headerRecovered => [.backoff]
  | .ownHazardChange | .oxygenHigh => [.ownHazard, .lists]
  | .purgeNeeded | .purgeClearMet | .purgeWaitExpiry => [.call]
  | .peerStale _ => [.peers, .lists, .marks, .call]
  | .status _ | .purgeEnd _ => [.peers, .lists, .marks]
  | .claim _ | .release _ => [.peers, .lists]
  | .purgeCall _ => [.peers, .lists, .marks, .call]
  | .purgeClear _ => [.peers, .call]
  | c => if c.telegram.isSome then [.peers] else []

/-- The supply warning below the reset threshold may write every item. -/
theorem ShareItem.writtenBy_of_supplyReset {d : Nat} (h : d < resetThreshold) (i : ShareItem) :
    i.writtenBy (.supplyWarning d) = true := by
  have he : (Instr.supplyWarning d).empties = true := decide_eq_true h
  cases i <;> simp [writtenBy, Instr.writesLineLevel, Instr.writesTransmitter, Instr.writesPeers,
    Instr.writesOwnHazard, Instr.writesLists, Instr.writesMarks, Instr.writesBackoff, Instr.writesCall,
    Instr.writesPhase, he]

/-- A command moves only items it may write. -/
theorem moved_writtenBy (c : Instr) : (Instr.moved c).all (ShareItem.writtenBy c) = true := by
  cases c with
  | supplyWarning d =>
    by_cases h : d < resetThreshold
    · exact List.all_eq_true.mpr fun i _ => i.writtenBy_of_supplyReset h
    · simp only [Instr.moved, h, if_false]
      rfl
  | _ => rfl

/-- Every telegram may move a peer entry, that of its sender. -/
theorem peers_moved {c : Instr} (h : c.telegram.isSome = true) : .peers ∈ Instr.moved c := by
  cases c <;> simp_all [Instr.moved, Instr.telegram]

/-- Every item is in the list of all. -/
theorem moves_all (s t : State) : Moves ShareItem.all s t := by simp [moves_iff, ShareItem.all]

/-- The first sample moves the own hazard, the back-off and the phase. -/
theorem firstSample_moves (x : Sample) (s : State) : Moves [.ownHazard, .backoff, .phase] s (s.firstSample x) := by
  simp [moves_iff, State.firstSample]

/-- What the effect of a command moves. -/
theorem exec_moves {c : Instr} {s t : State} (h : exec c s = .next t) : Moves (Instr.moved c) s t := by
  have hc : c.telegram.isSome = true → Carried (Moves (Instr.moved c)) := fun h => moves_carried (peers_moved h)
  cases c with
  | start cause | starting => exact moves_all s t
  | supplyWarning d =>
    cases h
    by_cases hd : d < resetThreshold
    · simpa only [Instr.moved, hd, if_true] using moves_all s _
    · simp only [Instr.moved, hd, if_false]
      split
      · exact Moves.refl _ s
      · split <;> simp [moves_iff, State.warnSupply]
  | joiningEnd | tripFilterMet x | recoveryTimerExpiry x | ilkFall | ilkRise | clampTimeout | classifyTimeExpiry
  | pulldownReached | pulldownTimeout | pStart | starvationPromotion | releaseTimeExpiry | ownHazardChange
  | oxygenHigh | oxygenUnderRunLimit | inertReached | purgeClearMet | carryOverExpiry x | srfChange | doorTimerExpiry
  | sweepWaitExpiry | sweepTimerExpiry | sweepRetryExpiry | purgeWaitExpiry | answerTimerExpiry | holdOffExpiry
  | peerStale x | statusTimerExpiry | serviceStatusExpiry | serviceIdleTimerExpiry | telegramDiscard x
  | headerHigh | faultClearButton | clcFall =>
    cases h
    exact Moves.guard fun _ => by simp [moves_iff, Instr.moved]
  | lineIdle | lineBusy =>
    cases h
    split <;> simp [moves_iff, Instr.moved]
  | faultClear f | release f | purgeCall f | purgeClear f | purgeEnd f | certificate f | readData f | checkResult f
  | configAnswer f | read f | collect f | checkRange f =>
    cases h
    exact (hc rfl).hearKind _ _ _ fun t => by simp [moves_iff, Instr.moved]
  | readNext f | claim f =>
    cases h
    exact (hc rfl).hearKind _ _ _ fun t => by split <;> simp [moves_iff, Instr.moved]
  | announce f | closeAccount f | abandonAccount f | offer f | accept f | refuse f =>
    cases h
    exact (hc rfl).hearKind _ _ _ fun t => Moves.guard fun _ => by simp [moves_iff]
  | key f | configWrite f | configCommit f =>
    cases h
    have heard := hc rfl
    split
    · exact heard.hearService _ _ _ fun t => by simp [moves_iff]
    · exact heard.hearKind _ _ _ fun t => Moves.refl _ t
  | status f =>
    cases h
    exact (hc rfl).hear _ _ fun t => by split <;> simp [moves_iff, Instr.moved]
  | kindCodeNotInTable code f =>
    cases h
    have heard := hc rfl
    split
    · exact Moves.refl _ s
    · exact heard.hear _ _ fun t => heard.downstream t s
  | stationSample x =>
    cases h
    split
    · exact Moves.refl _ s
    · split
      · exact firstSample_moves x s
      · dsimp only
        split <;> simp [moves_iff]
  | valveDiscrepancy r =>
    cases h
    refine Moves.guard fun _ => ?_
    dsimp only
    split
    · refine Moves.concluded ?_
      split <;> simp [moves_iff]
    · simp [moves_iff]
  | hcdRise | headerRecovered | purgeNeeded | drcFall | zeroWindowComplete =>
    cases h
    refine Moves.guard fun _ => Moves.concluded ?_
    split <;> simp [moves_iff, Instr.moved]
  | drcRise =>
    cases h
    refine Moves.guard fun _ => ?_
    dsimp only
    split <;> simp [moves_iff]
  | inputFilterFill pin | startEdge | clcRise | holdTimeExpiry | quiet =>
    cases h
    refine Moves.guard fun _ => ?_
    split <;> simp [moves_iff, Instr.moved]
  | transmitStart bits =>
    cases h
    split
    · exact Moves.refl _ s
    · exact Moves.guard fun _ => by simp [moves_iff, Instr.moved]
  | collision =>
    cases h
    split
    · exact Moves.refl _ s
    · refine Moves.concluded ?_
      split <;> simp [moves_iff, Instr.moved]
  | transmitComplete | configCommitVerify ws =>
    cases h
    split <;> simp [moves_iff, Instr.moved]
  | commitBegin =>
    cases h
    split
    · exact Moves.refl _ s
    · split
      · exact Moves.refl _ s
      · exact Moves.guard fun _ => by simp [moves_iff]
  | commitVerify bs =>
    cases h
    split
    · exact Moves.refl _ s
    · refine Moves.concluded ?_
      split <;> simp [moves_iff]
  | collectMark =>
    cases h
    split
    · exact Moves.refl _ s
    · exact Moves.guard fun _ => by simp [moves_iff]
  | supplyWarningEnd d =>
    cases h
    split
    · simp [moves_iff]
    · exact Moves.guard fun _ => by simp [moves_iff]

/-- What a command may not write stands as it stood. -/
theorem exec_keepsItem {c : Instr} {s t : State} (h : exec c s = .next t) (i : ShareItem)
    (hw : i.writtenBy c = false) : i.same s t := by
  refine exec_moves h i fun hi => ?_
  have hwritten : i.writtenBy c = true := List.all_eq_true.mp (moved_writtenBy c) i hi
  simp [hw] at hwritten

/-- Settles O7: the items a command moves are among those it may write. -/
theorem lineAndManifoldWriters : Obligations.LineAndManifoldWriters := by
  intro c s t h
  exact ⟨exec_keepsItem h .lineLevel, exec_keepsItem h .transmitter, exec_keepsItem h .peers,
    exec_keepsItem h .ownHazard, exec_keepsItem h .lists, exec_keepsItem h .marks, exec_keepsItem h .backoff,
    exec_keepsItem h .call⟩

end Sys2Proof.Machine
end

section
/-! SUPPORT. The claim lists and the seating computation on one list (R102 to R112): what a new entry, a claimant's
leaving, a displacement, the walk and a whole run do to a list. -/

namespace Sys2Proof.Machine

/-! ### Entries -/

/-- The entry without its seat. -/
def ClaimEntry.unseated (e : ClaimEntry) : ClaimEntry := { e with seated := false }

@[simp] theorem ClaimEntry.unseated_frame (e : ClaimEntry) :
    e.unseated.claimant = e.claimant ∧ e.unseated.role = e.role ∧ e.unseated.cls = e.cls ∧
    e.unseated.demand = e.demand ∧ e.unseated.seated = false := ⟨rfl, rfl, rfl, rfl, rfl⟩

@[simp] theorem ClaimEntry.unseated_seat (e : ClaimEntry) (b : Bool) :
    ({ e with seated := b } : ClaimEntry).unseated = e.unseated := rfl

/-- A seated ORDINARY entry, which a PRIORITY one may displace (R111). -/
def ClaimEntry.displaceable (e : ClaimEntry) : Bool := e.seated && e.cls == .ordinary

/-- The entry once displaced, if it may be. -/
def ClaimEntry.vacated (e : ClaimEntry) : ClaimEntry := if e.displaceable then e.unseated else e

/-- A seated EXCLUSIVE entry (R112). -/
def ClaimEntry.holdsAlone (e : ClaimEntry) : Bool := e.seated && e.cls == .exclusive

@[simp] theorem ClaimEntry.vacated_of_not {e : ClaimEntry} (h : e.displaceable = false) : e.vacated = e := by
  simp [vacated, h]

@[simp] theorem ClaimEntry.vacated_unseated (e : ClaimEntry) : e.vacated.unseated = e.unseated := by
  unfold vacated
  split <;> rfl

/-- The demands of a list. -/
def demandSum (l : List ClaimEntry) : Nat := (l.map ClaimEntry.demand).sum

@[simp] theorem demandSum_nil : demandSum [] = 0 := rfl
@[simp] theorem demandSum_cons (e : ClaimEntry) (l : List ClaimEntry) :
    demandSum (e :: l) = e.demand + demandSum l := by simp [demandSum]

/-! ### The sum of the seated demands (R109) -/

@[simp] theorem seatedSum_nil : seatedSum [] = 0 := rfl
@[simp] theorem seatedSum_cons (e : ClaimEntry) (l : List ClaimEntry) :
    seatedSum (e :: l) = (if e.seated then e.demand else 0) + seatedSum l := by simp [seatedSum]
@[simp] theorem seatedSum_append (k l : List ClaimEntry) : seatedSum (k ++ l) = seatedSum k + seatedSum l := by
  simp [seatedSum]

theorem seatedSum_eq (l : List ClaimEntry) : seatedSum l = demandSum (l.filter fun e => e.seated) := by
  induction l with
  | nil => rfl
  | cons e l ih => cases h : e.seated <;> simp [h, ih]

theorem seatedSum_sublist {k l : List ClaimEntry} (h : k.Sublist l) : seatedSum k ≤ seatedSum l :=
  (h.map _).sum_le_sum (by simp)

/-- With every demand at least 1, S at 0 means that no entry is seated. -/
theorem unseated_of_seatedSum {l : List ClaimEntry} (hd : ∀ e ∈ l, 1 ≤ e.demand) (h : seatedSum l = 0) :
    ∀ e ∈ l, e.seated = false := by
  intro e he
  have hzero : (if e.seated then e.demand else 0) = 0 := by
    have hall := List.sum_eq_zero_iff.mp h
    exact hall _ (List.mem_map.mpr ⟨e, he, rfl⟩)
  have hpos := hd e he
  cases hs : e.seated
  · rfl
  · simp [hs] at hzero
    omega

/-- Displacing entries takes their demands from S. -/
theorem seatedSum_vacated (l : List ClaimEntry) :
    seatedSum (l.map ClaimEntry.vacated) + demandSum (l.filter ClaimEntry.displaceable) = seatedSum l := by
  induction l with
  | nil => rfl
  | cons e l ih =>
    cases h : e.displaceable
    · simp [h, ← ih]
      omega
    · have hs : e.seated = true := by
        simp only [ClaimEntry.displaceable, Bool.and_eq_true] at h
        exact h.1
      simp [h, ClaimEntry.vacated, hs, ← ih]
      omega

/-! ### Joining and leaving (R102 to R104) -/

/-- A new entry stands behind the entries of its rank and ahead of those ranked behind it. -/
theorem joinList_eq (x : ClaimEntry) (l : List ClaimEntry) :
    ∃ front back, l = front ++ back ∧ joinList x l = front ++ x :: back
      ∧ (∀ e ∈ front, e.cls.classRank ≤ x.cls.classRank)
      ∧ ∀ e, back.head? = some e → x.cls.classRank < e.cls.classRank := by
  induction l with
  | nil => exact ⟨[], [], rfl, rfl, by simp, by simp⟩
  | cons e l ih =>
    unfold joinList
    split
    · exact ⟨[], e :: l, rfl, rfl, by simp, by simpa⟩
    · obtain ⟨front, back, hl, hjoin, hfront, hback⟩ := ih
      refine ⟨e :: front, back, by simp [← hl], by simp [hjoin], ?_, hback⟩
      intro u hu
      obtain rfl | hu := List.mem_cons.mp hu
      · omega
      · exact hfront u hu

/-- A new entry is one more entry of the list. -/
theorem joinList_perm (x : ClaimEntry) (l : List ClaimEntry) : (joinList x l).Perm (x :: l) := by
  obtain ⟨front, back, hl, hjoin, -⟩ := joinList_eq x l
  rw [hjoin, hl]
  exact List.perm_middle

theorem leaveList_sublist (a : Nat) (l : List ClaimEntry) : (leaveList a l).Sublist l := List.filter_sublist

theorem claimant_ne_of_mem_leaveList {a : Nat} {l : List ClaimEntry} {e : ClaimEntry} (h : e ∈ leaveList a l) :
    e.claimant ≠ a := by
  simpa using (List.mem_filter.mp h).2

/-- A list without an entry of the claimant stays. -/
theorem leaveList_of_not_inList {a : Nat} {l : List ClaimEntry} (h : inList a l = false) : leaveList a l = l := by
  refine List.filter_eq_self.mpr fun e he => ?_
  simp only [inList, List.any_eq_false] at h
  simpa using h e he

/-! ### Displacement (R111) -/

/-- Displacement leaves the entries ahead of some place and vacates those from there on. It goes no further than the
demand needs, and stops short only where no seated ORDINARY entry is left. -/
theorem displace_spec (cap d : Nat) (l : List ClaimEntry) (total : Nat) :
    ∃ kept gone, l = kept ++ gone
      ∧ displace cap d l total
        = (kept ++ gone.map ClaimEntry.vacated, total - demandSum (gone.filter ClaimEntry.displaceable))
      ∧ (cap < total - demandSum (gone.filter ClaimEntry.displaceable) + d →
          ∀ e ∈ kept, e.displaceable = false)
      ∧ ∀ g rest, gone = g :: rest → g.displaceable = true
          ∧ cap < total - demandSum (rest.filter ClaimEntry.displaceable) + d := by
  induction l with
  | nil => exact ⟨[], [], rfl, rfl, by simp, by simp⟩
  | cons e l ih =>
    obtain ⟨kept, gone, hl, hdis, hall, hmin⟩ := ih
    simp only [displace, hdis]
    split
    · refine ⟨e :: kept, gone, by simp [hl], rfl, fun h => ?_, hmin⟩
      omega
    · rename_i hover
      have hkept : ∀ u ∈ kept, u.displaceable = false := hall (by omega)
      have hnone : kept.filter ClaimEntry.displaceable = [] :=
        List.filter_eq_nil_iff.mpr fun u hu => by simp [hkept u hu]
      split
      · rename_i he
        have he : e.displaceable = true := he
        have hsame : kept.map ClaimEntry.vacated = kept :=
          (List.map_congr_left fun u hu => ClaimEntry.vacated_of_not (hkept u hu)).trans (List.map_id' kept)
        refine ⟨[], e :: (kept ++ gone), by simp [hl], ?_, by simp, ?_⟩
        · simp [he, hsame, hnone, ClaimEntry.vacated, ClaimEntry.unseated]
          omega
        · rintro g rest ⟨rfl, rfl⟩
          refine ⟨he, ?_⟩
          simp [hnone]
          omega
      · rename_i he
        have he : e.displaceable = false := by simpa [ClaimEntry.displaceable] using he
        refine ⟨e :: kept, gone, by simp [hl], rfl, fun _ u hu => ?_, hmin⟩
        obtain rfl | hu := List.mem_cons.mp hu
        · exact he
        · exact hkept u hu

/-! ### The walk (R110, R111) -/

section
variable {cap total : Nat} {first behind : Bool} {x : ClaimEntry} {xs : List ClaimEntry}

/-- A seated entry is passed. -/
theorem walk_seated (h : x.seated = true) : walk cap first behind total (x :: xs) =
    x :: walk cap false (behind || x.cls == .exclusive) total xs := by
  rw [walk, if_pos h]

/-- An unseated entry with a demand above the capacity is passed over, but an EXCLUSIVE one. -/
theorem walk_passed (hs : x.seated = false) (hc : x.cls ≠ .exclusive) (hd : cap < x.demand) :
    walk cap first false total (x :: xs) = x :: walk cap false false total xs := by
  rw [walk]
  cases h : x.cls <;> simp_all

/-- An EXCLUSIVE entry is seated at the head with S at 0, and nothing behind it. -/
theorem walk_exclusive (hs : x.seated = false) (hc : x.cls = .exclusive) :
    walk cap first false total (x :: xs) =
      { x with seated := decide (first = true ∧ total = 0 ∧ x.demand ≤ cap) } :: xs := by
  rw [walk]
  by_cases h : first = true ∧ total = 0 ∧ x.demand ≤ cap
  · obtain ⟨hf, ht, hd⟩ := h
    simp [hs, hc, hf, ht, hd]
  · have hx : { x with seated := false } = x := by rw [← hs]
    simp only [h, decide_false, hx]
    simp_all

/-- A demand that fits is seated, and the walk goes on. -/
theorem walk_fits (hs : x.seated = false) (hc : x.cls ≠ .exclusive) (hd : total + x.demand ≤ cap) :
    walk cap first false total (x :: xs) =
      { x with seated := true } :: walk cap false false (total + x.demand) xs := by
  have hcap : ¬cap < x.demand := by omega
  rw [walk]
  cases h : x.cls <;> simp_all

/-- An ORDINARY entry that does not fit ends the walk. -/
theorem walk_ordinary (hs : x.seated = false) (hc : x.cls = .ordinary) (hcap : x.demand ≤ cap)
    (hd : cap < total + x.demand) : walk cap first false total (x :: xs) = x :: xs := by
  rw [walk]
  simp [hs, hc, Nat.not_lt.mpr hcap, Nat.not_le.mpr hd]

/-- A PRIORITY entry that does not fit displaces entries behind it. -/
theorem walk_priority (hs : x.seated = false) (hc : x.cls = .priority) (hcap : x.demand ≤ cap)
    (hd : cap < total + x.demand) : walk cap first false total (x :: xs) =
      { x with seated := decide ((displace cap x.demand xs total).2 + x.demand ≤ cap) } ::
        (displace cap x.demand xs total).1 := by
  have hx : { x with seated := false } = x := by rw [← hs]
  rw [walk]
  by_cases h : (displace cap x.demand xs total).2 + x.demand ≤ cap
  · simp [hs, hc, Nat.not_lt.mpr hcap, Nat.not_le.mpr hd, h]
  · simpa [hs, hc, Nat.not_lt.mpr hcap, Nat.not_le.mpr hd, h] using hx.symm

end

/-- Behind an EXCLUSIVE entry the walk changes nothing. -/
theorem walk_behind (cap total : Nat) (first : Bool) (l : List ClaimEntry) : walk cap first true total l = l := by
  induction l generalizing first with
  | nil => rfl
  | cons x xs ih =>
    cases h : x.seated
    · rw [walk, h]
      rfl
    · rw [walk_seated h, Bool.true_or, ih]

/-- The ways a walk takes at its first entry, with no EXCLUSIVE one ahead. -/
theorem walk_cases (cap total : Nat) (x : ClaimEntry) :
    x.seated = true ∨ x.seated = false ∧
      ((x.cls ≠ .exclusive ∧ cap < x.demand) ∨ x.cls = .exclusive
      ∨ (x.cls ≠ .exclusive ∧ total + x.demand ≤ cap)
      ∨ (x.cls = .ordinary ∧ x.demand ≤ cap ∧ cap < total + x.demand)
      ∨ (x.cls = .priority ∧ x.demand ≤ cap ∧ cap < total + x.demand)) := by
  cases hs : x.seated
  · have hd : cap < x.demand ∨ total + x.demand ≤ cap ∨ (x.demand ≤ cap ∧ cap < total + x.demand) := by omega
    cases hc : x.cls <;> simp [hd]
  · simp

/-- A walk changes seated marks alone. -/
theorem walk_unseated (cap total : Nat) (first behind : Bool) (l : List ClaimEntry) :
    (walk cap first behind total l).map ClaimEntry.unseated = l.map ClaimEntry.unseated := by
  induction l generalizing total first behind with
  | nil => rfl
  | cons x xs ih =>
    cases behind with
    | true => rw [walk_behind]
    | false =>
      obtain h | ⟨hs, ⟨hc, hd⟩ | hc | ⟨hc, hd⟩ | ⟨hc, hcap, hd⟩ | ⟨hc, hcap, hd⟩⟩ := walk_cases cap total x
      · simp [walk_seated h, ih]
      · simp [walk_passed hs hc hd, ih]
      · simp [walk_exclusive hs hc]
      · simp [walk_fits hs hc hd, ih]
      · rw [walk_ordinary hs hc hcap hd]
      · obtain ⟨kept, gone, hxs, hdis, -⟩ := displace_spec cap x.demand xs total
        rw [walk_priority hs hc hcap hd, hdis]
        simp [hxs]

/-- A walk keeps the seated demands within the capacity: `ahead` is what the entries ahead of the list hold. -/
theorem walk_seatedSum {cap total ahead : Nat} {first behind : Bool} {l : List ClaimEntry}
    (ht : total = ahead + seatedSum l) (hcap : total ≤ cap) :
    ahead + seatedSum (walk cap first behind total l) ≤ cap := by
  induction l generalizing total ahead first behind with
  | nil => simpa [walk, ht] using hcap
  | cons x xs ih =>
    cases behind with
    | true =>
      rw [walk_behind]
      omega
    | false =>
      obtain h | ⟨hs, ⟨hc, hd⟩ | hc | ⟨hc, hd⟩ | ⟨hc, hx, hd⟩ | ⟨hc, hx, hd⟩⟩ := walk_cases cap total x
      · simp only [seatedSum_cons, h, if_true] at ht
        have hrest := ih (first := false) (behind := false || x.cls == .exclusive) (ahead := ahead + x.demand)
          (ht.trans (by omega)) hcap
        simp only [walk_seated h, seatedSum_cons, h, if_true]
        omega
      · simp only [seatedSum_cons, hs, Bool.false_eq_true, if_false, Nat.zero_add] at ht
        simpa [walk_passed hs hc hd, hs] using ih ht hcap
      · rw [walk_exclusive hs hc]
        simp only [seatedSum_cons, hs, Bool.false_eq_true, if_false, Nat.zero_add] at ht ⊢
        split
        · rename_i hall
          have hall := of_decide_eq_true hall
          omega
        · omega
      · simp only [seatedSum_cons, hs, Bool.false_eq_true, if_false, Nat.zero_add] at ht
        have hrest := ih (total := total + x.demand) (ahead := ahead + x.demand) (first := false) (behind := false)
          (by omega) hd
        simp only [walk_fits hs hc hd, seatedSum_cons, if_true]
        omega
      · rw [walk_ordinary hs hc hx hd]
        omega
      · obtain ⟨kept, gone, hxs, hdis, -⟩ := displace_spec cap x.demand xs total
        have hgone := seatedSum_vacated gone
        simp only [seatedSum_cons, hs, Bool.false_eq_true, if_false, Nat.zero_add, hxs, seatedSum_append] at ht
        simp only [walk_priority hs hc hx hd, hdis, seatedSum_cons, seatedSum_append]
        split
        · rename_i hfit
          have hfit := of_decide_eq_true hfit
          omega
        · omega

/-- A walk past the head seats no EXCLUSIVE entry. -/
theorem walk_holdsAlone {cap total : Nat} {behind : Bool} {l : List ClaimEntry}
    (h : ∀ e ∈ l, e.holdsAlone = false) : ∀ e ∈ walk cap false behind total l, e.holdsAlone = false := by
  induction l generalizing total behind with
  | nil => simp [walk]
  | cons x xs ih =>
    cases behind with
    | true => rwa [walk_behind]
    | false =>
      obtain ⟨hx, hxs⟩ := List.forall_mem_cons.mp h
      obtain h | ⟨hs, ⟨hc, hd⟩ | hc | ⟨hc, hd⟩ | ⟨hc, hcap, hd⟩ | ⟨hc, hcap, hd⟩⟩ := walk_cases cap total x
      · rw [walk_seated h]
        exact List.forall_mem_cons.mpr ⟨hx, ih hxs⟩
      · rw [walk_passed hs hc hd]
        exact List.forall_mem_cons.mpr ⟨hx, ih hxs⟩
      · rw [walk_exclusive hs hc]
        exact List.forall_mem_cons.mpr ⟨by simp [ClaimEntry.holdsAlone], hxs⟩
      · rw [walk_fits hs hc hd]
        exact List.forall_mem_cons.mpr ⟨by simp [ClaimEntry.holdsAlone, hc], ih hxs⟩
      · rwa [walk_ordinary hs hc hcap hd]
      · obtain ⟨kept, gone, hlist, hdis, -⟩ := displace_spec cap x.demand xs total
        rw [walk_priority hs hc hcap hd, hdis]
        refine List.forall_mem_cons.mpr ⟨by simp [ClaimEntry.holdsAlone, hc], fun e he => ?_⟩
        obtain he | he := List.mem_append.mp he
        · exact hxs e (by simp [hlist, he])
        · obtain ⟨g, hg, rfl⟩ := List.mem_map.mp he
          have hgone : g.holdsAlone = false := hxs g (by simp [hlist, hg])
          unfold ClaimEntry.vacated
          split
          · rfl
          · exact hgone

/-! ### A run (R109, R110) -/

/-- The receiver, a purge mark or the hazard of route B leaves a run no seat to give (R110). -/
def runShut (r : Route) (accepting marked : Bool) (h : Hazard) : Bool :=
  !accepting || marked || (r == .B && h != .noHazard)

/-- Such a run unseats the EXTRACTION entries of route B at STOP, and does nothing else (R109). -/
theorem seatRun_shut {r : Route} {accepting marked : Bool} {h : Hazard} (hs : runShut r accepting marked h = true)
    (cap : Nat) (l : List ClaimEntry) :
    seatRun r cap accepting marked h l = if r = .B ∧ h = .stop then stopUnseat l else l :=
  if_pos hs

/-- Any other run is a walk from the head of the list (R110). -/
theorem seatRun_open {r : Route} {accepting marked : Bool} {h : Hazard} (hs : runShut r accepting marked h = false)
    (cap : Nat) (l : List ClaimEntry) :
    seatRun r cap accepting marked h l = walk cap true false (seatedSum l) l := by
  have hstop : ¬(r = .B ∧ h = .stop) := by
    rintro ⟨rfl, rfl⟩
    simp [runShut] at hs
  unfold seatRun
  rw [if_neg hstop]
  exact if_neg (by simpa [runShut] using hs)

/-- An entry as STOP leaves it on route B (R109). -/
def ClaimEntry.stopped (e : ClaimEntry) : ClaimEntry := if e.role = .extraction then e.unseated else e

theorem stopUnseat_eq (l : List ClaimEntry) : stopUnseat l = l.map ClaimEntry.stopped := rfl

@[simp] theorem ClaimEntry.stopped_unseated (e : ClaimEntry) : e.stopped.unseated = e.unseated := by
  unfold stopped
  split <;> rfl

theorem stopUnseat_unseated (l : List ClaimEntry) :
    (stopUnseat l).map ClaimEntry.unseated = l.map ClaimEntry.unseated := by
  simp [stopUnseat_eq]

theorem stopUnseat_seatedSum (l : List ClaimEntry) : seatedSum (stopUnseat l) ≤ seatedSum l := by
  induction l with
  | nil => exact Nat.le_refl _
  | cons e l ih =>
    have he : (if e.stopped.seated then e.stopped.demand else 0) ≤ if e.seated then e.demand else 0 := by
      unfold ClaimEntry.stopped
      split <;> simp
    simp only [stopUnseat_eq, List.map_cons, seatedSum_cons] at ih ⊢
    omega

section
variable (r : Route) (cap : Nat) (accepting marked : Bool) (h : Hazard) (l : List ClaimEntry)

/-- A run changes seated marks alone. -/
theorem seatRun_unseated :
    (seatRun r cap accepting marked h l).map ClaimEntry.unseated = l.map ClaimEntry.unseated := by
  cases hs : runShut r accepting marked h
  · rw [seatRun_open hs, walk_unseated]
  · rw [seatRun_shut hs]
    split
    · exact stopUnseat_unseated l
    · rfl

/-- A run keeps the seated demands within the capacity (R110). -/
theorem seatRun_seatedSum (hl : seatedSum l ≤ cap) : seatedSum (seatRun r cap accepting marked h l) ≤ cap := by
  cases hs : runShut r accepting marked h
  · rw [seatRun_open hs]
    simpa using walk_seatedSum (ahead := 0) (first := true) (behind := false) (by simp) hl
  · rw [seatRun_shut hs]
    split
    · exact (stopUnseat_seatedSum l).trans hl
    · exact hl

@[simp] theorem seatRun_nil : seatRun r cap accepting marked h [] = [] :=
  List.map_eq_nil_iff.mp (seatRun_unseated r cap accepting marked h [])

end

/-! ### Rank order and the EXCLUSIVE entry (R102, R112) -/

theorem ClaimClass.classRank_pos (c : ClaimClass) : 1 ≤ c.classRank := by cases c <;> decide

/-- An entry ranked behind the first rank is ORDINARY. -/
theorem ClaimEntry.holdsAlone_of_rank {e : ClaimEntry} (h : 1 < e.cls.classRank) : e.holdsAlone = false := by
  cases hc : e.cls <;> simp_all [ClaimClass.classRank, holdsAlone]

/-- What an EXCLUSIVE entry asks of two entries, the first ahead of the second. -/
def ClaimEntry.besides (x y : ClaimEntry) : Prop := y.holdsAlone = false ∧ (x.holdsAlone = true → y.seated = false)

/-- Ranks do not fall from the first entry to the second. -/
def ClaimEntry.ahead (x y : ClaimEntry) : Prop := x.cls.classRank ≤ y.cls.classRank

theorem rankOrdered_iff (l : List ClaimEntry) : rankOrdered l = true ↔ l.Pairwise ClaimEntry.ahead := by
  have htrans : IsTrans ClaimEntry ClaimEntry.ahead := ⟨fun _ _ _ => Nat.le_trans⟩
  rw [← List.isChain_iff_pairwise]
  induction l with
  | nil => simp [rankOrdered]
  | cons x xs ih =>
    cases xs with
    | nil => simp [rankOrdered]
    | cons y ys => simp [rankOrdered, ih, ClaimEntry.ahead]

/-- Entries of which none is a seated EXCLUSIVE one stand besides each other. -/
theorem besides_of_none {l : List ClaimEntry} (h : ∀ e ∈ l, e.holdsAlone = false) :
    l.Pairwise ClaimEntry.besides :=
  List.pairwise_iff_forall_sublist.mpr fun {x y} hxy => by
    have hx : x.holdsAlone = false := h x (hxy.subset (by simp))
    have hy : y.holdsAlone = false := h y (hxy.subset (by simp))
    exact ⟨hy, fun hx' => by simp [hx] at hx'⟩

theorem exclusiveAlone_iff (l : List ClaimEntry) : exclusiveAlone l = true ↔ l.Pairwise ClaimEntry.besides := by
  cases l with
  | nil => simp [exclusiveAlone]
  | cons x xs =>
    have hcons : exclusiveAlone (x :: xs) = true ↔ ∀ y ∈ xs, x.besides y := by
      have hx : x.holdsAlone = true ∨ x.holdsAlone = false := by cases x.holdsAlone <;> simp
      simp only [exclusiveAlone, ClaimEntry.besides, ← ClaimEntry.holdsAlone.eq_1]
      obtain hx | hx := hx <;> simp [hx, forall_and]
    rw [hcons, List.pairwise_cons, and_iff_left_of_imp]
    exact fun h => besides_of_none fun y hy => (h y hy).1

/-- Taking seats away keeps a seated EXCLUSIVE entry alone. -/
theorem besides_map {f : ClaimEntry → ClaimEntry} (hf : ∀ e, f e = e ∨ f e = e.unseated) {l : List ClaimEntry}
    (h : l.Pairwise ClaimEntry.besides) : (l.map f).Pairwise ClaimEntry.besides := by
  refine List.pairwise_map.mpr (h.imp fun {x y} hxy => ?_)
  obtain ⟨hy, hx⟩ := hxy
  obtain hfx | hfx := hf x <;> obtain hfy | hfy := hf y <;>
    simp_all [ClaimEntry.besides, ClaimEntry.holdsAlone]

/-- A run keeps a seated EXCLUSIVE entry alone: it seats one only at the head with no entry seated (R112). -/
theorem seatRun_besides {r : Route} {cap : Nat} {accepting marked : Bool} {h : Hazard} {l : List ClaimEntry}
    (hd : ∀ e ∈ l, 1 ≤ e.demand) (hl : l.Pairwise ClaimEntry.besides) :
    (seatRun r cap accepting marked h l).Pairwise ClaimEntry.besides := by
  cases hs : runShut r accepting marked h
  · rw [seatRun_open hs]
    cases l with
    | nil => simp [walk]
    | cons x xs =>
      have hnone : ∀ e ∈ xs, e.holdsAlone = false := fun e he => ((List.pairwise_cons.mp hl).1 e he).1
      have hwalk : ∀ total, ∀ e ∈ walk cap false false total xs, e.holdsAlone = false :=
        fun total => walk_holdsAlone hnone
      obtain h | ⟨hs, ⟨hc, hx⟩ | hc | ⟨hc, hx⟩ | ⟨hc, hcap, hx⟩ | ⟨hc, hcap, hx⟩⟩ :=
        walk_cases cap (seatedSum (x :: xs)) x
      · rw [walk_seated h]
        cases hc : x.cls == .exclusive
        · exact besides_of_none (List.forall_mem_cons.mpr ⟨by simp [ClaimEntry.holdsAlone, hc], hwalk _⟩)
        · rwa [Bool.or_true, walk_behind]
      · rw [walk_passed hs hc hx]
        exact besides_of_none (List.forall_mem_cons.mpr ⟨by simp [ClaimEntry.holdsAlone, hs], hwalk _⟩)
      · rw [walk_exclusive hs hc]
        refine List.pairwise_cons.mpr ⟨fun y hy => ⟨hnone y hy, fun hseat => ?_⟩, (List.pairwise_cons.mp hl).2⟩
        obtain ⟨-, hzero, -⟩ := of_decide_eq_true (Bool.and_eq_true_iff.mp hseat).1
        exact unseated_of_seatedSum hd hzero y (List.mem_cons_of_mem x hy)
      · rw [walk_fits hs hc hx]
        exact besides_of_none (List.forall_mem_cons.mpr ⟨by simp [ClaimEntry.holdsAlone, hc], hwalk _⟩)
      · rwa [walk_ordinary hs hc hcap hx]
      · have htail := walk_holdsAlone (cap := cap) (total := seatedSum (x :: xs)) (behind := false)
          (l := x :: xs) (List.forall_mem_cons.mpr ⟨by simp [ClaimEntry.holdsAlone, hs], hnone⟩)
        rw [walk_priority hs hc hcap hx] at htail ⊢
        exact besides_of_none htail
  · rw [seatRun_shut hs]
    split
    · rw [stopUnseat_eq]
      refine besides_map (fun e => ?_) hl
      unfold ClaimEntry.stopped
      split <;> simp
    · exact hl

/-- A new unseated entry keeps a seated EXCLUSIVE entry alone: those behind it are ORDINARY. -/
theorem joinList_besides {x : ClaimEntry} {l : List ClaimEntry} (hx : x.seated = false)
    (hr : l.Pairwise ClaimEntry.ahead) (hl : l.Pairwise ClaimEntry.besides) :
    (joinList x l).Pairwise ClaimEntry.besides := by
  obtain ⟨front, back, rfl, hjoin, -, hback⟩ := joinList_eq x l
  have hordinary : ∀ y ∈ back, y.holdsAlone = false := by
    intro y hy
    cases back with
    | nil => cases hy
    | cons b bs =>
      have hb : x.cls.classRank < b.cls.classRank := hback b rfl
      have hby : b.cls.classRank ≤ y.cls.classRank := by
        obtain rfl | hy := List.mem_cons.mp hy
        · exact Nat.le_refl _
        · exact (List.pairwise_cons.mp (List.pairwise_append.mp hr).2.1).1 y hy
      have hpos : 1 ≤ x.cls.classRank := x.cls.classRank_pos
      exact ClaimEntry.holdsAlone_of_rank (by omega)
  obtain ⟨hfront, hbacks, hacross⟩ := List.pairwise_append.mp hl
  rw [hjoin]
  refine List.pairwise_append.mpr ⟨hfront, List.pairwise_cons.mpr ⟨fun y hy => ?_, hbacks⟩, fun a ha y hy => ?_⟩
  · exact ⟨hordinary y hy, by simp [ClaimEntry.holdsAlone, hx]⟩
  · obtain rfl | hy := List.mem_cons.mp hy
    · exact ⟨by simp [ClaimEntry.holdsAlone, hx], fun _ => hx⟩
    · exact hacross a ha y hy

/-- A new entry stands in rank order. -/
theorem joinList_ahead {x : ClaimEntry} {l : List ClaimEntry} (hr : l.Pairwise ClaimEntry.ahead) :
    (joinList x l).Pairwise ClaimEntry.ahead := by
  obtain ⟨front, back, rfl, hjoin, hfronts, hhead⟩ := joinList_eq x l
  obtain ⟨hfront, hbacks, hacross⟩ := List.pairwise_append.mp hr
  have hback : ∀ y ∈ back, x.ahead y := by
    cases back with
    | nil => simp
    | cons b bs =>
      have hb : x.ahead b := Nat.le_of_lt (hhead b rfl)
      exact List.forall_mem_cons.mpr ⟨hb, fun y hy => Nat.le_trans hb ((List.pairwise_cons.mp hbacks).1 y hy)⟩
  rw [hjoin]
  refine List.pairwise_append.mpr ⟨hfront, List.pairwise_cons.mpr ⟨hback, hbacks⟩, fun a ha y hy => ?_⟩
  obtain rfl | hy := List.mem_cons.mp hy
  · exact hfronts a ha
  · exact hacross a ha y hy

/-- Lists that differ in seated marks alone have the same rank order. -/
theorem ahead_of_unseated {k l : List ClaimEntry} (h : k.map ClaimEntry.unseated = l.map ClaimEntry.unseated)
    (hl : l.Pairwise ClaimEntry.ahead) : k.Pairwise ClaimEntry.ahead := by
  have hk : (k.map ClaimEntry.unseated).Pairwise ClaimEntry.ahead := h ▸ List.pairwise_map.mpr hl
  have hk := List.pairwise_map.mp hk
  exact hk

end Sys2Proof.Machine
end

section
/-! PROOF. The invariants of the claim lists (O13, O14). A property of the lists that a run, a claimant's leaving and
a new entry keep is kept by every step (`ListsInvariant`, `step_keepsLists`); the seated demands within the capacity
and the order of the lists are two such properties. -/

namespace Sys2Proof.Machine

/-! ### What a command leaves of the phase and the lists -/

/-- No command but those that empty the volatile state leaves JOINING and RUN or changes the configuration there. -/
theorem exec_staysWorking {c : Instr} {s t : State} (h : exec c s = .next t) (he : c.empties = false)
    (hw : s.working = true) : t.cfg = s.cfg ∧ t.working = true := by
  have hphase : s.phase = .joining ∨ s.phase = .run := by simpa [State.working] using hw
  have hstart : s.phase ≠ .starting := by
    rintro hs
    simp [hs] at hphase
  cases hp : c.writesPhase with
  | false =>
    obtain ⟨hboot, hcfg⟩ := exec_keepsItem h .phase hp
    exact ⟨hcfg, by rwa [State.working, State.phase, hboot]⟩
  | true =>
    suffices hall : t.cfg = s.cfg ∧ (t.boot.phase = s.boot.phase ∨ t.boot.phase = .run) by
      refine ⟨hall.1, ?_⟩
      obtain ht | ht := hall.2
      · rwa [State.working, State.phase, ht]
      · simp [State.working, State.phase, ht]
    cases c with
    | inputFilterFill pin =>
      cases h
      dsimp only
      split
      · rw [if_neg fun hs => hstart hs.2]
        simp
      · simp
    | joiningEnd =>
      cases h
      split
      · simp [State.enterRun]
        split <;> simp
      · simp
    | stationSample x =>
      cases h
      dsimp only
      split
      · simp
      · rw [if_neg fun hs => hstart hs.1]
        split <;> simp
    | _ => simp_all [Instr.writesPhase]

/-- A command that empties the volatile state leaves no claim list, or in the start hold every one as it was. -/
theorem exec_empties_lists {c : Instr} {s t : State} (h : exec c s = .next t) (he : c.empties = true) :
    (t.ms.listA = [] ∧ t.ms.listB = [])
    ∨ (t.ms.listA = s.ms.listA ∧ t.ms.listB = s.ms.listB ∧ t.boot = s.boot ∧ t.cfg = s.cfg) := by
  cases c with
  | start cause =>
    cases h
    rw [State.enterHold_eq]
    exact .inl ⟨rfl, rfl⟩
  | starting =>
    cases h
    split
    · refine .inl ?_
      unfold State.checkFactory
      dsimp only
      split <;> simp [State.emptied]
    · exact .inr ⟨rfl, rfl, rfl, rfl⟩
  | supplyWarning d =>
    cases h
    have hd : d < resetThreshold := of_decide_eq_true he
    split
    · exact .inr ⟨rfl, rfl, rfl, rfl⟩
    · dsimp only
      rw [State.enterHold_eq]
      exact .inl ⟨rfl, rfl⟩
  | _ => cases he

/-! ### What a claim asks for -/

/-- A claim that is not discarded demands 1 to 1,000 (R103). -/
theorem claimOf_demand {role route cls demand : Nat} {x : Role} {c : Claim}
    (h : claimOf role route cls demand = some (x, c)) : 1 ≤ c.demand ∧ c.demand ≤ 1000 := by
  unfold claimOf at h
  split at h
  · split at h
    · rename_i hd
      cases h
      exact ⟨hd.1, hd.2.1⟩
    · cases h
  · cases h

/-- So does the claim of a usable echo (R106). -/
theorem echoOf_demand {p : List Byte} {c : Claim} (h : echoOf p = .claim c) : 1 ≤ c.demand ∧ c.demand ≤ 1000 := by
  unfold echoOf at h
  split at h
  · cases h
  · split at h
    · rename_i hc
      cases h
      exact claimOf_demand hc
    · cases h

/-! ### Leaving and joining by route (R103, R104) -/

/-- What a list of a route becomes when the list of one route is replaced. -/
theorem Manifold.list_setList (m : Manifold) (r q : Route) (l : List ClaimEntry) :
    (m.setList r l).list q = if q = r then l else m.list q := by
  cases r <;> cases q <;> rfl

/-- The other route. -/
def otherRoute : Route → Route
  | .A => .B
  | .B => .A

theorem otherRoute_ne (r : Route) : otherRoute r ≠ r := by cases r <;> decide

theorem eq_otherRoute {r o : Route} (h : o ≠ r) : o = otherRoute r := by
  cases r <;> cases o <;> simp_all [otherRoute]

/-- A claimant leaves the list of one route, which runs if it stood there. -/
def State.leaveRoute (s : State) (a : Nat) (r : Route) : State :=
  if inList a (s.ms.list r) then (s.setMs (s.ms.setList r (leaveList a (s.ms.list r)))).seat r else s

theorem State.dropClaim_eq (s : State) (a : Nat) : s.dropClaim a = (s.leaveRoute a .A).leaveRoute a .B := rfl

/-- A claim put in on one route, taken out of the list of the other (R103). -/
def State.putRoute (s : State) (a : Nat) (r o : Route) (x : ClaimEntry) : State :=
  let t := s.setMs ((s.ms.setList o (leaveList a (s.ms.list o))).setList r (joinList x (leaveList a (s.ms.list r))))
  (if inList a (s.ms.list o) then t.seat o else t).seat r

theorem State.putClaim_eq (s : State) (a : Nat) (role : Role) (c : Claim) :
    s.putClaim a role c = s.putRoute a c.route (otherRoute c.route) ⟨a, role, c.cls, c.demand, false⟩ := by
  obtain ⟨r, cls, d⟩ := c
  cases r <;> rfl

/-! ### Properties of the claim lists -/

/-- A property of the state that rests on its claim lists, and on the capacities in JOINING and RUN, and which the
operations on a list keep. -/
structure ListsInvariant (K : State → Prop) : Prop where
  kept : ∀ {s t : State}, K s → t.ms.listA = s.ms.listA → t.ms.listB = s.ms.listB →
    (s.working = true → t.cfg = s.cfg ∧ t.working = true) → K t
  empty : ∀ {s : State}, s.ms.listA = [] → s.ms.listB = [] → K s
  seat : ∀ {s : State} (r : Route), K s → K (s.seat r)
  leave : ∀ {s : State} (r : Route) (a : Nat), K s → K (s.setMs (s.ms.setList r (leaveList a (s.ms.list r))))
  join : ∀ {s : State} (r : Route) (x : ClaimEntry), K s → s.working = true → x.seated = false →
    (∀ r', ∀ e ∈ s.ms.list r', e.claimant ≠ x.claimant) → 1 ≤ x.demand → x.demand ≤ 1000 →
    K (s.setMs (s.ms.setList r (joinList x (s.ms.list r))))

section
variable {K : State → Prop} {s : State}

/-- A change of the state that leaves the lists, the phase and the configuration. -/
theorem ListsInvariant.frame (h : ListsInvariant K) {t : State} (hs : K s)
    (ht : t.ms.listA = s.ms.listA ∧ t.ms.listB = s.ms.listB ∧ t.boot = s.boot ∧ t.cfg = s.cfg) : K t := by
  obtain ⟨listA, listB, boot, cfg⟩ := ht
  exact h.kept hs listA listB fun hw => ⟨cfg, by rwa [State.working, State.phase, boot]⟩

theorem ListsInvariant.seatBoth (h : ListsInvariant K) (hs : K s) : K s.seatBoth := h.seat .B (h.seat .A hs)

theorem ListsInvariant.hazardRuns (h : ListsInvariant K) (old : State) (hs : K s) : K (s.hazardRuns old) :=
  iteInduction (motive := K) (fun _ => hs) fun _ => h.seatBoth hs

theorem ListsInvariant.receiverRuns (h : ListsInvariant K) (old : State) (hs : K s) : K (s.receiverRuns old) := by
  have hA : K (if s.accepting .A = old.accepting .A then s else s.seat .A) :=
    iteInduction (motive := K) (fun _ => hs) fun _ => h.seat .A hs
  exact iteInduction (motive := K) (fun _ => hA) fun _ => h.seat .B hA

theorem ListsInvariant.leaveRoute (h : ListsInvariant K) (a : Nat) (r : Route) (hs : K s) : K (s.leaveRoute a r) :=
  iteInduction (motive := K) (fun _ => h.seat r (h.leave r a hs)) fun _ => hs

theorem ListsInvariant.dropClaim (h : ListsInvariant K) (a : Nat) (hs : K s) : K (s.dropClaim a) :=
  h.leaveRoute a .B (h.leaveRoute a .A hs)

/-- A new entry joins a list once its claimant has left both, and the lists run. -/
theorem ListsInvariant.putRoute (h : ListsInvariant K) {a : Nat} {r o : Route} (hro : o ≠ r) {x : ClaimEntry}
    (hs : K s) (hw : s.working = true) (ha : x.claimant = a) (hx : x.seated = false) (hlow : 1 ≤ x.demand)
    (hhigh : x.demand ≤ 1000) : K (s.putRoute a r o x) := by
  let t := s.setMs (s.ms.setList o (leaveList a (s.ms.list o)))
  let u := t.setMs (t.ms.setList r (leaveList a (t.ms.list r)))
  have hu : K u := h.leave r a (h.leave o a hs)
  have htr : t.ms.list r = s.ms.list r := by simp [t, Manifold.list_setList, hro.symm]
  have hur : u.ms.list r = leaveList a (s.ms.list r) := by simp [u, Manifold.list_setList, htr]
  have hnone : ∀ q, ∀ e ∈ u.ms.list q, e.claimant ≠ x.claimant := by
    intro q e he
    rw [ha]
    by_cases hq : q = r
    · subst hq
      exact claimant_ne_of_mem_leaveList (hur ▸ he)
    · obtain rfl : q = o := (eq_otherRoute hq).trans (eq_otherRoute hro).symm
      exact claimant_ne_of_mem_leaveList (l := s.ms.list q) (by simpa [u, t, Manifold.list_setList, hro] using he)
  have hjoin : K (s.setMs ((s.ms.setList o (leaveList a (s.ms.list o))).setList r
      (joinList x (leaveList a (s.ms.list r))))) := by
    have hput := h.join r x hu hw hx hnone hlow hhigh
    rw [hur] at hput
    cases r <;> cases o <;> exact hput
  exact h.seat r (iteInduction (motive := K) (fun _ => h.seat o hjoin) fun _ => hjoin)

theorem ListsInvariant.putClaim (h : ListsInvariant K) (a : Nat) (role : Role) {c : Claim} (hs : K s)
    (hw : s.working = true) (hd : 1 ≤ c.demand ∧ c.demand ≤ 1000) : K (s.putClaim a role c) := by
  rw [State.putClaim_eq]
  exact h.putRoute (otherRoute_ne c.route) hs hw rfl rfl hd.1 hd.2

theorem ListsInvariant.setMark (h : ListsInvariant K) (a : Nat) (hs : K s) : K (s.setMark a) :=
  iteInduction (motive := K) (fun _ => hs) fun _ => h.seatBoth (h.frame hs (by simp))

theorem ListsInvariant.clearMark (h : ListsInvariant K) (a : Nat) (hs : K s) : K (s.clearMark a) :=
  iteInduction (motive := K) (fun _ => h.seatBoth (h.frame hs (by simp))) fun _ => hs

theorem ListsInvariant.concluded (h : ListsInvariant K) (old : State) (hs : K s) : K (s.conclude old) :=
  h.frame hs (by simp)

theorem ListsInvariant.downstream (h : ListsInvariant K) (old : State) (hs : K s) : K (s.downstreamChange old) :=
  h.frame hs (by simp)

theorem ListsInvariant.dropAwaited (h : ListsInvariant K) (a : Nat) (hs : K s) : K (s.dropAwaited a) :=
  h.frame hs (by simp)

theorem ListsInvariant.compareEcho (h : ListsInvariant K) (a : Nat) (role : Role) {e : Echo} (hs : K s)
    (hw : s.working = true) (he : ∀ c, e = .claim c → 1 ≤ c.demand ∧ c.demand ≤ 1000) :
    K (s.compareEcho a role e) := by
  unfold State.compareEcho
  cases e with
  | unusable => exact hs
  | noClaim => exact h.dropClaim a hs
  | claim c =>
    dsimp only
    split
    · exact hs
    · exact h.putClaim a role hs hw (he c rfl)

theorem ListsInvariant.takeStatus (h : ListsInvariant K) (old : State) (a : Nat) (p : List Byte) (hs : K s)
    (hw : s.working = true) : K (s.takeStatus old a p) := by
  have hecho : K ((s.setPeer a (peerOfStatus (s.peer a) p)).compareEcho a (Role.ofCode (byteAt p 0)) (echoOf p)) :=
    h.compareEcho a _ (h.frame hs (by simp)) (by simpa [State.working, State.phase] using hw) fun _ => echoOf_demand
  refine h.downstream old (h.receiverRuns old (h.hazardRuns old ?_))
  exact iteInduction (motive := K) (fun _ => hecho) fun _ => h.clearMark a hecho

theorem ListsInvariant.makeStale (h : ListsInvariant K) (a : Nat) (hs : K s) : K (s.makeStale a) := by
  have hstale : K (s.setPeer a (s.peer a).staled) := h.frame hs (by simp)
  have hruns := h.receiverRuns s (h.dropAwaited a (h.clearMark a (h.dropClaim a (h.hazardRuns s hstale))))
  refine h.downstream s ?_
  exact iteInduction (motive := K) (fun _ => h.frame hruns (by simp)) fun _ => hruns

theorem ListsInvariant.formHazard (h : ListsInvariant K) (hs : K s) : K s.formHazard :=
  h.hazardRuns s (h.frame hs (by simp))

/-- The station's own telegram heard back. -/
theorem ListsInvariant.ownHeard (h : ListsInvariant K) (m : Telegram) (hs : K s) : K (s.ownHeard m) := by
  unfold State.ownHeard
  split
  · exact hs
  · rename_i hw
    have hw : s.working = true := by simpa using hw
    split
    · split
      · rename_i hc
        exact h.putClaim _ _ (h.frame hs (by simp)) hw (claimOf_demand hc)
      · exact hs
    · exact h.dropClaim _ hs
    · exact h.frame hs (by split <;> simp)
    · exact h.frame hs (by simp)
    all_goals exact hs

/-- Hearing a telegram keeps the property when the telegram's own effect does. -/
theorem ListsInvariant.hear (h : ListsInvariant K) (f : Frame) {act : State → State}
    (ha : ∀ t, K t → t.working = true → K (act t)) (hs : K s) : K (s.hear f act) := by
  have hend : K s.endReception := h.frame hs (by simp)
  unfold State.hear
  split
  · exact hs
  · dsimp only
    split
    · exact hend
    · rename_i hw
      split
      · exact hend
      · split
        · exact h.frame hend (by simp)
        · split
          · exact hend
          · have hw : s.endReception.working = true := by simpa using hw
            exact ha _ (h.frame hend (by simp)) hw

theorem ListsInvariant.hearKind (h : ListsInvariant K) (k : Kind) (f : Frame) {act : State → State}
    (ha : ∀ t, K t → t.working = true → K (act t)) (hs : K s) : K (s.hearKind k f act) := by
  refine h.hear f (fun t ht hw => ?_) hs
  have hd : K (t.downstreamChange s) := h.frame ht (by simp)
  split
  · exact ha _ hd (by simpa [State.working, State.phase] using hw)
  · exact hd

/-- Every command keeps the property. -/
theorem exec_keepsLists (h : ListsInvariant K) {c : Instr} {t : State} (he : exec c s = .next t) (hs : K s) :
    K t := by
  cases hempty : c.empties with
  | true =>
    obtain ⟨hA, hB⟩ | hsame := exec_empties_lists he hempty
    · exact h.empty hA hB
    · exact h.frame hs hsame
  | false =>
    cases hlists : c.writesLists with
    | false =>
      obtain ⟨hA, hB⟩ := exec_keepsItem he .lists hlists
      exact h.kept hs hA hB (exec_staysWorking he hempty)
    | true =>
      cases c with
      | status f =>
        cases he
        refine h.hear f (fun t ht hw => ?_) hs
        split
        · exact h.concluded s (h.takeStatus s _ _ ht hw)
        · exact h.frame ht (by simp)
      | claim f =>
        cases he
        refine h.hearKind _ f (fun t ht hw => ?_) hs
        split
        · rename_i hc
          exact h.concluded s (h.putClaim _ _ ht hw (claimOf_demand hc))
        · exact ht
      | release f =>
        cases he
        exact h.hearKind _ f (fun t ht _ => h.concluded s (h.dropClaim _ ht)) hs
      | purgeCall f =>
        cases he
        refine h.hearKind _ f (fun t ht _ => h.concluded s ?_) hs
        exact h.frame (h.setMark f.src.toNat (h.frame (t := t.yieldCall) ht (by simp))) (by simp)
      | purgeEnd f =>
        cases he
        exact h.hearKind _ f (fun t ht _ => h.concluded s (h.clearMark _ ht)) hs
      | peerStale a =>
        cases he
        split
        · exact h.concluded s (h.makeStale a hs)
        · exact hs
      | ownHazardChange =>
        cases he
        split
        · exact h.concluded s (h.formHazard hs)
        · exact hs
      | oxygenHigh =>
        cases he
        split
        · exact h.concluded s (h.formHazard (h.frame hs (by simp)))
        · exact hs
      | transmitComplete =>
        cases he
        split
        · exact hs
        · exact h.concluded s (h.ownHeard _ (h.frame hs (by simp)))
      | _ => simp_all [Instr.writesLists]

/-- Every step keeps the property. -/
theorem step_keepsLists (h : ListsInvariant K) {t : State} (hs : K s) (he : step s = .next t) : K t := by
  unfold step at he
  split at he
  · cases he
    unfold State.tick
    split
    · exact hs
    · exact h.kept hs rfl rfl fun hw => ⟨rfl, hw⟩
  · exact exec_keepsLists h he (h.kept hs rfl rfl fun hw => ⟨rfl, hw⟩)

end

/-! ### The seated demands within the capacity (R110) -/

/-- Replacing a list by one of no larger sum, empty if that was, keeps the seated demands within the capacity. -/
theorem seatsOk_setList {s : State} {r : Route} {l : List ClaimEntry} (hs : s.seatsOk)
    (hl : seatedSum l ≤ s.cfg.cap r) (hempty : s.working = false → l = []) :
    (s.setMs (s.ms.setList r l)).seatsOk := by
  obtain ⟨hsum, hnone⟩ := hs
  refine ⟨fun q => ?_, fun hw => ?_⟩
  · change seatedSum ((s.ms.setList r l).list q) ≤ s.cfg.cap q
    rw [Manifold.list_setList]
    split
    · rename_i hq
      exact hq ▸ hl
    · exact hsum q
  · obtain ⟨hA, hB⟩ := hnone hw
    have hnil := hempty hw
    cases r <;> simp [Manifold.setList, hA, hB, hnil]

/-- Outside JOINING and RUN the list of either route is empty. -/
theorem seatsOk_list {s : State} (hs : s.seatsOk) (hw : s.working = false) (r : Route) : s.ms.list r = [] := by
  obtain ⟨hA, hB⟩ := hs.2 hw
  cases r
  · exact hA
  · exact hB

theorem seatsOk_listsInvariant : ListsInvariant State.seatsOk where
  kept {s t} hs hA hB hw := by
    have hlist : ∀ r, t.ms.list r = s.ms.list r := fun r => by cases r <;> assumption
    cases hwork : s.working with
    | true =>
      obtain ⟨hcfg, ht⟩ := hw hwork
      exact ⟨fun r => hlist r ▸ hcfg ▸ hs.1 r, fun hf => by simp [ht] at hf⟩
    | false =>
      have hnone := hs.2 hwork
      exact ⟨fun r => by simp [hlist, seatsOk_list hs hwork], fun _ => ⟨hA ▸ hnone.1, hB ▸ hnone.2⟩⟩
  empty {s} hA hB := ⟨fun r => by cases r <;> simp [Manifold.list, hA, hB], fun _ => ⟨hA, hB⟩⟩
  seat {s} r hs := seatsOk_setList hs (seatRun_seatedSum _ _ _ _ _ _ (hs.1 r)) fun hw => by
    simp [seatsOk_list hs hw]
  leave {s} r a hs := seatsOk_setList hs ((seatedSum_sublist (leaveList_sublist a _)).trans (hs.1 r)) fun hw => by
    simp [seatsOk_list hs hw, leaveList]
  join {s} r x hs hw hx _ _ _ := by
    have hsum : seatedSum (joinList x (s.ms.list r)) = seatedSum (s.ms.list r) := by
      have hperm := ((joinList_perm x (s.ms.list r)).map fun e => if e.seated then e.demand else 0).sum_eq
      simpa [seatedSum, hx] using hperm
    exact seatsOk_setList hs (hsum ▸ hs.1 r) fun hf => by simp [hw] at hf

/-- Settles O13: a run seats no more than the capacity, and no other operation on a list adds a seat. -/
theorem stepKeepsSeatedDemandsInCapacity : Obligations.StepKeepsSeatedDemandsInCapacity :=
  fun _ _ hs h => step_keepsLists seatsOk_listsInvariant hs h

/-! ### The order of the claim lists (R102, R103, R112) -/

/-- The conditions of a claim list by itself. -/
def listOk (l : List ClaimEntry) : Prop :=
  l.Pairwise ClaimEntry.ahead ∧ l.Pairwise ClaimEntry.besides ∧ ∀ e ∈ l, 1 ≤ e.demand ∧ e.demand ≤ 1000

/-- The claimants of both lists. -/
def Manifold.claimants (m : Manifold) : List Nat := (m.listA ++ m.listB).map (·.claimant)

theorem claimsOk_iff (s : State) : s.claimsOk ↔ s.ms.claimants.Nodup ∧ ∀ r, listOk (s.ms.list r) := by
  simp only [State.claimsOk, Manifold.claimants, listOk, rankOrdered_iff, exclusiveAlone_iff]

/-- Replacing a list by a proper one keeps the order, as long as no claimant stands twice. -/
theorem claimsOk_setList {s : State} {r : Route} {l : List ClaimEntry} (hs : s.claimsOk) (hl : listOk l)
    (hn : (s.ms.setList r l).claimants.Nodup) : (s.setMs (s.ms.setList r l)).claimsOk := by
  refine (claimsOk_iff _).mpr ⟨hn, fun q => ?_⟩
  change listOk ((s.ms.setList r l).list q)
  rw [Manifold.list_setList]
  split
  · exact hl
  · exact ((claimsOk_iff s).mp hs).2 q

theorem listOk_sublist {k l : List ClaimEntry} (h : k.Sublist l) (hl : listOk l) : listOk k := by
  obtain ⟨hr, hb, hd⟩ := hl
  exact ⟨hr.sublist h, hb.sublist h, fun e he => hd e (h.subset he)⟩

/-- Entries that differ from those of a list in seated marks alone have the demands of the list. -/
theorem demand_of_unseated {k l : List ClaimEntry} (h : k.map ClaimEntry.unseated = l.map ClaimEntry.unseated)
    {p : Nat → Prop} (hl : ∀ e ∈ l, p e.demand) : ∀ e ∈ k, p e.demand := by
  intro e he
  obtain ⟨u, hu, hue⟩ := List.mem_map.mp (h ▸ List.mem_map_of_mem he)
  have hd : u.demand = e.demand := by simpa using congrArg ClaimEntry.demand hue
  exact hd ▸ hl u hu

theorem listOk_seatRun (r : Route) (cap : Nat) (accepting marked : Bool) (h : Hazard) {l : List ClaimEntry}
    (hl : listOk l) : listOk (seatRun r cap accepting marked h l) := by
  obtain ⟨hr, hb, hd⟩ := hl
  have hsame := seatRun_unseated r cap accepting marked h l
  exact ⟨ahead_of_unseated hsame hr, seatRun_besides (fun e he => (hd e he).1) hb,
    demand_of_unseated (p := fun d => 1 ≤ d ∧ d ≤ 1000) hsame hd⟩

theorem listOk_joinList {x : ClaimEntry} {l : List ClaimEntry} (hx : x.seated = false)
    (hd : 1 ≤ x.demand ∧ x.demand ≤ 1000) (hl : listOk l) : listOk (joinList x l) := by
  obtain ⟨hr, hb, hds⟩ := hl
  refine ⟨joinList_ahead hr, joinList_besides hx hr hb, fun e he => ?_⟩
  obtain rfl | he := List.mem_cons.mp ((joinList_perm x l).subset he)
  · exact hd
  · exact hds e he

/-- Lists that differ in seated marks alone have the same claimants. -/
theorem claimants_of_unseated {k l : List ClaimEntry} (h : k.map ClaimEntry.unseated = l.map ClaimEntry.unseated) :
    k.map (·.claimant) = l.map (·.claimant) := by
  simpa [Function.comp_def] using congrArg (List.map ClaimEntry.claimant) h

theorem claimsOk_listsInvariant : ListsInvariant State.claimsOk where
  kept {s t} hs hA hB _ := by
    have hlist : ∀ r, t.ms.list r = s.ms.list r := fun r => by cases r <;> assumption
    obtain ⟨hn, hl⟩ := (claimsOk_iff s).mp hs
    exact (claimsOk_iff t).mpr ⟨by rwa [Manifold.claimants, hA, hB], fun r => hlist r ▸ hl r⟩
  empty {s} hA hB := by
    refine (claimsOk_iff s).mpr ⟨by simp [Manifold.claimants, hA, hB], fun r => ?_⟩
    cases r <;> simp [Manifold.list, hA, hB, listOk]
  seat {s} r hs := by
    obtain ⟨hn, hl⟩ := (claimsOk_iff s).mp hs
    refine claimsOk_setList hs (listOk_seatRun r _ _ _ _ (hl r)) ?_
    have hsame := claimants_of_unseated
      (seatRun_unseated r (s.cfg.cap r) (s.accepting r) s.purgeInProgress s.lineHazard (s.ms.list r))
    rw [Manifold.claimants, List.map_append] at hn ⊢
    cases r
    · simp only [Manifold.setList, hsame]
      exact hn
    · simp only [Manifold.setList, hsame]
      exact hn
  leave {s} r a hs := by
    obtain ⟨hn, hl⟩ := (claimsOk_iff s).mp hs
    have hsub := leaveList_sublist a (s.ms.list r)
    refine claimsOk_setList hs (listOk_sublist hsub (hl r)) (hn.sublist (List.Sublist.map _ ?_))
    cases r
    · exact hsub.append (List.Sublist.refl _)
    · exact (List.Sublist.refl _).append hsub
  join {s} r x hs _ hx hnew hd1 hd2 := by
    obtain ⟨hn, hl⟩ := (claimsOk_iff s).mp hs
    refine claimsOk_setList hs (listOk_joinList hx ⟨hd1, hd2⟩ (hl r)) ?_
    have hperm : ((s.ms.setList r (joinList x (s.ms.list r))).claimants).Perm (x.claimant :: s.ms.claimants) := by
      have hjoin := joinList_perm x (s.ms.list r)
      cases r
      · exact (hjoin.append_right s.ms.listB).map _
      · exact ((hjoin.append_left s.ms.listA).trans List.perm_middle).map _
    refine hperm.nodup_iff.mpr (List.nodup_cons.mpr ⟨fun hmem => ?_, hn⟩)
    obtain ⟨e, he, hea⟩ := List.mem_map.mp hmem
    obtain he | he := List.mem_append.mp he
    · exact hnew .A e he hea
    · exact hnew .B e he hea

/-- Settles O14: a run changes seated marks alone and seats an EXCLUSIVE entry alone, and a new entry stands behind
those of its rank, its claimant's old one gone. -/
theorem stepKeepsClaimListsInOrder : Obligations.StepKeepsClaimListsInOrder :=
  fun _ _ hs h => step_keepsLists claimsOk_listsInvariant hs h

end Sys2Proof.Machine
end

section
/-! PROOF. The header back-off (O38): what withholds the route valves, and the two commands of R114. -/

namespace Sys2Proof.Machine

/-- The back-off or a purge mark keeps every route valve off but that of an own purge path (R65, R76, R120). -/
theorem valves_withheld {s : State} (h : s.ms.backoff = true ∨ s.purgeInProgress = true)
    (hp : s.ownPurgePath = false) : s.valveA = false ∧ s.valveB = false := by
  have hcause : s.suspendCause = true := by
    obtain h | h := h <;> simp [State.suspendCause, h]
  have hchamber : s.chamberValve = false := by
    obtain h | h := h <;> simp [State.chamberValve, State.chamberValveCommand, hp, h]
  simp only [State.valveA, State.valveB, hchamber]
  by_cases he : s.sq.step = .e5
  · have hsuspended : s.suspended = true := by simp [State.suspended, he, hcause]
    simp [hsuspended]
  · simp [he]

@[simp] theorem State.setHeaderHigh_headerHigh (s : State) (c : Comparator) :
    (s.setHeaderHigh c).mu.cmp.headerHigh = c := rfl

@[simp] theorem State.setHeaderRecovered_headerRecovered (s : State) (c : Comparator) :
    (s.setHeaderRecovered c).mu.cmp.headerRecovered = c := rfl

@[simp] theorem State.setBackoff_backoff (s : State) (b : Bool) : (s.setBackoff b).ms.backoff = b := rfl

@[simp] theorem Comparator.fire_met (c : Comparator) : c.fire.met = true := rfl

/-- Header high met, with the back-off in force (R114). -/
theorem exec_headerHigh {s : State} (hw : s.working = true) (hdue : s.mu.cmp.headerHigh.due 20 = true) :
    exec .headerHigh s =
      .next (((s.setHeaderHigh s.mu.cmp.headerHigh.fire).setBackoff true).conclude s) := by
  simp [exec, execHeaderHigh, hw, hdue]

/-- Header recovered met, and the back-off ended unless header high is met (R114). -/
theorem exec_headerRecovered {s : State} (hw : s.working = true) (hdue : s.mu.cmp.headerRecovered.due 20 = true) :
    exec .headerRecovered s =
      .next ((if s.mu.cmp.headerHigh.met then s.setHeaderRecovered s.mu.cmp.headerRecovered.fire
        else (s.setHeaderRecovered s.mu.cmp.headerRecovered.fire).setBackoff false).conclude s) := by
  simp [exec, execHeaderRecovered, hw, hdue]

/-- Settles O38: the end of the step leaves the comparators, the back-off and the lists as the command sets them. -/
theorem headerBackoffClosesTheRouteValves : Obligations.HeaderBackoffClosesTheRouteValves := by
  intro s hw
  refine ⟨fun hdue => ⟨_, exec_headerHigh hw hdue, ?_⟩, fun hdue => ⟨_, exec_headerRecovered hw hdue, ?_⟩⟩
  · have hoff : (((s.setHeaderHigh s.mu.cmp.headerHigh.fire).setBackoff true).conclude s).ms.backoff = true := by
      simp
    exact ⟨by simp, hoff, valves_withheld (.inl hoff), by simp, by simp⟩
  · cases hm : s.mu.cmp.headerHigh.met <;> simp

end Sys2Proof.Machine
end

section
/-! PROOF. Claims, releases and the seating (O41): what a claim, a release and a run make of the claim lists of the
state. -/

namespace Sys2Proof.Machine

/-! ### Runs of a state -/

/-- A run reads the configuration, the peer entries, the own hazard and the purge marks alone. -/
theorem State.seatedNow_congr {s t : State} (hcfg : t.cfg = s.cfg) (hpeers : t.pt.entries = s.pt.entries)
    (hhazard : t.pt.ownHazard = s.pt.ownHazard) (hmarks : t.ms.marks = s.ms.marks) : t.seatedNow = s.seatedNow := by
  funext r l
  have haccept : t.accepting r = s.accepting r := by
    simp only [State.accepting, State.peer, hcfg, hpeers]
  simp only [State.seatedNow, State.purgeInProgress, State.lineHazard, haccept, hcfg, hpeers, hhazard, hmarks]

@[simp] theorem State.conclude_seatedNow (s old : State) : (s.conclude old).seatedNow = s.seatedNow :=
  State.seatedNow_congr (by simp) (by simp) (by simp) (by simp)

@[simp] theorem State.conclude_list (s old : State) (r : Route) : (s.conclude old).ms.list r = s.ms.list r := by
  cases r <;> simp [Manifold.list]

@[simp] theorem State.seat_seatedNow (s : State) (r : Route) : (s.seat r).seatedNow = s.seatedNow :=
  State.seatedNow_congr (by simp) (by simp) (by simp) (by simp)

/-- What a run on the list of a route makes of the list of a route. -/
theorem State.seat_list (s : State) (r q : Route) :
    (s.seat r).ms.list q = if q = r then s.seatedNow r (s.ms.list r) else s.ms.list q :=
  s.ms.list_setList r q _

/-- Runs on both lists. -/
theorem State.seatBoth_list (s : State) (r : Route) : s.seatBoth.ms.list r = s.seatedNow r (s.ms.list r) := by
  rw [State.seatBoth, State.seat_list, State.seat_seatedNow]
  cases r <;> simp [State.seat_list]

/-! ### A claim and a release -/

@[simp] theorem State.setList_seatedNow (s : State) (r : Route) (l : List ClaimEntry) :
    (s.setMs (s.ms.setList r l)).seatedNow = s.seatedNow :=
  State.seatedNow_congr rfl rfl rfl (by simp)

@[simp] theorem State.leaveRoute_seatedNow (s : State) (a : Nat) (r : Route) :
    (s.leaveRoute a r).seatedNow = s.seatedNow := by
  unfold State.leaveRoute
  split <;> simp

theorem State.leaveRoute_list (s : State) (a : Nat) (r q : Route) :
    (s.leaveRoute a r).ms.list q =
      if q = r ∧ inList a (s.ms.list q) = true then s.seatedNow q (leaveList a (s.ms.list q)) else s.ms.list q := by
  unfold State.leaveRoute
  split
  · rw [State.seat_list, State.setList_seatedNow]
    by_cases hq : q = r <;> simp_all [Manifold.list_setList]
  · by_cases hq : q = r <;> simp_all

/-- The lists once a claimant has left them (R104). -/
theorem State.dropClaim_list (s : State) (a : Nat) (r : Route) :
    (s.dropClaim a).ms.list r =
      if inList a (s.ms.list r) then s.seatedNow r (leaveList a (s.ms.list r)) else s.ms.list r := by
  rw [State.dropClaim_eq, State.leaveRoute_list, State.leaveRoute_list, State.leaveRoute_seatedNow]
  cases r <;> simp

@[simp] theorem State.dropClaim_seatedNow (s : State) (a : Nat) : (s.dropClaim a).seatedNow = s.seatedNow :=
  State.seatedNow_congr (by simp) (by simp) (by simp) (by simp)

@[simp] theorem State.putClaim_seatedNow (s : State) (a : Nat) (role : Role) (c : Claim) :
    (s.putClaim a role c).seatedNow = s.seatedNow :=
  State.seatedNow_congr (by simp) (by simp) (by simp) (by simp)

theorem State.putRoute_list (s : State) (a : Nat) {r o : Route} (hro : o ≠ r) (x : ClaimEntry) :
    (s.putRoute a r o x).ms.list r = s.seatedNow r (joinList x (leaveList a (s.ms.list r)))
    ∧ (s.putRoute a r o x).ms.list o =
      if inList a (s.ms.list o) then s.seatedNow o (leaveList a (s.ms.list o)) else s.ms.list o := by
  let t := s.setMs ((s.ms.setList o (leaveList a (s.ms.list o))).setList r (joinList x (leaveList a (s.ms.list r))))
  have hnow : t.seatedNow = s.seatedNow := State.seatedNow_congr rfl rfl rfl (by simp [t])
  have hr : t.ms.list r = joinList x (leaveList a (s.ms.list r)) := by simp [t, Manifold.list_setList]
  have ho : t.ms.list o = leaveList a (s.ms.list o) := by simp [t, Manifold.list_setList, hro]
  change ((if inList a (s.ms.list o) then t.seat o else t).seat r).ms.list r = _
    ∧ ((if inList a (s.ms.list o) then t.seat o else t).seat r).ms.list o = _
  cases hin : inList a (s.ms.list o)
  · simp [State.seat_list, hnow, hr, ho, hro, leaveList_of_not_inList hin]
  · simp [State.seat_list, hnow, hr, ho, hro, hro.symm]

/-- The lists once a claim has been put in for its claimant (R103). -/
theorem State.putClaim_list (s : State) (a : Nat) (role : Role) (c : Claim) :
    (s.putClaim a role c).ms.list c.route =
      s.seatedNow c.route (joinList ⟨a, role, c.cls, c.demand, false⟩ (leaveList a (s.ms.list c.route)))
    ∧ ∀ o, o ≠ c.route → (s.putClaim a role c).ms.list o =
      if inList a (s.ms.list o) then s.seatedNow o (leaveList a (s.ms.list o)) else s.ms.list o := by
  rw [State.putClaim_eq]
  obtain ⟨hsame, hother⟩ := s.putRoute_list a (otherRoute_ne c.route) ⟨a, role, c.cls, c.demand, false⟩
  refine ⟨hsame, fun o ho => ?_⟩
  rw [eq_otherRoute ho]
  exact hother

/-! ### The telegrams -/

theorem exec_claim_of_some {s : State} {f : Frame} (h : s.takes .claim f = true) {role : Role} {c : Claim}
    (hc : claimPayload f.payload = some (role, c)) :
    exec (.claim f) s = .next (((s.noted f).putClaim f.src.toNat role c).conclude s) := by
  simp [exec, execClaim, State.hearKind_of_takes h, hc]

theorem exec_claim_of_none {s : State} {f : Frame} (h : s.takes .claim f = true)
    (hc : claimPayload f.payload = none) : exec (.claim f) s = .next (s.noted f) := by
  simp [exec, execClaim, State.hearKind_of_takes h, hc]

/-- The claim of a payload within the ranges of R103. -/
theorem claimPayload_some {p : List Byte} {r : Route} {c : ClaimClass}
    (hok : (byteAt p 0 = 1 ∨ byteAt p 0 = 2) ∧ 1 ≤ half p 3 ∧ half p 3 ≤ 1000)
    (hr : routeOfCode (byteAt p 1) = some r) (hc : ClaimClass.ofCode (byteAt p 2) = some c) :
    claimPayload p = some (Role.ofCode (byteAt p 0), ⟨r, c, half p 3⟩) := by
  obtain ⟨hrole, hlow, hhigh⟩ := hok
  simp [claimPayload, claimOf, hr, hc, hrole, hlow, hhigh]

/-- Out of them there is none. -/
theorem claimPayload_none {p : List Byte}
    (h : ¬((byteAt p 0 = 1 ∨ byteAt p 0 = 2) ∧ 1 ≤ half p 3 ∧ half p 3 ≤ 1000)
      ∨ routeOfCode (byteAt p 1) = none ∨ ClaimClass.ofCode (byteAt p 2) = none) : claimPayload p = none := by
  unfold claimPayload claimOf
  split
  · rename_i hr hc
    obtain h | h | h := h
    · exact if_neg fun hall => h ⟨hall.2.2, hall.1, hall.2.1⟩
    · simp [hr] at h
    · simp [hc] at h
  · rfl

@[simp] theorem State.noted_list (s : State) (f : Frame) (r : Route) : (s.noted f).ms.list r = s.ms.list r := by
  simp

/-! ### The walk past entries that are passed (R110) -/

/-- An entry that a walk passes: seated, or passed over for a demand above the capacity. -/
def ClaimEntry.passed (cap : Nat) (e : ClaimEntry) : Prop := e.seated = true ∨ (e.cls ≠ .exclusive ∧ cap < e.demand)

theorem walk_passes (cap total : Nat) (first behind : Bool) {pre : List ClaimEntry} (l : List ClaimEntry)
    (h : ∀ e ∈ pre, e.passed cap) :
    walk cap first behind total (pre ++ l) =
      pre ++ walk cap (first && pre.isEmpty) (behind || pre.any (·.cls == .exclusive)) total l := by
  induction pre generalizing first behind with
  | nil => simp
  | cons x xs ih =>
    obtain ⟨hx, hxs⟩ := List.forall_mem_cons.mp h
    cases behind with
    | true => simp [walk_behind]
    | false =>
      rw [List.cons_append]
      cases hs : x.seated
      · obtain hx | ⟨hc, hd⟩ := hx
        · simp [hs] at hx
        · simp [walk_passed hs hc hd, ih _ _ hxs, beq_false_of_ne hc]
      · simp [walk_seated hs, ih _ _ hxs]

section
variable {s : State} {r : Route} {l : List ClaimEntry}

/-- A run gives no seat: the receiver does not accept, a purge mark is held, or a hazard stands on route B. -/
def State.shut (s : State) (r : Route) : Prop :=
  s.accepting r = false ∨ s.ms.marks ≠ [] ∨ (r = .B ∧ s.lineHazard ≠ .noHazard)

theorem State.shut_iff (s : State) (r : Route) :
    s.shut r ↔ runShut r (s.accepting r) s.purgeInProgress s.lineHazard = true := by
  simp [State.shut, runShut, State.purgeInProgress, or_assoc]

theorem State.seatedNow_shut (h : s.shut r) :
    s.seatedNow r l = if r = .B ∧ s.lineHazard = .stop then l.map ClaimEntry.stopped else l :=
  seatRun_shut ((s.shut_iff r).mp h) _ _

theorem State.seatedNow_open (h : ¬s.shut r) :
    s.seatedNow r l = walk (s.cfg.cap r) true false (seatedSum l) l :=
  seatRun_open (by simpa [State.shut_iff] using h) _ _

section
variable {pre post : List ClaimEntry} {x : ClaimEntry}

/-- A run comes to the first entry that is not passed. -/
theorem State.seatedNow_passes (h : ¬s.shut r) (hl : l = pre ++ post) (hp : ∀ e ∈ pre, e.passed (s.cfg.cap r)) :
    s.seatedNow r l = pre ++ walk (s.cfg.cap r) pre.isEmpty (pre.any (·.cls == .exclusive)) (seatedSum l) post := by
  rw [State.seatedNow_open h]
  conv_lhs => rw [hl]
  rw [walk_passes _ _ _ _ _ hp, Bool.true_and, Bool.false_or, ← hl]

/-- Behind an EXCLUSIVE entry that is passed, hence seated, a run stops. -/
theorem State.seatedNow_behind (h : ¬s.shut r) (hl : l = pre ++ post) (hp : ∀ e ∈ pre, e.passed (s.cfg.cap r))
    (hx : ∃ e ∈ pre, e.cls = .exclusive) : s.seatedNow r l = l := by
  have hany : pre.any (·.cls == .exclusive) = true := by simpa using hx
  rw [State.seatedNow_passes h hl hp, hany, walk_behind, hl]

variable (h : ¬s.shut r) (hl : l = pre ++ x :: post) (hp : ∀ e ∈ pre, e.passed (s.cfg.cap r))
  (hs : x.seated = false) (hn : ∀ e ∈ pre, e.cls ≠ .exclusive)
include h hl hp hn

/-- With no EXCLUSIVE entry ahead the walk takes the first entry that is not passed. -/
theorem State.seatedNow_takes :
    s.seatedNow r l = pre ++ walk (s.cfg.cap r) pre.isEmpty false (seatedSum l) (x :: post) := by
  have hany : pre.any (·.cls == .exclusive) = false := by simpa using hn
  rw [State.seatedNow_passes h hl hp, hany]

include hs

theorem State.seatedNow_exclusive (hc : x.cls = .exclusive) :
    s.seatedNow r l =
      pre ++ { x with seated := decide (pre = [] ∧ seatedSum l = 0 ∧ x.demand ≤ s.cfg.cap r) } :: post := by
  rw [State.seatedNow_takes h hl hp hn, walk_exclusive hs hc]
  simp

/-- Once a fitting demand is seated the walk goes on as a run would. -/
theorem State.seatedNow_fits (hc : x.cls ≠ .exclusive) (hd : seatedSum l + x.demand ≤ s.cfg.cap r) :
    s.seatedNow r l = s.seatedNow r (pre ++ { x with seated := true } :: post) := by
  have hsum : seatedSum (pre ++ { x with seated := true } :: post) = seatedSum l + x.demand := by
    simp [hl, hs]
    omega
  rw [State.seatedNow_takes h hl hp hn, walk_fits hs hc hd, State.seatedNow_takes h rfl hp hn,
    walk_seated rfl, hsum, Bool.false_or, beq_false_of_ne hc]

theorem State.seatedNow_ordinary (hc : x.cls = .ordinary) (hcap : x.demand ≤ s.cfg.cap r)
    (hd : s.cfg.cap r < seatedSum l + x.demand) : s.seatedNow r l = l := by
  rw [State.seatedNow_takes h hl hp hn, walk_ordinary hs hc hcap hd, hl]

/-- A PRIORITY entry displaces ORDINARY ones from the tail, no more than it needs (R111). -/
theorem State.seatedNow_priority (hc : x.cls = .priority) (hcap : x.demand ≤ s.cfg.cap r)
    (hd : s.cfg.cap r < seatedSum l + x.demand) :
    ∃ kept gone, post = kept ++ gone
      ∧ (let left := seatedSum l - demandSum (gone.filter ClaimEntry.displaceable)
        s.seatedNow r l = pre ++ { x with seated := decide (left + x.demand ≤ s.cfg.cap r) } ::
          (kept ++ gone.map ClaimEntry.vacated)
        ∧ (s.cfg.cap r < left + x.demand → ∀ e ∈ kept, e.displaceable = false)
        ∧ ∀ g rest, gone = g :: rest → g.displaceable = true
          ∧ s.cfg.cap r < seatedSum l - demandSum (rest.filter ClaimEntry.displaceable) + x.demand) := by
  obtain ⟨kept, gone, hpost, hdis, hall, hmin⟩ := displace_spec (s.cfg.cap r) x.demand post (seatedSum l)
  refine ⟨kept, gone, hpost, ?_, hall, hmin⟩
  rw [State.seatedNow_takes h hl hp hn, walk_priority hs hc hcap hd, hdis]

end
end

/-- Settles O41: the lists of `putClaim` and `dropClaim`, and the walk taken case by case at the first entry that is
not passed. -/
theorem claimAndReleaseRunTheSeating : Obligations.ClaimAndReleaseRunTheSeating := by
  refine ⟨fun s f => ⟨fun htakes => ?_, fun htakes => ?_⟩, fun s r l => ?_⟩
  · cases hpay : claimPayload f.payload with
    | none =>
      refine ⟨_, exec_claim_of_none htakes hpay, fun c => ⟨?_, ?_⟩, fun _ => rfl⟩ <;>
      · intro hok hr hc
        simp [claimPayload_some hok hr hc] at hpay
    | some x =>
      obtain ⟨role, c⟩ := x
      refine ⟨_, exec_claim_of_some htakes hpay, ?_, fun hnone => ?_⟩
      · have hlists := (s.noted f).putClaim_list f.src.toNat role c
        simp only [State.noted_list] at hlists
        obtain ⟨hsame, hother⟩ := hlists
        refine fun cls => ⟨?_, ?_⟩ <;>
        · intro hok hr hc
          obtain ⟨rfl, rfl⟩ : Role.ofCode (byteAt f.payload 0) = role ∧ _ = c := by
            simpa [claimPayload_some hok hr hc] using hpay
          simp only [State.conclude_list, State.conclude_seatedNow, State.putClaim_seatedNow]
          exact ⟨hsame, hother _ (by simp)⟩
      · simp [claimPayload_none hnone] at hpay
  · refine ⟨_, exec_release htakes, fun r => ?_⟩
    simp only [State.conclude_list, State.conclude_seatedNow, State.dropClaim_seatedNow, State.dropClaim_list,
      State.noted_list]
  · intro run cap unseat demands S ordinary shut passed
    have hS : seatedSum l = S := seatedSum_eq l
    refine ⟨seatRun_unseated _ _ _ _ _ _, fun hshut => State.seatedNow_shut hshut, fun hopen => ⟨fun hall => ?_, ?_⟩⟩
    · exact (State.seatedNow_passes hopen (List.append_nil l).symm hall).trans (List.append_nil l)
    · intro pre x post hl hp hs
      refine ⟨State.seatedNow_behind hopen hl hp, fun hn => ⟨fun hc => ?_, fun hc hd => ?_, fun hc hx hd => ?_,
        fun hc hx hd _ => ?_⟩⟩
      · exact hS ▸ State.seatedNow_exclusive hopen hl hp hs hn hc
      · exact State.seatedNow_fits hopen hl hp hs hn hc (hS ▸ hd)
      · exact State.seatedNow_ordinary hopen hl hp hs hn hc hx (hS ▸ hd)
      · exact hS ▸ State.seatedNow_priority hopen hl hp hs hn hc hx (hS ▸ hd)

end Sys2Proof.Machine
end

section
/-! SUPPORT. What the end of a step keeps in either role: a waiting telegram that no full queue drops, code 25, and
the purge path of a chamber, which moves from MANIFOLD to VENT alone. -/

namespace Sys2Proof.Machine

/-! ### The changes of the chamber -/

/-- The path moves to VENT: the chamber is purging on the manifold with the gate closed (R93). -/
def State.vents (s : State) : Prop := s.ch.st = .purging ∧ s.ch.path = .manifold ∧ s.gate = false

/-- A READY that ends an entry cycle before its door has opened (R84). -/
def State.entryGivenUp (s : State) : State := (s.setCh { s.ch with door := Timer.stopped }).enterReady

/-- The changes that its conditions call for at a chamber: no PURGING is entered, and in PURGING the path vents. -/
theorem chamberMove_cases {s t : State} (h : s.chamberMove = some t) :
    (s.ch.st ≠ .purging ∧ t ∈ [s.enterHalted, s.enterReady, s.enterEntry, s.enterSweep, s.entryGivenUp, s.startSweep,
      s.enterInerting]) ∨ (s.vents ∧ t = s.pathToVent) := by
  cases hst : s.ch.st with
  | purging =>
    rw [State.chamberMove_purging hst] at h
    split at h
    · rename_i hvent
      exact .inr ⟨⟨hst, hvent⟩, (Option.some.inj h).symm⟩
    · cases h
  | inerting | ready | entry | sweep | halted =>
    refine .inl ⟨by simp, ?_⟩
    simp only [State.chamberMove, hst] at h
    (repeat' split at h) <;> cases h <;> simp [State.entryGivenUp, hst]

/-! ### Telegrams that no enqueueing drops (R164 to R166) -/

/-- Neither replaced, nor withdrawn, nor dropped by a full queue. -/
def Telegram.lasts (m : Telegram) : Prop :=
  m.kind ≠ .status ∧ m.kind ≠ .purgeCall ∧ m.cls ≠ 3 ∧ m.kind.isOwnClaim = false

section
variable {m : Telegram} (h : m.lasts)
include h

theorem Telegram.lasts.send {s : State} (hm : m ∈ s.li.queue) (k : Kind) (dst : Nat) (p : List Byte) :
    m ∈ (s.send k dst p).li.queue := by
  obtain ⟨status, call, third, claim⟩ := h
  exact Line.mem_enqueue_of_mem hm status call (.inr ⟨third, claim⟩) _

theorem Telegram.lasts.releaseClaim {s : State} (hm : m ∈ s.li.queue) : m ∈ s.releaseClaim.li.queue := by
  obtain ⟨status, call, third, claim⟩ := h
  exact State.mem_releaseClaim hm status call third claim

theorem Telegram.lasts.raiseClaim {s : State} (hm : m ∈ s.li.queue) (r : Route) (c : ClaimClass) :
    m ∈ (s.raiseClaim r c).li.queue :=
  h.send (s := s.setMs _) hm _ _ _

theorem Telegram.lasts.leaveState {s : State} (hm : m ∈ s.li.queue) : m ∈ s.leaveState.li.queue := by
  unfold State.leaveState
  split
  · exact hm
  · split <;> exact hm
  · exact h.releaseClaim (s := s.setCh _) hm
  all_goals exact hm

theorem Telegram.lasts.enterReady {s : State} (hm : m ∈ s.li.queue) : m ∈ s.enterReady.li.queue := by
  unfold State.enterReady
  dsimp only
  split
  · exact hm
  · exact h.raiseClaim (s := State.setInert _ _ _) hm _ _

theorem Telegram.lasts.enterSweep {s : State} (hm : m ∈ s.li.queue) : m ∈ s.enterSweep.li.queue := by
  unfold State.enterSweep
  exact h.raiseClaim (h.releaseClaim (by simpa using hm)) _ _

theorem Telegram.lasts.chamberMove {s t : State} (ht : s.chamberMove = some t) (hm : m ∈ s.li.queue) :
    m ∈ t.li.queue := by
  obtain ⟨-, hmem⟩ | ⟨-, rfl⟩ := chamberMove_cases ht
  · simp only [List.mem_cons, List.not_mem_nil, or_false] at hmem
    obtain rfl | rfl | rfl | rfl | rfl | rfl | rfl := hmem
    · exact h.leaveState hm
    · exact h.enterReady hm
    · exact hm
    · exact h.enterSweep hm
    · exact h.enterReady (s := s.setCh _) hm
    · exact hm
    · exact h.releaseClaim hm
  · simpa using hm

theorem Telegram.lasts.chamberMoves {s : State} (n : Nat) (hm : m ∈ s.li.queue) : m ∈ (s.chamberMoves n).li.queue := by
  induction n generalizing s with
  | zero => exact hm
  | succ n ih =>
    cases hmove : s.chamberMove with
    | none => rwa [State.chamberMoves_of_none hmove]
    | some t =>
      rw [State.chamberMoves_of_some hmove]
      exact ih (h.chamberMove hmove hm)

theorem Telegram.lasts.enterE5 {s : State} (hm : m ∈ s.li.queue) : m ∈ s.enterE5.li.queue := by
  unfold State.enterE5
  dsimp only
  split
  · exact h.raiseClaim (s := State.addCode _ 7) (by simpa using hm) _ _
  · exact hm

theorem Telegram.lasts.endClassify {s : State} (hm : m ∈ s.li.queue) : m ∈ s.endClassify.li.queue := by
  unfold State.endClassify
  refine h.raiseClaim (s := State.setSq _ _) ?_ _ _
  simp only [State.setSq_li]
  split <;> simpa using hm

theorem Telegram.lasts.settleExtraction {s : State} (hm : m ∈ s.li.queue) : m ∈ s.settleExtraction.li.queue := by
  have hpull : ∀ t : State, t.settlePull.li = t.li := fun t => by simp
  have hstarve : ∀ t : State, t.settleStarve.li = t.li := fun t => by simp
  unfold State.settleExtraction
  rw [hstarve]
  split
  · exact hm
  · unfold State.settleE2
    (repeat' split) <;> exact hm
  · unfold State.settleE3
    dsimp only
    split
    · exact h.endClassify hm
    · exact hm
  · unfold State.settleE4
    split
    · rw [hpull]
      exact h.enterE5 (s := s.setSq _) hm
    · exact hm
  · rwa [hpull]
  · rwa [hpull]
  all_goals exact hm

/-- It waits at the end of the step. -/
theorem Telegram.lasts.conclude {s : State} (old : State) (hm : m ∈ s.li.queue) : m ∈ (s.conclude old).li.queue := by
  obtain ⟨status, -, third, claim⟩ := id h
  cases hf : s.isFoam
  · rw [State.conclude_extraction hf]
    exact State.mem_announceIf (h.settleExtraction hm) status (.inr ⟨third, claim⟩) _ _
  · cases hp : s.ch.pending
    · exact State.mem_concludeIf hf hp rfl _ _ (h.chamberMoves 6 hm) status (.inr ⟨third, claim⟩)
    · have hrest : s.settle = s := by simp [State.settle, hf, State.settleChamber, hp]
      exact State.mem_announceIf (by rwa [hrest]) status (.inr ⟨third, claim⟩) _ _

end

/-! ### The purge path and code 25 (R93) -/

/-- Any other change enters no PURGING and leaves the path and the codes. -/
theorem chamberMove_keeps_path {s t : State} (h : s.chamberMove = some t) (hs : ¬s.vents) :
    s.ch.st ≠ .purging ∧ t.ch.st ≠ .purging ∧ t.ch.path = s.ch.path ∧ t.pu.codes = s.pu.codes := by
  obtain ⟨hst, hmem⟩ | ⟨hvents, -⟩ := chamberMove_cases h
  · refine ⟨hst, ?_⟩
    simp only [List.mem_cons, List.not_mem_nil, or_false] at hmem
    obtain rfl | rfl | rfl | rfl | rfl | rfl | rfl := hmem
    all_goals simp [State.entryGivenUp, State.enterEntry, hst]
  · exact absurd hvents hs

theorem chamberMoves_keep_path {s : State} (hs : ¬s.vents) (n : Nat) :
    ((s.chamberMoves n).ch.st = .purging ↔ s.ch.st = .purging) ∧ (s.chamberMoves n).ch.path = s.ch.path
    ∧ (s.chamberMoves n).pu.codes = s.pu.codes := by
  induction n generalizing s with
  | zero => exact ⟨Iff.rfl, rfl, rfl⟩
  | succ n ih =>
    cases hmove : s.chamberMove with
    | none => simp [State.chamberMoves_of_none hmove]
    | some t =>
      obtain ⟨hst, htst, hpath, hcodes⟩ := chamberMove_keeps_path hmove hs
      have ht : ¬t.vents := fun hv => htst hv.1
      simpa [State.chamberMoves_of_some hmove, hst, htst, hpath, hcodes] using ih ht

/-- So does the end of a step, in either role. -/
theorem conclude_keeps_path {s : State} (hs : ¬s.vents) (old : State) :
    ((s.conclude old).ch.st = .purging ↔ s.ch.st = .purging) ∧ (s.conclude old).ch.path = s.ch.path
    ∧ (25 ∈ (s.conclude old).pu.codes ↔ 25 ∈ s.pu.codes) := by
  cases hf : s.isFoam
  · have hch : (s.conclude old).ch = s.ch := by
      rw [State.conclude_extraction hf]
      simp
    exact ⟨by rw [hch], by rw [hch], (conclude_reacts hf old).codes 25 (by decide)⟩
  · cases hp : s.ch.pending
    · obtain ⟨hst, hpath, hcodes⟩ := chamberMoves_keep_path hs 6
      obtain ⟨hch, -, hpu, -⟩ := State.concludeIf_rest hf hp rfl false old
      rw [State.conclude, hch, hpu]
      simp [hst, hpath, hcodes]
    · simp [State.conclude, State.concludeIf, State.settle, hf, State.settleChamber, hp]

/-- A chamber that is purging on its path with the gate open stays so, and the valve is on (R51, R93). -/
theorem conclude_purges {s : State} (hf : s.isFoam = true) (hp : s.ch.pending = false) (hst : s.ch.st = .purging)
    (hpath : s.ch.path = .manifold) (hg : s.gate = true) (old : State) : (s.conclude old).chamberValve = true := by
  have hrest : s.chamberMove = none := by simp [State.chamberMove_purging hst, hg]
  have hmoves := State.chamberMoves_of_none hrest 6
  rw [State.conclude, State.concludeIf_chamberValve hf hp hmoves, State.chamberValve_iff hf hp]
  exact ⟨hg, .inl ⟨hst, hpath⟩⟩

end Sys2Proof.Machine
end

section
/-! PROOF. The purge handshake (O40): what the telegrams of a purge make of the marks and the own call, and the end of
the step after each. -/

namespace Sys2Proof.Machine

/-! ### The telegrams -/

section
variable {s : State} {f : Frame}

theorem exec_purgeCall (h : s.takes .purgeCall f = true) : exec (.purgeCall f) s =
    .next (((((s.noted f).yieldCall).setMark f.src.toNat).send .purgeClear f.src.toNat []).conclude s) := by
  simp [exec, execPurgeCall, State.hearKind_of_takes h]

theorem exec_purgeClear (h : s.takes .purgeClear f = true) :
    exec (.purgeClear f) s = .next (((s.noted f).dropAwaited f.src.toNat).conclude s) := by
  simp [exec, execPurgeClear, State.hearKind_of_takes h]

theorem exec_purgeEnd (h : s.takes .purgeEnd f = true) :
    exec (.purgeEnd f) s = .next (((s.noted f).clearMark f.src.toNat).conclude s) := by
  simp [exec, execPurgeEnd, State.hearKind_of_takes h]

theorem exec_purgeWaitExpiry (h : s.ms.call.st = .waiting) (hdue : s.ms.call.wait.due = true) :
    exec .purgeWaitExpiry s = .next (s.callToVent.conclude s) := by
  simp [exec, execPurgeWaitExpiry, h, hdue]

end

/-! ### The PURGE CLEAR that answers -/

theorem State.of_mem_tryOffer {s : State} {m : Telegram} (h : m ∈ s.tryOffer.li.queue) :
    m ∈ s.li.queue ∨ m.kind = .offer := by
  unfold State.tryOffer at h
  split at h
  · split at h
    · exact Line.of_mem_enqueue h
    · exact .inl h
  · exact .inl h

/-- Taking note of a sender enqueues an OFFER at most. -/
theorem State.of_mem_noted {s : State} {f : Frame} {m : Telegram} (h : m ∈ (s.noted f).li.queue) :
    m ∈ s.li.queue ∨ m.kind = .offer := by
  unfold State.noted State.downstreamChange at h
  dsimp only at h
  split at h
  · split at h
    · have hm := State.of_mem_tryOffer h
      (repeat' split at hm) <;> exact hm
    · left
      (repeat' split at h) <;> exact h
  · exact .inl h

/-- A PURGE CLEAR enqueued waits, unless one for the same caller waits already (R165). -/
theorem State.purgeClear_waits {s : State} (a : Nat)
    (hq : ∀ m ∈ s.li.queue, m.kind = .purgeClear → m.cls = 0 ∧ m.payload = []) :
    ∃ m ∈ (s.send .purgeClear a []).li.queue, m.kind = .purgeClear ∧ m.dst = a ∧ m.payload = [] ∧ m.lasts := by
  have hlasts : ∀ m : Telegram, m.kind = .purgeClear → m.cls = 0 → m.lasts := fun m hk hc => by
    simp [Telegram.lasts, hk, hc, Kind.isOwnClaim]
  cases hsame : s.li.queue.any fun v => v.kind == .purgeClear && v.dst == a with
  | true =>
    obtain ⟨m, hm, hmk⟩ := List.any_eq_true.mp hsame
    simp only [Bool.and_eq_true, beq_iff_eq] at hmk
    obtain ⟨hkind, hdst⟩ := hmk
    obtain ⟨hcls, hpay⟩ := hq m hm hkind
    have hlast := hlasts m hkind hcls
    exact ⟨m, hlast.send hm _ _ _, hkind, hdst, hpay, hlast⟩
  | false =>
    let m : Telegram := { kind := .purgeClear, dst := a, payload := [], cls := 0, moment := s.li.moment }
    have hm : m ∈ (s.send .purgeClear a []).li.queue := by
      have hnone : ¬∃ v ∈ s.li.queue, v.kind = .purgeClear ∧ v.dst = a := by simpa using hsame
      cases hr : s.li.room
      · have hfull : m ∈ insertFull m s.li.queue := mem_insertFull_self (by simp [m]) _
        simpa [State.send, Line.enqueue, hnone, hr, m, Kind.cls] using hfull
      · simp [State.send, Line.enqueue, hnone, hr, mem_insertTelegram, m, Kind.cls]
    exact ⟨m, hm, rfl, rfl, rfl, hlasts m rfl rfl⟩

/-! ### The marks -/

theorem State.mem_setMark (s : State) (a b : Nat) : b ∈ (s.setMark a).ms.marks ↔ b = a ∨ b ∈ s.ms.marks := by
  unfold State.setMark
  split
  · rename_i h
    have ha : a ∈ s.ms.marks := by simpa using h
    constructor
    · exact .inr
    · rintro (rfl | hb)
      · exact ha
      · exact hb
  · simp [mem_insertCode]

theorem State.mem_clearMark (s : State) (a b : Nat) : b ∈ (s.clearMark a).ms.marks ↔ b ≠ a ∧ b ∈ s.ms.marks := by
  unfold State.clearMark
  split
  · simp [and_comm]
  · rename_i h
    have ha : a ∉ s.ms.marks := by simpa using h
    constructor
    · exact fun hb => ⟨fun hba => ha (hba ▸ hb), hb⟩
    · exact And.right

theorem State.seat_lineHazard (s : State) (r : Route) : (s.seat r).lineHazard = s.lineHazard := by
  simp [State.lineHazard]

/-- With a mark held a run seats none: a new mark leaves the lists but for STOP on route B (R109, R119). -/
theorem State.setMark_list (s : State) (a : Nat) (r : Route) : (s.setMark a).ms.list r =
    if a ∉ s.ms.marks ∧ r = .B ∧ s.lineHazard = .stop then (s.ms.list r).map ClaimEntry.stopped else s.ms.list r := by
  unfold State.setMark
  split
  · rename_i h
    have ha : a ∈ s.ms.marks := by simpa using h
    simp [ha]
  · rename_i h
    have ha : a ∉ s.ms.marks := by simpa using h
    have hmarks : insertCode a s.ms.marks ≠ [] := List.ne_nil_of_mem ((mem_insertCode a a _).mpr (.inl rfl))
    rw [State.seatBoth_list, State.seatedNow_shut (.inr (.inl hmarks))]
    simp only [ha, not_false_eq_true, true_and]
    rfl

/-- A mark that is cleared runs both lists. -/
theorem State.clearMark_list (s : State) (a : Nat) (r : Route) : (s.clearMark a).ms.list r =
    if a ∈ s.ms.marks then (s.clearMark a).seatedNow r (s.ms.list r) else s.ms.list r := by
  unfold State.clearMark
  split
  · rename_i h
    have ha : a ∈ s.ms.marks := by simpa using h
    rw [if_pos ha, State.seatBoth_list]
    exact congrFun₂ (State.seatedNow_congr (by simp) (by simp) (by simp) (by simp)) _ _
  · rename_i h
    have ha : a ∉ s.ms.marks := by simpa using h
    rw [if_neg ha]

/-! ### The own call -/

/-- The path on VENT with its code (R93). -/
theorem State.pathToVent_vents (s : State) : s.pathToVent.ch.path = .vent ∧ 25 ∈ s.pathToVent.pu.codes := by
  simp [State.pathToVent, mem_insertCode]

/-- An own call that waits or holds the manifold yields to another station's (R120). -/
theorem State.yieldCall_yields {s : State} (h : s.ms.call.st = .waiting ∨ s.ms.call.st = .manifold) :
    s.yieldCall.ms.call.st = .vent ∧ s.yieldCall.ch.path = .vent ∧ 25 ∈ s.yieldCall.pu.codes := by
  obtain h | h := h
  · simp only [State.yieldCall, h]
    exact ⟨rfl, State.pathToVent_vents _⟩
  · simp only [State.yieldCall, h]
    exact ⟨rfl, State.pathToVent_vents _⟩

theorem State.yieldCall_stays {s : State} (h : s.ms.call.st = .idle ∨ s.ms.call.st = .vent) : s.yieldCall = s := by
  obtain h | h := h <;> simp only [State.yieldCall, h]

/-- The outcome of a call heard with none awaited: MANIFOLD, on the path as the drive gate allows (R93, R117). -/
theorem State.checkCall_manifold {s : State} (hst : s.ms.call.st = .waiting) (hheard : s.ms.call.heard = true)
    (hnone : s.ms.call.awaited = []) :
    s.checkCall.ms.call = ⟨.manifold, [], true, Timer.stopped⟩
    ∧ (s.gate = true → s.checkCall.ch.path = .manifold ∧ s.checkCall.pu = s.pu)
    ∧ (s.gate = false → s.checkCall.ch.path = .vent ∧ 25 ∈ s.checkCall.pu.codes) := by
  have hgate : ∀ m, (s.setMs m).gate = s.gate := fun _ => rfl
  rw [State.checkCall, if_pos ⟨hst, hheard, hnone⟩]
  dsimp only
  rw [hgate]
  cases s.gate
  · exact ⟨rfl, by simp, fun _ => State.pathToVent_vents _⟩
  · exact ⟨rfl, fun _ => ⟨rfl, rfl⟩, by simp⟩

/-- Any other call goes on. -/
theorem State.checkCall_stays {s : State} (h : s.ms.call.heard = false ∨ s.ms.call.awaited ≠ []) :
    s.checkCall = s := by
  refine if_neg fun ⟨_, hheard, hnone⟩ => ?_
  obtain h | h := h
  · simp [hheard] at h
  · exact h hnone

/-! ### The obligation -/

@[simp] theorem State.conclude_lineHazard (s old : State) : (s.conclude old).lineHazard = s.lineHazard := by
  simp [State.lineHazard]

theorem State.noted_gate (s : State) (f : Frame) : (s.noted f).gate = s.gate :=
  State.gate_congr (by simp) (by simp)

/-- The state in which another station's call has been taken, before the end of the step (R119, R120). -/
def State.called (s : State) (f : Frame) : State :=
  (((s.noted f).yieldCall).setMark f.src.toNat).send .purgeClear f.src.toNat []

section
variable (s : State) (f : Frame)

theorem State.called_marks (a : Nat) : a ∈ (s.called f).ms.marks ↔ a = f.src.toNat ∨ a ∈ s.ms.marks := by
  simp [State.called, State.mem_setMark]

theorem State.called_list (r : Route) : (s.called f).ms.list r =
    if f.src.toNat ∉ s.ms.marks ∧ r = .B ∧ (s.called f).lineHazard = .stop then (s.ms.list r).map ClaimEntry.stopped
    else s.ms.list r := by
  have hlist : (s.noted f).yieldCall.ms.list r = s.ms.list r := by cases r <;> simp [Manifold.list]
  have hset := (s.noted f).yieldCall.setMark_list f.src.toNat r
  simpa [State.called, hlist, State.lineHazard] using hset

variable {s f}

/-- An own call that waited or held the manifold is on VENT. -/
theorem State.called_yields (h : s.ms.call.st = .waiting ∨ s.ms.call.st = .manifold) :
    (s.called f).ms.call.st = .vent ∧ (s.called f).ch.path = .vent ∧ 25 ∈ (s.called f).pu.codes := by
  simpa [State.called] using State.yieldCall_yields (s := s.noted f) (by simpa using h)

/-- Any other own call stays. -/
theorem State.called_stays (h : s.ms.call.st = .idle ∨ s.ms.call.st = .vent) :
    (s.called f).ms.call = s.ms.call ∧ (s.called f).ch = s.ch := by
  have hstay : (s.noted f).yieldCall = s.noted f := State.yieldCall_stays (by simpa using h)
  simp [State.called, hstay]

/-- The chamber is then on no manifold of its own but a path that stood without a call. -/
theorem State.called_ownPurgePath
    (h : s.ms.call.st = .waiting ∨ s.ms.call.st = .manifold ∨ s.ownPurgePath = false) :
    (s.called f).ownPurgePath = false := by
  by_cases hcall : s.ms.call.st = .waiting ∨ s.ms.call.st = .manifold
  · obtain ⟨-, hpath, -⟩ := State.called_yields (f := f) hcall
    simp [State.ownPurgePath, hpath]
  · have hrest : s.ms.call.st = .idle ∨ s.ms.call.st = .vent := by
      cases hst : s.ms.call.st <;> simp [hst] at hcall ⊢
    obtain ⟨-, hch⟩ := State.called_stays (f := f) hrest
    have hs : s.ownPurgePath = false := by tauto
    rwa [State.ownPurgePath, hch]

/-- The PURGE CLEAR waits. -/
theorem State.called_waits (hq : ∀ m ∈ s.li.queue, m.kind = .purgeClear → m.cls = 0 ∧ m.payload = []) :
    ∃ m ∈ (s.called f).li.queue, m.kind = .purgeClear ∧ m.dst = f.src.toNat ∧ m.payload = [] ∧ m.lasts := by
  refine State.purgeClear_waits _ fun m hm hk => ?_
  have hm : m ∈ (s.noted f).li.queue := by simpa using hm
  obtain hm | hoffer := State.of_mem_noted hm
  · exact hq m hm hk
  · simp [hk] at hoffer

end

/-! ### The end of the step -/

/-- A path that is no manifold of an own purge stays none. -/
theorem conclude_ownPurgePath {s : State} (h : s.ownPurgePath = false) (old : State) :
    (s.conclude old).ownPurgePath = false := by
  have hno : ¬(s.ch.st = .purging ∧ s.ch.path = .manifold) := by simpa [State.ownPurgePath] using h
  have hvents : ¬s.vents := fun ⟨hst, hpath, _⟩ => hno ⟨hst, hpath⟩
  obtain ⟨hst, hpath, -⟩ := conclude_keeps_path hvents old
  simpa [State.ownPurgePath, hst, hpath] using h

/-- A path on VENT stays there, and its code in the set. -/
theorem conclude_vented {s : State} (h : s.ch.path = .vent ∧ 25 ∈ s.pu.codes) (old : State) :
    (s.conclude old).ch.path = .vent ∧ 25 ∈ (s.conclude old).pu.codes := by
  obtain ⟨hpath, hcode⟩ := h
  have hvents : ¬s.vents := fun ⟨_, hm, _⟩ => by simp [hpath] at hm
  obtain ⟨-, htpath, htcode⟩ := conclude_keeps_path hvents old
  exact ⟨htpath.trans hpath, htcode.mpr hcode⟩

/-- What a sender's leaving the awaited set makes of the own call, and of the path with the outcome (R117). -/
theorem State.dropAwaited_call (s : State) (a : Nat) :
    (s.ms.call.st ≠ .waiting → (s.dropAwaited a).ms.call = s.ms.call)
    ∧ (s.ms.call.st = .waiting → s.ms.call.heard = false ∨ s.ms.call.awaited.filter (· ≠ a) ≠ [] →
        (s.dropAwaited a).ms.call = { s.ms.call with awaited := s.ms.call.awaited.filter (· ≠ a) })
    ∧ (s.ms.call.st = .waiting → s.ms.call.heard = true → s.ms.call.awaited.filter (· ≠ a) = [] →
        (s.dropAwaited a).ms.call = ⟨.manifold, [], true, Timer.stopped⟩
        ∧ (s.gate = true → (s.dropAwaited a).ch.path = .manifold ∧ (s.dropAwaited a).pu = s.pu)
        ∧ (s.gate = false → (s.dropAwaited a).ch.path = .vent ∧ 25 ∈ (s.dropAwaited a).pu.codes)) := by
  refine ⟨fun hst => ?_, fun hst hrest => ?_, fun hst hheard hnone => ?_⟩
  · rw [State.dropAwaited, if_neg hst]
  · rw [State.dropAwaited, if_pos hst, State.checkCall_stays hrest]
    rfl
  · rw [State.dropAwaited, if_pos hst]
    exact State.checkCall_manifold hst hheard hnone

/-- The path on the manifold with the gate open stays, and the valve of an own purge is then on (R51, log 20). -/
theorem conclude_manifold {s : State} (hpath : s.ch.path = .manifold) (hg : s.gate = true) (old : State) :
    (s.conclude old).ch.path = .manifold
    ∧ (s.isFoam = true → s.ch.pending = false → s.ch.st = .purging → (s.conclude old).chamberValve = true) := by
  have hvents : ¬s.vents := fun ⟨_, _, hshut⟩ => by simp [hg] at hshut
  obtain ⟨-, htpath, -⟩ := conclude_keeps_path hvents old
  exact ⟨htpath.trans hpath, fun hf hp hst => conclude_purges hf hp hst hpath hg old⟩

/-- Settles O40: what each telegram makes of the marks, the call and the path, which the end of the step keeps. -/
theorem purgeHandshake : Obligations.PurgeHandshake := by
  intro s
  refine ⟨fun f h => ⟨(s.called f).conclude s, exec_purgeCall h, ?_⟩, fun f h => ⟨_, exec_purgeClear h, ?_⟩,
    fun f h => ⟨_, exec_purgeEnd h, ?_⟩, fun hst hdue => ⟨_, exec_purgeWaitExpiry hst hdue, ?_⟩⟩
  · have hmarked : ((s.called f).conclude s).purgeInProgress = true := by
      have hmem := (s.called_marks f f.src.toNat).mpr (.inl rfl)
      simpa [State.purgeInProgress] using List.ne_nil_of_mem hmem
    refine ⟨by simpa using s.called_marks f, fun hq => ?_, fun hcall => ?_, fun hcall => ?_, fun hcall => ?_,
      ?_, ?_⟩
    · obtain ⟨m, hm, hkind, hdst, hpay, hlasts⟩ := State.called_waits (f := f) hq
      exact ⟨m, hlasts.conclude s hm, hkind, hdst, hpay⟩
    · exact valves_withheld (.inr hmarked) (conclude_ownPurgePath (State.called_ownPurgePath hcall) s)
    · obtain ⟨hst, hvent⟩ := State.called_yields (f := f) hcall
      exact ⟨by simpa using hst, conclude_vented hvent s⟩
    · simpa using (State.called_stays (f := f) hcall).1
    · simpa [Manifold.list] using s.called_list f .A
    · have hB : ((s.called f).conclude s).ms.listB =
          if f.src.toNat ∉ s.ms.marks ∧ ((s.called f).conclude s).lineHazard = .stop
            then s.ms.listB.map ClaimEntry.stopped else s.ms.listB := by
        simpa [Manifold.list] using s.called_list f .B
      exact hB
  · have hcall := (s.noted f).dropAwaited_call f.src.toNat
    rw [State.noted_gate] at hcall
    obtain ⟨hother, hwaits, houtcome⟩ := hcall
    refine ⟨by simpa using hother, by simpa using hwaits, fun hst hheard hnone => ?_⟩
    obtain ⟨hend, hopen, hshut⟩ := houtcome (by simpa using hst) (by simpa using hheard) (by simpa using hnone)
    refine ⟨by simpa using hend, fun hg => ?_, fun hg => conclude_vented (hshut hg) s⟩
    obtain ⟨hpath, hpu⟩ := hopen hg
    have hgate : ((s.noted f).dropAwaited f.src.toNat).gate = true :=
      (State.gate_congr (by rw [hpu]; simp) (by simp)).trans hg
    simpa [State.isFoam] using conclude_manifold hpath hgate s
  · refine ⟨by simp [State.mem_clearMark], fun r => ?_⟩
    simpa using (s.noted f).clearMark_list f.src.toNat r
  · refine ⟨?_, conclude_vented (State.pathToVent_vents _) s⟩
    simp [State.callToVent]

end Sys2Proof.Machine
end

section
/-! PROOF. A telegram sent whole (O52): the emptied transmitter, what each kind makes of the station that hears its own
telegram back, and the end of the step. -/

namespace Sys2Proof.Machine

/-! ### The emptied transmitter (R162) -/

/-- The state once a telegram has been transmitted whole, before it is heard: the transmitter empty, code 33 gone. -/
def State.sentWhole (s : State) : State :=
  (s.setLi { s.li with transmitter := none, receiver := .ignoring }).removeCode 33

theorem exec_transmitComplete {s : State} {m : Telegram} (h : s.li.transmitter = some m) :
    exec .transmitComplete s = .next ((s.sentWhole.ownHeard m).conclude s) := by
  simp [exec, execTransmitComplete, h, State.sentWhole]

@[simp] theorem State.sentWhole_frame (s : State) :
    s.sentWhole.boot = s.boot ∧ s.sentWhole.cfg = s.cfg ∧ s.sentWhole.pt = s.pt ∧ s.sentWhole.ms = s.ms ∧
    s.sentWhole.sq = s.sq ∧ s.sentWhole.ch = s.ch ∧ s.sentWhole.mu = s.mu ∧ s.sentWhole.ac = s.ac ∧
    s.sentWhole.li.queue = s.li.queue ∧ s.sentWhole.li.transmitter = none ∧
    s.sentWhole.li.receiver = .ignoring := by
  simp [State.sentWhole]

theorem State.sentWhole_working (s : State) : s.sentWhole.working = s.working := by
  simp [State.working, State.phase]

/-- DE then agrees with R144, and is as it was if it did before: code 33 trips nothing. -/
theorem State.sentWhole_de (s : State) :
    s.sentWhole.pu.de = s.sentWhole.driveRule ∧ s.sentWhole.driveRule = s.driveRule := by
  refine ⟨State.removeCode_de _ 33, driveRule_of_harmless (l := [33]) (by simp) (by simp) (by decide) fun c hc => ?_⟩
  have hne : c ≠ 33 := by simpa using hc
  simp [State.sentWhole, hne]

/-! ### What a station hears of itself (R101, R135, R159) -/

section
variable {s : State} {m : Telegram} (hw : s.working = true)
include hw

theorem State.ownHeard_claim (hk : m.kind = .claim) {role : Role} {c : Claim}
    (hc : claimPayload m.payload = some (role, c)) : s.ownHeard m =
      (s.setMs { s.ms with claimHeard := !(s.li.queue.any fun u => u.kind == .claim) }).putClaim
        s.boot.address role c := by
  simp [State.ownHeard, hw, hk, hc]

theorem State.ownHeard_release (hk : m.kind = .release) : s.ownHeard m = s.dropClaim s.boot.address := by
  simp [State.ownHeard, hw, hk]

theorem State.ownHeard_purgeCall (hk : m.kind = .purgeCall) (hst : s.ms.call.st = .waiting) :
    s.ownHeard m = (s.setMs { s.ms with call := { s.ms.call with heard := true } }).checkCall := by
  simp [State.ownHeard, hw, hk, hst]

theorem State.ownHeard_offer (hk : m.kind = .offer) : s.ownHeard m = s.offerTransmitted := by
  simp [State.ownHeard, hw, hk]

end

/-- The claim lists change at a CLAIM and a RELEASE alone. -/
theorem State.ownHeard_lists (s : State) {m : Telegram} (hclaim : m.kind ≠ .claim) (hrelease : m.kind ≠ .release) :
    (s.ownHeard m).ms.listA = s.ms.listA ∧ (s.ownHeard m).ms.listB = s.ms.listB := by
  unfold State.ownHeard
  split
  · exact ⟨rfl, rfl⟩
  · split
    · exact absurd ‹_› hclaim
    · exact absurd ‹_› hrelease
    · split <;> simp
    · simp
    all_goals exact ⟨rfl, rfl⟩

/-- A hearing raises no code but that of the purge path. -/
theorem State.ownHeard_pu (s : State) (m : Telegram) : PuKept s (s.ownHeard m) := by
  have hset : ∀ (t : State) m, PuKept t (t.setMs m) := fun t m => (PuKept.refl t).step rfl rfl rfl
  have hcheck : ∀ t : State, PuKept t t.checkCall := fun t => by
    unfold State.checkCall
    split
    · dsimp only
      split
      · exact (PuKept.refl t).step rfl rfl rfl
      · exact (hset t _).trans (State.pathToVent_pu _)
    · exact PuKept.refl t
  have same : ∀ t : State, t.boot = s.boot → t.cfg = s.cfg → t.pu = s.pu → PuKept s t := fun t =>
    (PuKept.refl s).step
  unfold State.ownHeard
  split
  · exact PuKept.refl s
  · split
    · split
      · exact same _ (by simp) (by simp) (by simp)
      · exact PuKept.refl s
    · exact same _ (by simp) (by simp) (by simp)
    · split
      · exact (hset s _).trans (hcheck _)
      · exact PuKept.refl s
    · exact same _ (by simp) (by simp) (by simp)
    all_goals exact PuKept.refl s

/-- Code 33 has left the set (R162). -/
theorem sentWhole_conclude_codes (s : State) (m : Telegram) :
    33 ∉ ((s.sentWhole.ownHeard m).conclude s).pu.codes := by
  have hkept := (State.ownHeard_pu s.sentWhole m).trans ((s.sentWhole.ownHeard m).conclude_pu s)
  rw [hkept.codes 33 (by decide)]
  simp [State.sentWhole]

/-! ### The seat in E4 (R59, R62) -/

theorem State.seat_claimHeard (s : State) (r : Route) : (s.seat r).ms.claimHeard = s.ms.claimHeard := by
  simp [State.seat]

/-- A claim put in leaves what has been heard of the own one. -/
theorem State.putRoute_claimHeard (s : State) (a : Nat) (r o : Route) (x : ClaimEntry) :
    (s.putRoute a r o x).ms.claimHeard = s.ms.claimHeard := by
  rw [State.putRoute, State.seat_claimHeard]
  split <;> simp [State.seat_claimHeard]

theorem State.putClaim_claimHeard (s : State) (a : Nat) (role : Role) (c : Claim) :
    (s.putClaim a role c).ms.claimHeard = s.ms.claimHeard := by
  rw [State.putClaim_eq, State.putRoute_claimHeard]

section
variable {s : State} (hf : s.isFoam = false) (h4 : s.sq.step = .e4)
include hf h4

/-- The end of a step with a seat in E4. -/
theorem conclude_e4 (hs : s.ownSeated = true) (old : State) : s.conclude old =
    ((s.setSq { s.sq with starve := Timer.stopped }).enterE5.settlePull.settleStarve).announceIf false old := by
  simp [State.conclude_extraction hf, State.settleExtraction, h4, State.settleE4, hs]

/-- E4 at the end of a step without hydrocarbon on route A: the own claim stays, and a seat leads to E5 (R59). -/
theorem conclude_e4_kept (hkeep : s.sq.routeB = true ∨ s.level .in3 = false) (old : State) :
    (s.conclude old).ms = s.ms ∧ (s.conclude old).sq.step = if s.ownSeated then .e5 else .e4 := by
  cases hs : s.ownSeated
  · have hstays := State.staysInStep_of_unseated (by simp [h4, Step.claims]) hs
    obtain ⟨hms, -, -, hsq, -⟩ := State.conclude_stays_frame hf hstays old
    exact ⟨hms, by simp [hsq, h4]⟩
  · rw [conclude_e4 hf h4 hs]
    have hentered := enterE5_kept (s := s.setSq { s.sq with starve := Timer.stopped }) hkeep
    simp [hentered]

/-- Hydrocarbon found at the seat changes the route: the claim raised anew stands unseated, and its starvation timer
starts from full (R62, R69, R70). -/
theorem conclude_e4_changed (hA : s.sq.routeB = false) (hin : s.level .in3 = true) (hde : s.pu.de = s.driveRule)
    (hg : s.gate = true) (hp : s.promoted = false) (old : State) (h5 : (s.conclude old).sq.step = .e5) :
    (s.conclude old).currentRoute = .B ∧ (s.conclude old).ownSeated = false
    ∧ (s.conclude old).sq.starve = Timer.start (1000 * s.cfg.starvationLimit) := by
  have hs : s.ownSeated = true := by
    by_contra hs
    have hs : s.ownSeated = false := by simpa using hs
    have hstays := State.staysInStep_of_unseated (by simp [h4, Step.claims]) hs
    obtain ⟨-, -, -, hsq, -⟩ := State.conclude_stays_frame hf hstays old
    simp [hsq, h4] at h5
  let u := s.setSq { s.sq with starve := Timer.stopped }
  let v := u.e5Entered.rerouted.raiseClaim .B u.claimClass
  have henter : u.enterE5 = v := enterE5_changes hA hin
  have hde' : u.e5Entered.pu.de = u.e5Entered.driveRule := by
    rw [State.driveRule_congr (s := s) (by simp [u]) (by simp [u]) (by simp [u])]
    simpa [u] using hde
  have hgate : v.settlePull.gate = true := by
    have hv : v.settlePull.gate = u.e5Entered.rerouted.gate := State.gate_congr (by simp [v]) (by simp [v])
    rw [hv, rerouted_gate hde', State.gate_congr (s := s) (by simp [u]) (by simp [u]), hg]
  have hprom : v.settlePull.promoted = false := by
    have hv : v.settlePull.promoted = u.e5Entered.rerouted.promoted := State.promoted_congr (by simp [v])
    rw [hv, rerouted_promoted, State.promoted_congr (s := s) (by simp [u]), hp]
  have hseat : v.settlePull.ownSeated = false := by
    rw [State.ownSeated_congr (s := v) (by simp) (by simp)]
    simp [v]
  have hstarve := State.starveTimer_start hseat hprom hgate (by simp [v, u, Timer.stopped])
  have hend : s.conclude old = v.settlePull.settleStarve.announceIf false old := by
    rw [conclude_e4 hf h4 hs, ← henter]
  have h5v : v.settlePull.sq.step = .e5 := by simp [v]
  rw [hend, State.settleStarve_eq, h5v]
  refine ⟨?_, ?_, ?_⟩
  · simp [State.currentRoute, v]
  · simpa using (State.ownSeated_congr (s := v.settlePull) (by simp) (by simp)).trans hseat
  · simpa [v, u] using hstarve

end

/-! ### The OFFER sent (R134, R135) -/

section
variable {s : State} (hst : s.ac.offer.st = .queued)
include hst

/-- An OFFER of an account still DONE starts the answer time. -/
theorem State.offerTransmitted_awaits {k : Key} (hk : s.ac.offer.key = some k)
    (he : ∃ e ∈ s.ac.queue, e.st = .done ∧ e.account.key = k) :
    s.offerTransmitted.ac.offer = { s.ac.offer with st := .awaiting, answer := Timer.start 250 } := by
  have hany : (s.ac.queue.any fun e => e.st == .done && some e.account.key == s.ac.offer.key) = true := by
    simpa [hk] using he
  rw [State.offerTransmitted, if_pos hst, if_pos hany]
  rfl

/-- One whose account has left the queue ends, and the next DONE account is offered. -/
theorem State.offerTransmitted_ends (hnone : ∀ e ∈ s.ac.queue, e.st = .done → s.ac.offer.key ≠ some e.account.key) :
    s.offerTransmitted = (s.setOffer { s.ac.offer with st := .idle, key := none }).tryOffer := by
  have hany : ¬(s.ac.queue.any fun e => e.st == .done && some e.account.key == s.ac.offer.key) = true := by
    rw [List.any_eq_true]
    rintro ⟨e, he, hmatch⟩
    simp only [Bool.and_eq_true, beq_iff_eq] at hmatch
    exact hnone e he hmatch.1 hmatch.2.symm
  rw [State.offerTransmitted, if_pos hst, if_neg hany]

end

/-- No OFFER is placed without a DONE account or outside the conditions of R134. -/
theorem State.tryOffer_stays {s : State}
    (h : s.ac.queue.find? (fun e => e.st == .done) = none
      ∨ ¬(s.isExtraction = true ∧ s.inRun = true ∧ (s.peer s.cfg.downstream).presence = .live)) :
    s.tryOffer = s := by
  unfold State.tryOffer
  split
  · rename_i hall
    obtain h | h := h
    · simp [h]
    · simp only [Bool.and_eq_true, beq_iff_eq] at hall
      exact absurd ⟨hall.1.1.1, hall.1.1.2, hall.2⟩ h
  · rfl

/-- An OFFER enqueued waits at the end of the step. -/
theorem offer_conclude_waits (s : State) (dst : Nat) (p : List Byte) (old : State) :
    ((s.send .offer dst p).conclude old).waits .offer dst p := by
  obtain ⟨m, hm, hkind, hdst, hpay⟩ : ∃ m ∈ (s.send .offer dst p).li.queue,
      m.kind = .offer ∧ m.cls = 2 ∧ m.dst = dst ∧ m.payload = p :=
    ⟨_, Line.mem_enqueue_self (by simp) (by simp) (by simp) (.inr (by simp [Kind.cls])), rfl, rfl, rfl, rfl⟩
  have hlasts : m.lasts := by simp [Telegram.lasts, hkind, hdst, Kind.isOwnClaim]
  exact ⟨m, hlasts.conclude old hm, hkind, hpay⟩

/-! ### The obligation -/

section
variable (s : State) {m : Telegram} (hw : s.working = true)
include hw

/-- The own CLAIM in the lists. -/
theorem sentClaim_lists (hk : m.kind = .claim) {role : Role} {c : Claim}
    (hc : claimPayload m.payload = some (role, c)) :
    let t := (s.sentWhole.ownHeard m).conclude s
    t.ms.list c.route = t.seatedNow c.route (joinList ⟨s.boot.address, role, c.cls, c.demand, false⟩
      (leaveList s.boot.address (s.ms.list c.route)))
    ∧ ∀ o, o ≠ c.route → t.ms.list o = if inList s.boot.address (s.ms.list o) = true
        then t.seatedNow o (leaveList s.boot.address (s.ms.list o)) else s.ms.list o := by
  intro t
  let u := s.sentWhole.setMs { s.sentWhole.ms with claimHeard := !(s.sentWhole.li.queue.any fun u => u.kind == .claim) }
  have ht : t = (u.putClaim s.boot.address role c).conclude s := by
    simp only [t]
    rw [State.ownHeard_claim (s.sentWhole_working.trans hw) hk hc]
    simp [u]
  have hlist : ∀ r, u.ms.list r = s.ms.list r := fun r => by cases r <;> simp [u, Manifold.list]
  have hput := u.putClaim_list s.boot.address role c
  simpa only [ht, State.conclude_list, State.conclude_seatedNow, State.putClaim_seatedNow, hlist] using hput

/-- The own CLAIM sent, before the end of the step: all but the claim lists stands as it stood, code 33 apart. -/
theorem sentClaim_frame (hk : m.kind = .claim) {role : Role} {c : Claim}
    (hc : claimPayload m.payload = some (role, c)) :
    let h := s.sentWhole.ownHeard m
    h.ms.own = s.ms.own ∧ h.ms.claimHeard = (s.li.queue.all fun u => u.kind != .claim) ∧ h.pu = s.sentWhole.pu
    ∧ h.boot = s.boot ∧ h.cfg = s.cfg ∧ h.sq = s.sq ∧ h.mu = s.mu ∧ h.ac = s.ac := by
  rw [State.ownHeard_claim (s.sentWhole_working.trans hw) hk hc]
  have hheard : (!s.li.queue.any fun u => u.kind == .claim) = s.li.queue.all fun u => u.kind != .claim := by
    simp [List.not_any_eq_all_not, bne]
  simp [State.putClaim_claimHeard, ← hheard]

/-- The own CLAIM at an EXTRACTION station in E4 (R59, R107). -/
theorem sentClaim_e4 (hk : m.kind = .claim) {role : Role} {c : Claim}
    (hc : claimPayload m.payload = some (role, c)) (hx : s.isExtraction = true) (h4 : s.sq.step = .e4) :
    let t := (s.sentWhole.ownHeard m).conclude s
    (s.sq.routeB = true ∨ s.level .in3 = false → t.ms.own = s.ms.own
      ∧ t.ms.claimHeard = (s.li.queue.all fun u => u.kind != .claim)
      ∧ t.sq.step = if t.ownSeated = true then .e5 else .e4)
    ∧ (s.sq.routeB = false → s.level .in3 = true → s.pu.de = s.driveRule → s.gate = true → s.promoted = false →
        t.sq.step = .e5 → t.currentRoute = .B ∧ t.ownSeated = false
        ∧ t.sq.starve = Timer.start (1000 * s.cfg.starvationLimit)) := by
  obtain ⟨hown, hheard, hpu, hboot, hcfg, hsq, hmu, hac⟩ := sentClaim_frame s hw hk hc
  have hf : (s.sentWhole.ownHeard m).isFoam = false := by
    rw [State.isFoam, hcfg]
    exact isFoam_of_isExtraction hx
  have h4' : (s.sentWhole.ownHeard m).sq.step = .e4 := by rw [hsq, h4]
  have hlevel : (s.sentWhole.ownHeard m).level .in3 = s.level .in3 := State.level_congr (by rw [hmu]) _
  intro t
  refine ⟨fun hkeep => ?_, fun hA hin hde hg hp h5 => ?_⟩
  · obtain ⟨hms, hstep⟩ := conclude_e4_kept hf h4' (by rwa [hsq, hlevel]) s
    have hseat : t.ownSeated = (s.sentWhole.ownHeard m).ownSeated := State.ownSeated_congr hms (by simp [t])
    exact ⟨by rw [hms, hown], by rw [hms, hheard], by rw [hseat, hstep]⟩
  · obtain ⟨hrule, hsame⟩ := s.sentWhole_de
    have hrule' : (s.sentWhole.ownHeard m).pu.de = (s.sentWhole.ownHeard m).driveRule := by
      rw [hpu, State.driveRule_congr (s := s.sentWhole) (by simp) (by simp) (by rw [hpu]), hrule]
    have hgate : (s.sentWhole.ownHeard m).gate = s.gate :=
      State.gate_congr (by rw [hpu, hrule, hsame, hde]) (by rw [hmu])
    have hprom : (s.sentWhole.ownHeard m).promoted = s.promoted := State.promoted_congr (by rw [hac])
    simpa [hcfg] using conclude_e4_changed hf h4' (by rw [hsq, hA]) (by rw [hlevel, hin]) hrule' (hgate.trans hg)
      (hprom.trans hp) s h5

/-- The own RELEASE in the lists (R104). -/
theorem sentRelease_lists (hk : m.kind = .release) (r : Route) :
    let t := (s.sentWhole.ownHeard m).conclude s
    t.ms.list r = if inList s.boot.address (s.ms.list r) = true
      then t.seatedNow r (leaveList s.boot.address (s.ms.list r)) else s.ms.list r := by
  rw [State.ownHeard_release (s.sentWhole_working.trans hw) hk]
  simp [State.dropClaim_list]

/-- The own PURGE CALL (R117). -/
theorem sentPurgeCall_call (hk : m.kind = .purgeCall) (hst : s.ms.call.st = .waiting) :
    let t := (s.sentWhole.ownHeard m).conclude s
    (s.ms.call.awaited ≠ [] → t.ms.call = { s.ms.call with heard := true })
    ∧ (s.ms.call.awaited = [] → t.ms.call = ⟨.manifold, [], true, Timer.stopped⟩) := by
  rw [State.ownHeard_purgeCall (s.sentWhole_working.trans hw) hk (by simpa using hst)]
  refine ⟨fun hawait => ?_, fun hnone => ?_⟩
  · rw [State.checkCall_stays (.inr (by simpa using hawait))]
    simp
  · simpa using (State.checkCall_manifold (s := s.sentWhole.setMs { s.sentWhole.ms with
      call := { s.sentWhole.ms.call with heard := true } }) (by simpa using hst) rfl (by simpa using hnone)).1

/-- The OFFER sent (R134, R135). -/
theorem sentOffer (hk : m.kind = .offer) (hst : s.ac.offer.st = .queued) :
    let t := (s.sentWhole.ownHeard m).conclude s
    (∀ k, s.ac.offer.key = some k → (∃ e ∈ s.ac.queue, e.st = .done ∧ e.account.key = k) →
      t.ac.offer = { s.ac.offer with st := .awaiting, answer := Timer.start 250 })
    ∧ ((∀ e ∈ s.ac.queue, e.st = .done → s.ac.offer.key ≠ some e.account.key) →
      (let live := s.isExtraction = true ∧ s.inRun = true ∧ (s.peer s.cfg.downstream).presence = .live
      let next := s.ac.queue.find? fun e => e.st == .done
      (∀ e, next = some e → live →
        t.ac.offer = { s.ac.offer with st := .queued, key := some e.account.key }
        ∧ t.waits .offer s.cfg.downstream (e.account.body false))
      ∧ (next = none ∨ ¬live → t.ac.offer = { s.ac.offer with st := .idle, key := none }))) := by
  rw [State.ownHeard_offer (s.sentWhole_working.trans hw) hk]
  have hqueued : s.sentWhole.ac.offer.st = .queued := by simpa using hst
  refine ⟨fun k hkey he => ?_, fun hnone => ?_⟩
  · simpa using State.offerTransmitted_awaits hqueued (k := k) (by simpa using hkey) (by simpa using he)
  · rw [State.offerTransmitted_ends hqueued (by simpa using hnone)]
    let u := s.sentWhole.setOffer { s.sentWhole.ac.offer with st := .idle, key := none }
    have hrole : u.isExtraction = s.isExtraction := by simp [u, State.isExtraction]
    have hrun : u.inRun = s.inRun := by simp [u, State.inRun, State.phase]
    have hpeer : u.peer u.cfg.downstream = s.peer s.cfg.downstream := by simp [u, State.peer]
    have hnext : u.ac.queue = s.ac.queue := by simp [u, State.setOffer]
    refine ⟨fun e he live => ?_, fun hstays => ?_⟩
    · obtain ⟨hx, hr, hd⟩ := live
      rw [tryOffer_places (s := u) (hrole.trans hx) (hrun.trans hr) rfl (by rwa [hpeer]) (by rwa [hnext])]
      exact ⟨by simp [u, State.setOffer], by simpa [u] using offer_conclude_waits (u.setOffer _) _ _ s⟩
    · rw [State.tryOffer_stays (s := u) (by rwa [hnext, hrole, hrun, hpeer])]
      simp [u, State.setOffer]

end

/-- Settles O52: what each kind makes of the station that hears it, at the end of the step. -/
theorem ownTelegramIsHeardWhenSent : Obligations.OwnTelegramIsHeardWhenSent := by
  intro s m hm
  refine ⟨_, exec_transmitComplete hm, by simp, by simp, sentWhole_conclude_codes s m, fun hw => ⟨?_, ?_, ?_, ?_, ?_, ?_⟩⟩
  · intro hk role c hc
    obtain ⟨hsame, hother⟩ := sentClaim_lists s hw hk hc
    exact ⟨hsame, hother, fun hx h4 => (sentClaim_e4 s hw hk hc hx h4).1,
      fun hx h4 => (sentClaim_e4 s hw hk hc hx h4).2⟩
  · exact fun hk => sentRelease_lists s hw hk
  · exact fun hk => sentPurgeCall_call s hw hk
  · exact fun hk hst => (sentOffer s hw hk hst).1
  · exact fun hk hst => (sentOffer s hw hk hst).2
  · intro hclaim hrelease
    simpa using s.sentWhole.ownHeard_lists hclaim hrelease
end Sys2Proof.Machine
end

section
/-! PROOF. The own hazard (O39): the level the comparators give, the claim lists that run when the line hazard changes
with it, and the chamber it halts. -/

namespace Sys2Proof.Machine

/-! ### Runs for a changed hazard (R131) -/

@[simp] theorem State.hazardRuns_seatedNow (s old : State) : (s.hazardRuns old).seatedNow = s.seatedNow :=
  State.seatedNow_congr (by simp) (by simp) (by simp) (by simp)

@[simp] theorem State.hazardRuns_lineHazard (s old : State) : (s.hazardRuns old).lineHazard = s.lineHazard := by
  simp [State.lineHazard]

/-- Both lists run exactly when the line hazard differs from before. -/
theorem State.hazardRuns_list (s old : State) (r : Route) : (s.hazardRuns old).ms.list r =
    if s.lineHazard = old.lineHazard then s.ms.list r else s.seatedNow r (s.ms.list r) := by
  unfold State.hazardRuns
  split
  · rfl
  · exact s.seatBoth_list r

/-- The step that forms the own hazard gives it the level of the comparators. -/
theorem conclude_formHazard_ownHazard (s old : State) :
    (s.formHazard.conclude old).pt.ownHazard = s.hazardLevel := by
  simp [State.formHazard]

/-- The lists at the end of that step. -/
theorem conclude_formHazard_list (s old : State) (r : Route) :
    let t := s.formHazard.conclude old
    t.ms.list r = if t.lineHazard = s.lineHazard then s.ms.list r else t.seatedNow r (s.ms.list r) := by
  simp [State.formHazard, State.hazardRuns_list]

/-- The level of the comparators, by the rows of R89 and R129. -/
theorem State.hazardLevel_eq (s : State) : s.hazardLevel =
    if s.mu.cmp.ambientStop.met = true ∨ (s.isFoam = true ∧
        (s.mu.cmp.chamberStop.met = true ∨ (s.mu.cmp.oxygenHigh.met = true ∧ s.mu.cmp.chamberWatch.met = true)))
      then .stop
    else if s.mu.cmp.ambientWatch.met = true ∨ (s.isFoam = true ∧ s.mu.cmp.chamberWatch.met = true) then .watch
    else .noHazard := by
  simp only [State.hazardLevel, Bool.or_eq_true, Bool.and_eq_true]

/-! ### The halt (R90) -/

section
variable {s : State}

/-- Outside PURGING a halt cause leads to HALTED, where the chamber stays while the conditions of R91 fail. -/
theorem chamberMoves_halts (hst : s.ch.st ≠ .purging) (hc : s.haltCause s.ch.st = true) (he : s.haltEnds = false)
    (n : Nat) : (s.chamberMoves (n + 1)).ch.st = .halted := by
  have hstays : s.enterHalted.chamberMove = none := by
    have hends : s.enterHalted.haltEnds = false := by simpa [State.haltEnds] using he
    rw [State.chamberMove_halted (by simp), hends]
    rfl
  have hhalts : s.chamberMove = some s.enterHalted → (s.chamberMoves (n + 1)).ch.st = .halted := fun hm => by
    rw [State.chamberMoves_of_some hm, State.chamberMoves_of_none hstays]
    simp
  cases hs : s.ch.st with
  | inerting => exact hhalts (by rw [State.chamberMove_inerting hs, ← hs, hc, if_pos rfl])
  | ready => exact hhalts (by rw [State.chamberMove_ready hs, ← hs, hc, if_pos rfl])
  | entry => exact hhalts (by rw [State.chamberMove_entry hs, ← hs, hc, if_pos rfl])
  | sweep => exact hhalts (by rw [State.chamberMove_sweep hs, ← hs, hc, if_pos rfl])
  | halted =>
    have hm : s.chamberMove = none := by
      rw [State.chamberMove_halted hs, he]
      rfl
    rw [State.chamberMoves_of_none hm, hs]
  | purging => exact absurd hs hst

/-- The end of a step at a FOAM station at work with a halt cause. -/
theorem conclude_halts (hf : s.isFoam = true) (hp : s.ch.pending = false) (hst : s.ch.st ≠ .purging)
    (hc : s.haltCause s.ch.st = true) (he : s.haltEnds = false) (old : State) : (s.conclude old).ch.st = .halted := by
  obtain ⟨hend, -⟩ := State.conclude_chamber hf hp rfl old
  rw [hend]
  exact chamberMoves_halts hst hc he 5

end

/-! ### The commands -/

section
variable {s : State}

/-- The state in which oxygen high is met, before the own hazard is formed (R89). -/
def State.oxygenHighMet (s : State) : State := s.setCmp { s.mu.cmp with oxygenHigh := s.mu.cmp.oxygenHigh.fire }

theorem exec_ownHazardChange (hw : s.working = true) (hd : s.hazardLevel ≠ s.pt.ownHazard) :
    exec .ownHazardChange s = .next (s.formHazard.conclude s) := by
  simp [exec, execOwnHazardChange, hw, hd]

theorem exec_oxygenHigh (hf : s.isFoam = true) (hd : s.mu.cmp.oxygenHigh.due 0 = true) :
    exec .oxygenHigh s = .next (s.oxygenHighMet.formHazard.conclude s) := by
  simp [exec, execOxygenHigh, hf, hd, State.oxygenHighMet]

/-- At an own hazard of STOP the chamber halts. -/
theorem conclude_formHazard_halts (hf : s.isFoam = true) (hp : s.ch.pending = false) (hst : s.ch.st ≠ .purging)
    (hh : s.hazardLevel = .stop) (old : State) : (s.formHazard.conclude old).ch.st = .halted := by
  have hstop : s.formHazard.pt.ownHazard = .stop := by simpa [State.formHazard] using hh
  exact conclude_halts (by simpa [State.isFoam] using hf) (by simpa using hp) (by simpa using hst)
    (by simp [State.haltCause, hstop]) (by simp [State.haltEnds, hstop]) old

@[simp] theorem State.oxygenHighMet_frame (s : State) : s.oxygenHighMet.mu.cmp.oxygenHigh.met = true
    ∧ s.oxygenHighMet.cfg = s.cfg ∧ s.oxygenHighMet.ch = s.ch :=
  ⟨rfl, rfl, rfl⟩

/-- With oxygen high met SRP is off (R81). -/
theorem srp_of_oxygenHigh (h : s.mu.cmp.oxygenHigh.met = true) : s.srp = false := by
  simp [State.srp, State.srpCommand, h]

/-- Oxygen high halts the chamber outside INERTING. -/
theorem conclude_oxygenHigh_halts (hf : s.isFoam = true) (hp : s.ch.pending = false)
    (hst : s.ch.st ∈ [ChamberState.ready, ChamberState.entry, ChamberState.sweep])
    (hu : s.mu.cmp.oxygenUnder.met = false) (old : State) :
    (s.oxygenHighMet.formHazard.conclude old).ch.st = .halted := by
  have houtside : s.ch.st ≠ .inerting ∧ s.ch.st ≠ .purging := by
    constructor <;> rintro h <;> simp [h] at hst
  have hunder : s.oxygenHighMet.mu.cmp.oxygenUnder.met = false := hu
  exact conclude_halts (by simpa [State.isFoam] using hf) (by simpa using hp) (by simpa using houtside.2)
    (by simp [State.haltCause, houtside.1]) (by simp [State.haltEnds, hunder]) old

end

/-- Settles O39: both commands form the own hazard anew, and SQ follows within the step. -/
theorem ownHazardFollowsComparators : Obligations.OwnHazardFollowsComparators := by
  intro s
  refine ⟨fun hw hd => ⟨_, exec_ownHazardChange hw hd, ?_, conclude_formHazard_list s s, fun hf hp hst hstop => ?_⟩,
    fun hf hd => ⟨_, exec_oxygenHigh hf hd, ?_, ?_, ?_, ?_, fun hp hst hu => conclude_oxygenHigh_halts hf hp hst hu s⟩⟩
  · exact (conclude_formHazard_ownHazard s s).trans s.hazardLevel_eq
  · exact conclude_formHazard_halts hf hp hst ((conclude_formHazard_ownHazard s s).symm.trans hstop) s
  · simp
  · exact conclude_formHazard_ownHazard s.oxygenHighMet s
  · intro r
    exact conclude_formHazard_list s.oxygenHighMet s r
  · exact srp_of_oxygenHigh (by simp)

end Sys2Proof.Machine
end

section
/-! SUPPORT. What stands in the claim lists whatever is seated, and what the operations on the peer table leave of it:
the entries of a claimant that has left, of one whose claim has been put in, and the peer entries themselves (R103 to
R106, R121). -/

namespace Sys2Proof.Machine

/-! ### The claims of a route, their seats apart -/

/-- The entries of the claim list of a route, each without its seat. -/
def State.claims (s : State) (r : Route) : List ClaimEntry := (s.ms.list r).map ClaimEntry.unseated

theorem State.seatedNow_unseated (s : State) (r : Route) (l : List ClaimEntry) :
    (s.seatedNow r l).map ClaimEntry.unseated = l.map ClaimEntry.unseated :=
  seatRun_unseated r _ _ _ _ l

theorem State.claims_congr {s t : State} {r : Route} (h : t.ms.list r = s.ms.list r) : t.claims r = s.claims r := by
  rw [State.claims, State.claims, h]

@[simp] theorem State.seat_claims (s : State) (q r : Route) : (s.seat q).claims r = s.claims r := by
  simp only [State.claims, State.seat_list]
  split
  next hr => rw [State.seatedNow_unseated, hr]
  next => rfl

@[simp] theorem State.hazardRuns_claims (s old : State) (r : Route) : (s.hazardRuns old).claims r = s.claims r := by
  unfold State.hazardRuns State.seatBoth
  split <;> simp

@[simp] theorem State.receiverRuns_claims (s old : State) (r : Route) :
    (s.receiverRuns old).claims r = s.claims r := by
  unfold State.receiverRuns
  dsimp only
  (repeat' split) <;> simp

@[simp] theorem State.clearMark_claims (s : State) (a : Nat) (r : Route) : (s.clearMark a).claims r = s.claims r := by
  simp only [State.claims, State.clearMark_list]
  split
  · exact State.seatedNow_unseated _ r _
  · rfl

/-- Whether a claimant has an entry does not depend on the seats. -/
theorem State.inList_claims (s : State) (a : Nat) (r : Route) : inList a (s.claims r) = inList a (s.ms.list r) := by
  simp [State.claims, inList, Function.comp_def]

/-- Nor does whether its entry is as a claim. -/
theorem State.hasClaim_of_claims {s t : State} {c : Claim} (h : t.claims c.route = s.claims c.route) (a : Nat) :
    t.hasClaim a c = s.hasClaim a c := by
  have hread : ∀ u : State, u.hasClaim a c =
      (u.claims c.route).any fun e => e.claimant == a && e.cls == c.cls && e.demand == c.demand := fun u => by
    simp [State.hasClaim, State.claims, Function.comp_def]
  rw [hread, hread, h]

theorem State.hasClaim_iff (s : State) (a : Nat) (c : Claim) : s.hasClaim a c = true ↔
    ∃ e ∈ s.ms.list c.route, e.claimant = a ∧ e.cls = c.cls ∧ e.demand = c.demand := by
  simp [State.hasClaim, and_assoc]

/-! ### Leaving and joining -/

theorem inList_leaveList (a : Nat) (l : List ClaimEntry) : inList a (leaveList a l) = false := by
  simp [inList, leaveList]

/-- A claimant that has been removed stands in no list (R105). -/
theorem State.dropClaim_gone (s : State) (a : Nat) (r : Route) : inList a ((s.dropClaim a).claims r) = false := by
  rw [State.claims, State.dropClaim_list]
  split
  · rw [State.seatedNow_unseated]
    simpa [inList, Function.comp_def] using inList_leaveList a (s.ms.list r)
  next h => simpa [inList, Function.comp_def] using h

/-- A claim that has been put in stands with its class and demand (R103). -/
theorem State.putClaim_stands (s : State) (a : Nat) (role : Role) (c : Claim) :
    (s.putClaim a role c).hasClaim a c = true := by
  let x : ClaimEntry := ⟨a, role, c.cls, c.demand, false⟩
  have hclaims : (s.putClaim a role c).claims c.route =
      (joinList x (leaveList a (s.ms.list c.route))).map ClaimEntry.unseated := by
    rw [State.claims, (s.putClaim_list a role c).1, State.seatedNow_unseated]
  have hmem : x ∈ (s.putClaim a role c).claims c.route := by
    rw [hclaims]
    exact List.mem_map.mpr ⟨x, (joinList_perm x _).mem_iff.mpr (List.mem_cons_self ..), rfl⟩
  obtain ⟨e, he, hx⟩ := List.mem_map.mp hmem
  rw [State.hasClaim_iff]
  exact ⟨e, he, congrArg ClaimEntry.claimant hx, congrArg ClaimEntry.cls hx, congrArg ClaimEntry.demand hx⟩

/-! ### The peer entries -/

theorem State.peer_congr {s t : State} (h : t.pt.entries = s.pt.entries) (a : Nat) : t.peer a = s.peer a := by
  rw [State.peer, State.peer, h]

/-- An entry that is replaced reads as it was written. -/
theorem State.setPeer_peer_same {s : State} {a : Nat} (h : a < s.pt.entries.length) (e : Peer) :
    (s.setPeer a e).peer a = e := by
  simp [State.peer, State.setPeer, h]

theorem State.setPeer_peer_ne (s : State) {a b : Nat} (h : b ≠ a) (e : Peer) : (s.setPeer a e).peer b = s.peer b := by
  simp [State.peer, State.setPeer, List.getElem?_set_ne h.symm]

/-- A refreshed entry (R122). -/
theorem Peer.refreshed_eq (c : Settings) (e : Peer) : e.refreshed c =
    if e.presence = .absent then { presence := .live, age := Timer.start (c.staleCount * c.statusInterval) }
    else { e with presence := .live, age := Timer.start (c.staleCount * c.statusInterval) } := by
  cases h : e.presence <;> simp [Peer.refreshed, h, Settings.staleTime]

/-- The sender's entry once PT has taken note of it, and every other. -/
theorem refresh_peer {s : State} (hlen : s.pt.entries.length = 24) {a : Nat} (ha : a < 24) :
    (s.endReception.refresh a).peer a = (s.peer a).refreshed s.cfg
    ∧ ∀ b, b ≠ a → (s.endReception.refresh a).peer b = s.peer b := by
  have hstay : ∀ b, s.endReception.peer b = s.peer b := fun b => State.peer_congr (by simp) b
  refine ⟨?_, fun b hb => ?_⟩
  · rw [State.refresh, State.setPeer_peer_same (by simpa [hlen] using ha), hstay]
    simp
  · rw [State.refresh, State.setPeer_peer_ne _ hb, hstay]

/-- What a telegram that PT takes note of is known by (R122, R125, R158). -/
theorem State.hearsFrom_iff (s : State) (f : Frame) : s.hearsFrom f = true ↔
    s.li.hearing = true ∧ s.working = true ∧ (f.dst.toNat = s.boot.address ∨ f.dst.toNat = 31)
      ∧ f.src.toNat ≠ s.boot.address ∧ f.src.toNat < 24 := by
  simp [State.hearsFrom, and_assoc]

theorem station_of_takes {s : State} {k : Kind} {f : Frame} (h : s.takes k f = true) : f.src.toNat < 24 := by
  simp only [State.takes, Bool.and_eq_true] at h
  obtain ⟨-, -, -, -, hstation⟩ := (s.hearsFrom_iff f).mp h.1
  exact hstation

end Sys2Proof.Machine
end

section
/-! PROOF. A STATUS heard (O48): the entry it writes, the claim its echo leaves, the purge mark, and the HELD accounts
that a changed intake space brings back. -/

namespace Sys2Proof.Machine

/-! ### The claim echo (R106) -/

/-- An echo of no claim leaves the sender no entry (log 44). -/
theorem compareEcho_noClaim (s : State) (a : Nat) (role : Role) (r : Route) :
    inList a ((s.compareEcho a role .noClaim).claims r) = false := s.dropClaim_gone a r

/-- An echo of a claim leaves the sender's entry as that claim. -/
theorem compareEcho_claim (s : State) (a : Nat) (role : Role) (c : Claim) :
    (s.compareEcho a role (.claim c)).hasClaim a c = true := by
  simp only [State.compareEcho]
  split
  next h => exact h
  next => exact s.putClaim_stands a role c

/-! ### The blocks that follow the entry -/

/-- The state in which a STATUS has been written into its sender's entry and MS has followed, before AS hears of it
(R106, R119, R123, R131). -/
def State.statusWritten (s old : State) (a : Nat) (p : List Byte) : State :=
  let e := peerOfStatus (s.peer a) p
  let t := (s.setPeer a e).compareEcho a e.role e.echo
  ((if statusPurging p then t else t.clearMark a).hazardRuns old).receiverRuns old

theorem takeStatus_eq (s old : State) (a : Nat) (p : List Byte) :
    s.takeStatus old a p = (s.statusWritten old a p).downstreamChange old := rfl

@[simp] theorem statusWritten_frame (s old : State) (a : Nat) (p : List Byte) :
    (s.statusWritten old a p).pt = (s.setPeer a (peerOfStatus (s.peer a) p)).pt
    ∧ (s.statusWritten old a p).cfg = s.cfg ∧ (s.statusWritten old a p).ac = s.ac := by
  unfold State.statusWritten
  dsimp only
  split <;> simp

/-- The claims are those the comparison of the echo has left. -/
theorem statusWritten_claims (s old : State) (a : Nat) (p : List Byte) (r : Route) :
    (s.statusWritten old a p).claims r = ((s.setPeer a (peerOfStatus (s.peer a) p)).compareEcho a
      (Role.ofCode (byteAt p 0)) (echoOf p)).claims r := by
  simp only [State.statusWritten, State.receiverRuns_claims, State.hazardRuns_claims]
  split
  · rfl
  · exact State.clearMark_claims _ a r

theorem statusWritten_marks (s old : State) (a : Nat) (p : List Byte) (b : Nat) :
    b ∈ (s.statusWritten old a p).ms.marks ↔ b ∈ s.ms.marks ∧ (b = a → byteAt p 2 = 21) := by
  by_cases hp : byteAt p 2 = 21 <;> simp [State.statusWritten, statusPurging, hp, State.mem_clearMark, and_comm]

/-! ### The accounts that return (R139) -/

/-- The working state of an account that returns from HELD to DONE; any other's stays. -/
theorem resumeHeld_work (q : List QueueEntry) : (resumeHeld q).map QueueEntry.work =
    (q.map QueueEntry.work).map fun w =>
      if w.2.1 = .held then (w.1, .done, w.2.2.1, w.2.2.2.1, w.2.2.2.2.1, 0) else w := by
  simp only [resumeHeld, List.map_map]
  refine List.map_congr_left fun e _ => ?_
  by_cases h : e.st = .held <;> simp [QueueEntry.work, h]

/-- A queue without a HELD account has none to return. -/
theorem resumeHeld_of_none {q : List QueueEntry} (h : (q.any fun e => e.st == .held) = false) : resumeHeld q = q := by
  have hno : ∀ e ∈ q, e.st ≠ .held := by simpa using h
  exact (List.map_congr_left fun e he => if_neg (hno e he)).trans (List.map_id q)

/-- A changed intake space above 0 of a LIVE downstream peer returns every HELD account. -/
theorem downstreamChange_resumes {s old : State} (hx : s.isExtraction = true)
    (hl : (s.peer s.cfg.downstream).presence = .live)
    (hin : (old.peer s.cfg.downstream).intake ≠ (s.peer s.cfg.downstream).intake)
    (hpos : 0 < (s.peer s.cfg.downstream).intake) : (s.downstreamChange old).ac.queue = resumeHeld s.ac.queue := by
  cases hheld : s.ac.queue.any fun e => e.st == .held
  · rw [resumeHeld_of_none hheld]
    obtain h | h := s.downstreamChange_queue old
    · exact h
    · rw [h, resumeHeld_of_none hheld]
  · simp only [State.downstreamChange, hx, hl, hpos, hheld, decide_eq_true hin, BEq.rfl, Bool.or_true, Bool.true_or,
      Bool.and_self, decide_true, if_true, State.tryOffer_frame]
    split <;> simp

/-! ### The telegram -/

theorem exec_status {s : State} {f : Frame} (h : s.takes .status f = true) : exec (.status f) s =
    .next (((s.endReception.refresh f.src.toNat).takeStatus s f.src.toNat f.payload).conclude s) := by
  simp only [State.takes, Bool.and_eq_true] at h
  obtain ⟨hears, hands⟩ := h
  simp [exec, execStatus, State.hear_of_hearsFrom hears, hands]

/-- The sender's entry (R123), and every other. -/
theorem statusWritten_peer {s : State} (hlen : s.pt.entries.length = 24) {a : Nat} (ha : a < 24) (p : List Byte) :
    ((s.endReception.refresh a).statusWritten s a p).peer a = peerOfStatus ((s.peer a).refreshed s.cfg) p
    ∧ ∀ b, b ≠ a → ((s.endReception.refresh a).statusWritten s a p).peer b = s.peer b := by
  obtain ⟨hsame, hother⟩ := refresh_peer hlen ha
  have hread : ∀ b, ((s.endReception.refresh a).statusWritten s a p).peer b = _ := fun b =>
    State.peer_congr (congrArg Peers.entries (statusWritten_frame _ s a p).1) b
  refine ⟨?_, fun b hb => ?_⟩
  · rw [hread, State.setPeer_peer_same (by simpa [State.refresh, State.setPeer, hlen] using ha), hsame]
  · rw [hread, State.setPeer_peer_ne _ hb, hother b hb]

/-- What a STATUS leaves in an entry is the payload's, but for the presence and the age (R122, R123). -/
theorem peerOfStatus_refreshed (c : Settings) (e : Peer) (p : List Byte) : peerOfStatus (e.refreshed c) p =
    { presence := .live
      role := Role.ofCode (byteAt p 0), summary := some ⟨p.getD 1 0, p.getD 2 0, p.getD 3 0⟩
      hazard := Hazard.ofCode (byteAt p 4), intake := min 4 (byteAt p 6)
      receiverA := (byteAt p 7).testBit 0, receiverB := (byteAt p 7).testBit 1
      storeFull := (byteAt p 7).testBit 2, echo := echoOf p
      age := Timer.start (c.staleCount * c.statusInterval) } := by
  rw [Peer.refreshed_eq]
  split <;> rfl

/-- Settles O48: the entry, the claims, the marks and the accounts that the end of the step keeps. -/
theorem statusWritesThePeerEntry : Obligations.StatusWritesThePeerEntry := by
  intro s f hlen h
  refine ⟨_, exec_status h, ?_⟩
  dsimp only
  rw [takeStatus_eq]
  let a := f.src.toNat
  let u := (s.endReception.refresh a).statusWritten s a f.payload
  have hpeer : ∀ b, ((u.downstreamChange s).conclude s).peer b = u.peer b := fun b => State.peer_congr (by simp) b
  have hlist : ∀ r, ((u.downstreamChange s).conclude s).ms.list r = u.ms.list r := fun r => by simp
  obtain ⟨hwritten, hother⟩ := statusWritten_peer hlen (station_of_takes h) f.payload
  have hsender : u.peer a = _ := hwritten.trans (peerOfStatus_refreshed _ _ _)
  refine ⟨(hpeer a).trans hsender, fun b hb => ?_, fun hno r => ?_, fun c hc => ?_, fun b => ?_, fun hx ha hp hin => ?_⟩
  · exact (hpeer b).trans (hother b hb)
  · rw [hlist, ← State.inList_claims, statusWritten_claims, show echoOf f.payload = .noClaim from if_pos hno]
    exact compareEcho_noClaim _ a _ r
  · rw [hlist, ← State.hasClaim_iff, State.hasClaim_of_claims (statusWritten_claims _ s a f.payload c.route), hc]
    exact compareEcho_claim _ a _ c
  · simpa using statusWritten_marks (s.endReception.refresh a) s a f.payload b
  · have hdown : u.cfg.downstream = a := by simpa [u] using ha.symm
    have hqueue : (u.downstreamChange s).ac.queue = resumeHeld s.ac.queue := by
      have hres := downstreamChange_resumes (s := u) (old := s) (by simpa [u, State.isExtraction] using hx)
        (by rw [hdown, hsender]) (by rw [hdown, hsender]; exact hin.symm) (by rw [hdown, hsender]; simp; omega)
      simpa [u] using hres
    rw [State.conclude_work, State.queueWork, hqueue]
    exact resumeHeld_work s.ac.queue

end Sys2Proof.Machine
end

section
/-! PROOF. A peer that has gone silent (O49): its entry, and what it loses in the claim lists, the purge marks and the
awaited set. -/

namespace Sys2Proof.Machine

/-- The state in which an entry has become STALE and MS has followed, before PU and AS hear of it (R105, R117, R119,
R131). -/
def State.peerLost (s : State) (a : Nat) : State :=
  (((((s.setPeer a (s.peer a).staled).hazardRuns s).dropClaim a).clearMark a).dropAwaited a).receiverRuns s

theorem makeStale_eq (s : State) (a : Nat) : s.makeStale a =
    (if (s.peer a).role = .foam then (s.peerLost a).addCode 32 else s.peerLost a).downstreamChange s := rfl

/-- PU and AS leave the entries and the manifold share as they find them. -/
@[simp] theorem makeStale_pt_ms (s : State) (a : Nat) :
    (s.makeStale a).pt = (s.peerLost a).pt ∧ (s.makeStale a).ms = (s.peerLost a).ms := by
  rw [makeStale_eq]
  split <;> simp

@[simp] theorem peerLost_pt (s : State) (a : Nat) : (s.peerLost a).pt = (s.setPeer a (s.peer a).staled).pt := by
  simp [State.peerLost]

/-- The peer leaves both claim lists (R105). -/
theorem peerLost_inList (s : State) (a : Nat) (r : Route) : inList a ((s.peerLost a).ms.list r) = false := by
  let t := (s.setPeer a (s.peer a).staled).hazardRuns s
  have hawaited : (((t.dropClaim a).clearMark a).dropAwaited a).claims r = ((t.dropClaim a).clearMark a).claims r :=
    State.claims_congr (by cases r <;> simp [Manifold.list])
  have hclaims : (s.peerLost a).claims r = (t.dropClaim a).claims r := by
    rw [State.peerLost, State.receiverRuns_claims, hawaited, State.clearMark_claims]
  rw [← State.inList_claims, hclaims]
  exact t.dropClaim_gone a r

/-- Its mark is cleared (R119). -/
theorem peerLost_marks (s : State) (a b : Nat) : b ∈ (s.peerLost a).ms.marks ↔ b ≠ a ∧ b ∈ s.ms.marks := by
  simp [State.peerLost, State.mem_clearMark]

/-- An address that leaves the awaited set of a call is in it no more, whatever the call becomes (R117). -/
theorem State.dropAwaited_gone {s : State} (h : s.ms.call.st = .waiting) (a : Nat) :
    a ∉ (s.dropAwaited a).ms.call.awaited := by
  obtain ⟨-, hrest, hdone⟩ := s.dropAwaited_call a
  by_cases hend : s.ms.call.heard = true ∧ s.ms.call.awaited.filter (· ≠ a) = []
  · rw [(hdone h hend.1 hend.2).1]
    simp
  · have hgo : s.ms.call.heard = false ∨ s.ms.call.awaited.filter (· ≠ a) ≠ [] := by
      cases hh : s.ms.call.heard <;> simp_all
    rw [hrest h hgo]
    simp

theorem peerLost_awaited {s : State} (h : s.ms.call.st = .waiting) (a : Nat) :
    a ∉ (s.peerLost a).ms.call.awaited := by
  let t := (((s.setPeer a (s.peer a).staled).hazardRuns s).dropClaim a).clearMark a
  have hcall : t.ms.call.st = .waiting := by simpa [t] using h
  simpa [State.peerLost] using State.dropAwaited_gone hcall a

/-- A FOAM peer is reported (R124). -/
theorem makeStale_codes {s : State} {a : Nat} (h : (s.peer a).role = .foam) : 32 ∈ (s.makeStale a).pu.codes := by
  simp [makeStale_eq, h, mem_insertCode]

theorem exec_peerStale {s : State} {a : Fin 24} (hw : s.working = true) (hl : (s.peer a).presence = .live)
    (hd : (s.peer a).age.due = true) : exec (.peerStale a) s = .next ((s.makeStale a).conclude s) := by
  simp [exec, execPeerStale, hw, hl, hd]

/-- Settles O49: what the entry loses stays lost at the end of the step. -/
theorem stalePeerLosesItsClaims : Obligations.StalePeerLosesItsClaims := by
  intro s a hlen hw hl hd
  have ha : a.val < s.pt.entries.length := by omega
  have hpeer : ∀ b, ((s.makeStale a).conclude s).peer b = (s.setPeer a (s.peer a).staled).peer b := fun b =>
    State.peer_congr (by simp) b
  refine ⟨_, exec_peerStale hw hl hd, ?_, fun b hb => ?_, fun r => ?_, fun b => ?_, fun hcall => ?_, fun hrole => ?_⟩
  · rw [hpeer, State.setPeer_peer_same ha]
    rfl
  · rw [hpeer, State.setPeer_peer_ne s hb]
  · rw [State.conclude_list, (makeStale_pt_ms s a).2]
    exact peerLost_inList s a r
  · simpa using peerLost_marks s a b
  · simpa using peerLost_awaited hcall a
  · exact ((State.conclude_pu _ _).codes 32 (by decide)).mpr (makeStale_codes hrole)

end Sys2Proof.Machine
end

section
/-! PROOF. The status timers and the service idle timer (O50): the line hazard, the bytes of STATUS, and what each
expiry makes of the state. -/

namespace Sys2Proof.Machine

/-! ### The line hazard (R130) -/

/-- The entry counts for the line hazard: it is LIVE or STALE. -/
def Peer.counted (e : Peer) : Prop := e.presence ≠ .absent

theorem Hazard.max_spec (a b : Hazard) : a.rank ≤ (a.max b).rank ∧ b.rank ≤ (a.max b).rank
    ∧ (a.max b = a ∨ a.max b = b) := by
  cases a <;> cases b <;> decide

/-- The level carried through the entries, as the line hazard carries the own one. -/
def hazardOver (own : Hazard) (l : List Peer) : Hazard :=
  l.foldl (fun h e => if e.presence = .absent then h else h.max e.hazard) own

/-- It is the highest of the level it begins with and those of the entries that count, and one of these. -/
theorem hazardOver_highest (own : Hazard) (l : List Peer) : own.rank ≤ (hazardOver own l).rank
    ∧ (∀ e ∈ l, e.counted → e.hazard.rank ≤ (hazardOver own l).rank)
    ∧ (hazardOver own l = own ∨ ∃ e ∈ l, e.counted ∧ e.hazard = hazardOver own l) := by
  induction l generalizing own with
  | nil => simp [hazardOver]
  | cons x l ih =>
    by_cases hx : x.presence = .absent
    · have hskip : hazardOver own (x :: l) = hazardOver own l := by simp [hazardOver, hx]
      obtain ⟨hown, hall, hone⟩ := ih own
      rw [hskip]
      refine ⟨hown, fun e he hc => ?_, hone.imp_right fun ⟨e, he, h⟩ => ⟨e, List.mem_cons_of_mem _ he, h⟩⟩
      obtain rfl | he := List.mem_cons.mp he
      · exact absurd hx hc
      · exact hall e he hc
    · have htake : hazardOver own (x :: l) = hazardOver (own.max x.hazard) l := by simp [hazardOver, hx]
      obtain ⟨hmax, hall, hone⟩ := ih (own.max x.hazard)
      obtain ⟨hown, hxle, heq⟩ := own.max_spec x.hazard
      rw [htake]
      refine ⟨hown.trans hmax, fun e he hc => ?_, ?_⟩
      · obtain rfl | he := List.mem_cons.mp he
        · exact hxle.trans hmax
        · exact hall e he hc
      · obtain h | ⟨e, he, h⟩ := hone
        · obtain hm | hm := heq
          · exact .inl (h.trans hm)
          · exact .inr ⟨x, List.mem_cons_self .., hx, (h.trans hm).symm⟩
        · exact .inr ⟨e, List.mem_cons_of_mem _ he, h⟩

/-- The line hazard is that of the own hazard and the peer entries. -/
theorem State.lineHazard_highest (s : State) : s.pt.ownHazard.rank ≤ s.lineHazard.rank
    ∧ (∀ e ∈ s.pt.entries, e.counted → e.hazard.rank ≤ s.lineHazard.rank)
    ∧ (s.lineHazard = s.pt.ownHazard ∨ ∃ e ∈ s.pt.entries, e.counted ∧ e.hazard = s.lineHazard) :=
  hazardOver_highest s.pt.ownHazard s.pt.entries

/-! ### The bytes of STATUS (R126, R179) -/

/-- A level in its byte. -/
theorem hazard_byte (h : Hazard) :
    BitVec.ofNat 8 h.rank = (match h with | .noHazard => 0 | .watch => 1 | .stop => 2 : Byte) := by
  cases h <;> rfl

theorem role_byte (r : Role) : BitVec.ofNat 8 r.code =
    (match r with | .unconfigured => 0 | .extraction => 1 | .foam => 2 | .condenser => 3 | .gateway => 4 : Byte) := by
  cases r <;> rfl

theorem cause_byte (c : StartCause) :
    BitVec.ofNat 8 (causeCode c) = (match c with | .power => 1 | .supply => 2 | .pin => 3 : Byte) := by
  cases c <;> rfl

theorem phase_byte {s : State} (hw : s.working = true) :
    BitVec.ofNat 8 s.phase.code = if s.phase = .run then (1 : Byte) else 0 := by
  have hphase : s.phase = .joining ∨ s.phase = .run := by simpa [State.working] using hw
  obtain h | h := hphase <;> rw [h] <;> rfl

theorem state_byte (s : State) : BitVec.ofNat 8 s.stateByte =
    if ¬s.phase = .run then (255 : Byte)
    else if s.cfg.role = .foam then match s.ch.st with
      | .inerting => 16 | .ready => 17 | .entry => 18 | .sweep => 19 | .halted => 20 | .purging => 21
    else match s.sq.step with
      | .e0 => 0 | .e1 => 1 | .e2 => 2 | .e3 => 3 | .e4 => 4 | .e5 => 5 | .e6 => 6 | .e7 => 7 := by
  by_cases hr : s.phase = .run
  · by_cases hf : s.cfg.role = .foam
    · cases hst : s.ch.st <;> simp [State.stateByte, State.inRun, State.isFoam, hr, hf, hst, ChamberState.code]
    · cases hst : s.sq.step <;> simp [State.stateByte, State.inRun, State.isFoam, hr, hf, hst, Step.code]
  · simp [State.stateByte, State.inRun, hr]

theorem State.suspended_iff (s : State) : s.suspended = true ↔ s.sq.step ∈ [Step.e4, Step.e5, Step.e6]
    ∧ (s.ownSeated = false ∨ s.ms.backoff = true ∨ s.ms.marks ≠ []) := by
  simp [State.suspended, State.suspendCause, State.purgeInProgress, or_assoc]

theorem marks_byte (s : State) : BitVec.ofNat 8 s.marksByte =
    if ¬s.phase = .run then (0 : Byte)
    else if s.cfg.role = .foam then if s.ch.st = .purging then match s.ch.path with
        | .off => 0 | .awaiting => 1 | .manifold => 2 | .vent => 3 else 0
    else if s.sq.step ∈ [Step.e4, Step.e5, Step.e6]
      ∧ (s.ownSeated = false ∨ s.ms.backoff = true ∨ s.ms.marks ≠ []) then 128 else 0 := by
  simp only [← s.suspended_iff]
  by_cases hr : s.phase = .run
  · by_cases hf : s.cfg.role = .foam
    · by_cases hst : s.ch.st = .purging
      · cases hp : s.ch.path <;> simp [State.marksByte, State.inRun, State.isFoam, hr, hf, hst, hp, PurgePath.code]
      · simp [State.marksByte, State.inRun, State.isFoam, hr, hf, hst]
    · cases hs : s.suspended <;> simp [State.marksByte, State.inRun, State.isFoam, hr, hf, hs]
  · simp [State.marksByte, State.inRun, hr]

theorem intake_byte (s : State) : BitVec.ofNat 8 s.intakeSpace =
    if s.phase = .run ∧ s.cfg.role = .foam ∧ s.rs.full = false then BitVec.ofNat 8 (4 - s.ac.intake.length)
    else (0 : Byte) := by
  have hcond : (s.isFoam && s.inRun && !s.rs.full) = true ↔ s.phase = .run ∧ s.cfg.role = .foam ∧ s.rs.full = false := by
    simp [State.isFoam, State.inRun]
    tauto
  simp only [State.intakeSpace, hcond]
  split <;> rfl

theorem bits_byte (s : State) : BitVec.ofNat 8 s.statusBits =
    (if s.rs.full then 4 else 0) + (if s.pu.de then 8 else 0) + (if s.rs.supplyLow then 16 else (0 : Byte)) := by
  unfold State.statusBits
  cases s.rs.full <;> cases s.pu.de <;> cases s.rs.supplyLow <;> rfl

theorem echo_bytes (o : Option Claim) : echoBytes o = match o with
    | none => [0, 0, 0, 0]
    | some c => [match c.route with | .A => 1 | .B => 2,
        match c.cls with | .ordinary => 0 | .priority => 1 | .exclusive => 2,
        BitVec.ofNat 8 (c.demand / 256), BitVec.ofNat 8 c.demand] := by
  cases o with
  | none => rfl
  | some c =>
    obtain ⟨r, k, d⟩ := c
    cases r <;> cases k <;> rfl

/-! ### The expiries -/

@[simp] theorem sendStatus_payload (s : State) : s.sendStatus.statusPayload = s.statusPayload := rfl

theorem exec_statusTimerExpiry {s : State} (hw : s.working = true) (hd : s.pt.timer.due = true) :
    exec .statusTimerExpiry s = .next s.sendStatus := by
  simp [exec, execStatusTimerExpiry, hw, hd]

theorem exec_serviceStatusExpiry {s : State} (hp : s.phase = .service ∨ s.phase = .configFault)
    (hd : s.rs.statusTimer.due = true) : exec .serviceStatusExpiry s = .next s.sendServiceStatus := by
  simp [exec, execServiceStatusExpiry, hp, hd]

/-- The STATUS of SERVICE and CONFIG FAULT waits. -/
theorem sendServiceStatus_waits (s : State) : s.sendServiceStatus.waits .status 31 s.servicePayload :=
  Line.enqueue_status rfl (by simp [Kind.cls])

theorem servicePhase_byte {s : State} (hp : s.phase = .service ∨ s.phase = .configFault) :
    BitVec.ofNat 8 s.phase.code = if s.phase = .service then (2 : Byte) else 3 := by
  obtain h | h := hp <;> rw [h] <;> rfl

/-- The idle timer locks, and loads the working copy again (R176, R181). -/
theorem exec_serviceIdleTimerExpiry {s : State} (hd : s.rs.idle.due = true) :
    exec .serviceIdleTimerExpiry s = .next (s.setRs { s.rs with
      lock := .locked, working := workingCopyOf s.nv.block s.rs.working, idle := Timer.stopped }) := by
  simp [exec, execServiceIdleTimerExpiry, hd]

/-- Settles O50: the line hazard by induction over the entries, the payload byte by byte, then the three expiries. -/
theorem statusAndIdleTimers : Obligations.StatusAndIdleTimers := by
  intro s
  have hbytes : s.working = true → s.statusPayload = _ := fun hw => by
    rw [State.statusPayload, role_byte, phase_byte hw, state_byte, marks_byte, hazard_byte s.pt.ownHazard,
      hazard_byte s.lineHazard, intake_byte, bits_byte, echo_bytes, State.statusTail, cause_byte]
  refine ⟨s.lineHazard_highest, hbytes, fun hw hd => ?_, fun hp hd => ?_, fun hd => ?_⟩
  · refine ⟨_, exec_statusTimerExpiry hw hd, ?_, rfl, rfl, rfl⟩
    have hwaits := s.sendStatus_waits
    rw [sendStatus_payload, hbytes hw] at hwaits
    exact hwaits
  · refine ⟨_, exec_serviceStatusExpiry hp hd, ?_, rfl⟩
    have hwaits := sendServiceStatus_waits s
    rw [State.servicePayload, servicePhase_byte hp, State.statusTail, cause_byte] at hwaits
    exact hwaits
  · exact exec_serviceIdleTimerExpiry hd

end Sys2Proof.Machine
end

section
/-! PROOF. Which telegrams act (O47): where the hearing of a telegram ends, which kinds are signs of life alone, and the
sender's entry. -/

namespace Sys2Proof.Machine

/-! ### Where the hearing ends -/

section
variable {s : State} {f : Frame} (act : State → State)

/-- A telegram the receiver does not follow does nothing (logs 18 and 42). -/
theorem hear_deaf (h : s.li.hearing = false) : s.hear f act = s := if_pos h

/-- A telegram for another address is over (R158). -/
theorem hear_elsewhere (hh : s.li.hearing = true) (hw : s.working = true) (hd : f.dst.toNat ≠ s.boot.address)
    (hall : f.dst.toNat ≠ 31) : s.hear f act = s.endReception := by
  have hw' : s.endReception.working = true := hw
  simp [State.hear, hh, hw', hd, hall]

/-- So is one from no station's address (R122, log 39). -/
theorem hear_noStation (hh : s.li.hearing = true) (hw : s.working = true) (hown : f.src.toNat ≠ s.boot.address)
    (hs : 24 ≤ f.src.toNat) : s.hear f act = s.endReception := by
  have hw' : s.endReception.working = true := hw
  simp [State.hear, hh, hw', hown, hs]

/-- One with the station's own address as source is a conflict (R125). -/
theorem hear_conflict (hh : s.li.hearing = true) (hw : s.working = true)
    (hd : f.dst.toNat = s.boot.address ∨ f.dst.toNat = 31) (hown : f.src.toNat = s.boot.address) :
    s.hear f act = (s.endReception.addCode 67).conclude s.endReception := by
  have hw' : s.endReception.working = true := hw
  have hd' : ¬(f.dst.toNat ≠ s.boot.address ∧ f.dst.toNat ≠ 31) := by tauto
  simp [State.hear, hh, hw', hd', hown]

end

/-- Code 67 is fatal: it clears DE, and the end of the step keeps both (R125, R144). -/
theorem conflict_clears (s old : State) :
    67 ∈ ((s.addCode 67).conclude old).pu.codes ∧ ((s.addCode 67).conclude old).pu.de = false := by
  obtain ⟨hcodes, hde⟩ := (s.addCode 67).conclude_pu old
  have hin : 67 ∈ ((s.addCode 67).conclude old).pu.codes :=
    (hcodes 67 (by decide)).mpr (by simp [mem_insertCode])
  refine ⟨hin, (hde rfl).trans ?_⟩
  rw [State.driveRule, Bool.and_eq_false_iff]
  exact .inr (List.all_eq_false.mpr ⟨67, hin, by simp [isFatal]⟩)

/-! ### Each telegram's hearing -/

/-- The codes of the table are those of the kinds (R167). -/
theorem kindCodes_eq : kindCodes = Kind.all.map Kind.code := rfl

/-- A kind code outside the table makes a sign of life (R158). -/
theorem exec_kindCodeNotInTable {s : State} {f : Frame} {code : Byte}
    (hwf : (Instr.kindCodeNotInTable code f).wf = true) :
    exec (.kindCodeNotInTable code f) s = .next (s.hear f fun t => t.downstreamChange s) := by
  have hno : (Kind.all.any fun k => k.code == code.toNat) = false := by
    have hcode : code.toNat ∉ kindCodes := by
      simp only [Instr.wf, Bool.and_eq_true, Bool.not_eq_true'] at hwf
      simpa using hwf.1
    rw [kindCodes_eq] at hcode
    simpa using hcode
  simp only [exec, execKindCodeNotInTable, hno]
  rfl

/-- The kinds that SERVICE takes for itself (R176). -/
def serviceKinds : List Kind := [.key, .configWrite, .configCommit]

/-- A telegram of the table is heard but for these kinds in SERVICE, and one that is not handed on only tells AS of its
sender (R132, R158). -/
theorem exec_hear {s : State} {c : Instr} {f : Frame} {k : Kind} (hc : c.telegram = some f) (hk : c.kind = some k)
    (hp : k ∈ serviceKinds → s.phase ≠ .service) :
    ∃ act, exec c s = .next (s.hear f act) ∧ (s.handsOn k f = false → ∀ t, act t = t.downstreamChange s) := by
  have hkind : ∀ (x : Kind) (g : Frame) (a : State → State), ∃ act,
      Host.Outcome.next (ρ := Refusal) (φ := Fault) (s.hearKind x g a) = .next (s.hear g act)
      ∧ (s.handsOn x g = false → ∀ t, act t = t.downstreamChange s) := fun x g a =>
    ⟨_, rfl, fun h t => by simp [h]⟩
  cases c with
  | status g =>
    cases hc
    cases hk
    exact ⟨_, rfl, fun h t => by simp [h]⟩
  | key g | configWrite g | configCommit g =>
    cases hc
    cases hk
    simp only [exec, execKey, execConfigWrite, execConfigCommit, if_neg (hp (by decide))]
    exact hkind _ _ _
  | faultClear g | claim g | release g | purgeCall g | purgeClear g | purgeEnd g | certificate g | readData g
  | checkResult g | configAnswer g | announce g | closeAccount g | abandonAccount g | offer g | accept g | refuse g
  | read g | readNext g | collect g | checkRange g =>
    cases hc
    cases hk
    exact hkind _ _ _
  | _ => cases hk

/-- Every telegram is of a kind of the table or none of them. -/
theorem telegram_cases {c : Instr} {f : Frame} (hc : c.telegram = some f) :
    (∃ k, c.kind = some k) ∨ ∃ code, c = .kindCodeNotInTable code f := by
  cases c with
  | kindCodeNotInTable code g =>
    cases hc
    exact .inr ⟨code, rfl⟩
  | _ => cases hc <;> exact .inl ⟨_, rfl⟩

/-- Every telegram outside SERVICE is heard. -/
theorem exec_hears {s : State} {c : Instr} {f : Frame} (hc : c.telegram = some f) (hwf : c.wf = true)
    (hp : s.phase ≠ .service) : ∃ act, exec c s = .next (s.hear f act) := by
  obtain ⟨k, hk⟩ | ⟨code, rfl⟩ := telegram_cases hc
  · obtain ⟨act, hact, -⟩ := exec_hear hc hk fun _ => hp
    exact ⟨act, hact⟩
  · exact ⟨_, exec_kindCodeNotInTable hwf⟩

/-- None does anything that the receiver does not follow, in SERVICE either. -/
theorem exec_deaf {s : State} {c : Instr} {f : Frame} (hc : c.telegram = some f) (hwf : c.wf = true)
    (h : s.li.hearing = false) : exec c s = .next s := by
  obtain ⟨k, hk⟩ | ⟨code, rfl⟩ := telegram_cases hc
  · by_cases hservice : k ∈ serviceKinds
    · cases c with
      | key g | configWrite g | configCommit g =>
        simp [exec, execKey, execConfigWrite, execConfigCommit, State.hearService, State.hearKind, State.hear, h]
      | _ => cases hk <;> simp [serviceKinds] at hservice
    · obtain ⟨act, hact, -⟩ := exec_hear hc hk fun hk => absurd hk hservice
      rw [hact, hear_deaf act h]
  · rw [exec_kindCodeNotInTable hwf, hear_deaf _ h]

/-! ### Signs of life -/

section
variable {s : State} {f : Frame} (h : s.hearsFrom f = true)
include h

theorem not_service_of_hearsFrom : s.phase ≠ .service := by
  obtain ⟨-, hw, -⟩ := (s.hearsFrom_iff f).mp h
  intro hp
  simp [State.working, hp] at hw

/-- A telegram that its block is not handed is a sign of life alone (R158). -/
theorem exec_untaken {c : Instr} {k : Kind} (hc : c.telegram = some f) (hk : c.kind = some k)
    (hn : s.takes k f = false) : exec c s = .next (s.noted f) := by
  obtain ⟨act, hact, hless⟩ := exec_hear hc hk fun _ => not_service_of_hearsFrom h
  have hands : s.handsOn k f = false := by simpa [State.takes, h] using hn
  rw [hact, State.hear_of_hearsFrom h, hless hands]
  rfl

/-- A kind without a block to take it is a sign of life alone (R122, R167). -/
theorem hearKind_id (k : Kind) : s.hearKind k f id = s.noted f := by
  simp [State.hearKind, State.hear_of_hearsFrom h, State.noted]

theorem exec_signOfLife {c : Instr} (hwf : c.wf = true)
    (hc : c ∈ [.certificate f, .readData f, .checkResult f, .configAnswer f, .key f, .configWrite f, .configCommit f]
      ∨ ∃ k, c = .kindCodeNotInTable k f) : exec c s = .next (s.noted f) := by
  have hp := not_service_of_hearsFrom h
  obtain hmem | ⟨code, rfl⟩ := hc
  · simp only [List.mem_cons, List.not_mem_nil, or_false] at hmem
    obtain rfl | rfl | rfl | rfl | rfl | rfl | rfl := hmem <;>
      simp only [exec, execCertificate, execReadData, execCheckResult, execConfigAnswer, execKey, execConfigWrite,
        execConfigCommit, if_neg hp, hearKind_id h]
  · rw [exec_kindCodeNotInTable hwf, State.hear_of_hearsFrom h]
    rfl

end

/-! ### What LI hands on (R158, R179) -/

/-- The payload lengths of a kind. -/
def Kind.lengths : Kind → List Nat
  | .status | .announce => [20]
  | .claim | .refuse => [5]
  | .release | .purgeCall | .purgeClear | .purgeEnd | .readNext | .faultClear | .configCommit => [0]
  | .closeAccount | .abandonAccount | .accept | .read | .collect | .checkRange => [4]
  | .offer | .certificate => [48]
  | .readData => [48, 4]
  | .checkResult => [7]
  | .key => [1]
  | .configWrite => [3]
  | .configAnswer => [6]

theorem Kind.lengthOk_iff (k : Kind) (n : Nat) : k.lengthOk n = true ↔ n ∈ k.lengths := by
  cases k <;> simp [Kind.lengthOk, Kind.lengths]

theorem Kind.fromGateway_iff (k : Kind) : k.fromGateway = true ↔
    k ∈ [Kind.announce, .closeAccount, .abandonAccount, .read, .readNext, .collect, .checkRange, .faultClear, .key,
      .configWrite, .configCommit] := by
  cases k <;> decide

theorem Line.answerWaits_iff (l : Line) : l.answerWaits = true ↔
    ∃ m ∈ l.queue ++ l.transmitter.toList, m.kind = .accept ∨ m.kind = .refuse := by
  simp only [Line.answerWaits, List.any_eq_true, Bool.or_eq_true, beq_iff_eq]

/-- The three conditions on which a telegram is handed to the block of its kind. -/
theorem State.takes_iff (s : State) (k : Kind) (f : Frame) : s.takes k f = true ↔
    s.hearsFrom f = true ∧ f.payload.length ∈ k.lengths
      ∧ (k ∈ [Kind.announce, .closeAccount, .abandonAccount, .read, .readNext, .collect, .checkRange, .faultClear, .key,
          .configWrite, .configCommit] → f.src.toNat = s.cfg.gateway)
      ∧ (k = .offer → ¬∃ m ∈ s.li.queue ++ s.li.transmitter.toList, m.kind = .accept ∨ m.kind = .refuse) := by
  rw [← k.lengthOk_iff, ← k.fromGateway_iff, ← s.li.answerWaits_iff]
  simp only [State.takes, State.handsOn, Bool.and_eq_true, Bool.or_eq_true, Bool.not_eq_true', beq_iff_eq,
    Bool.and_eq_false_iff, beq_eq_false_iff_ne, Bool.not_eq_true, imp_iff_not_or, and_assoc]

/-! ### The sender's entry -/

/-- A change of the downstream entry is nothing to a station that is no EXTRACTION station (R132). -/
theorem downstreamChange_other {s : State} (h : s.isExtraction = false) (old : State) : s.downstreamChange old = s := by
  simp [State.downstreamChange, h]

theorem noted_peer (s : State) (f : Frame) (b : Nat) :
    (s.noted f).peer b = (s.endReception.refresh f.src.toNat).peer b :=
  State.peer_congr (by simp [State.noted]) b

theorem noted_other {s : State} (h : s.isExtraction = false) (f : Frame) : s.noted f =
    { s with li := { s.li with receiver := .ignoring }, pt := (s.noted f).pt } := by
  rw [State.noted, downstreamChange_other (by simpa [State.isExtraction] using h)]
  rfl

/-- Settles O47: each clause by where the hearing of the telegram ends. -/
theorem telegramsRefreshTheirSender : Obligations.TelegramsRefreshTheirSender := by
  intro s c f hc hwf
  have hears : s.working = true → ∃ act, exec c s = .next (s.hear f act) := fun hw =>
    exec_hears hc hwf fun hp => by simp [State.working, hp] at hw
  refine ⟨fun hdeaf => ?_, fun hh hw hd hall => ?_, fun hh hw hd hown => ?_, fun hh hw hown hs => ?_,
    fun h hlist => exec_signOfLife h hwf hlist, fun k hk => ⟨s.takes_iff k f, fun h => exec_untaken h hc hk⟩,
    fun hlen h => ⟨?_, fun b hb => ?_, fun hx => noted_other hx f⟩⟩
  · refine exec_deaf hc hwf ?_
    rw [Line.hearing, Bool.and_eq_false_iff]
    exact hdeaf.imp (by simp) (by simp [Option.isSome_iff_ne_none])
  · obtain ⟨act, hact⟩ := hears hw
    rw [hact, hear_elsewhere act hh hw hd hall]
  · obtain ⟨act, hact⟩ := hears hw
    rw [hact, hear_conflict act hh hw hd hown]
    obtain ⟨hcode, hde⟩ := conflict_clears s.endReception s.endReception
    exact ⟨_, rfl, hcode, hde, by simp, by simp [State.endReception]⟩
  · obtain ⟨act, hact⟩ := hears hw
    rw [hact, hear_noStation act hh hw hown hs]
  all_goals
    obtain ⟨-, -, -, -, hstation⟩ := (s.hearsFrom_iff f).mp h
    obtain ⟨hsame, hother⟩ := refresh_peer hlen hstation
  · rw [noted_peer, hsame]
    exact Peer.refreshed_eq s.cfg _
  · rw [noted_peer, hother b hb]

end Sys2Proof.Machine
end

section
/-! PROOF. A changed item of STATUS is reported (O4): a command leaves every item as it was, leaves the phases in which
STATUS reports, or ends with one STATUS of the items as they then stand (R127, log 12). -/

namespace Sys2Proof.Machine

/-! ### What the items read -/

/-- What the items of STATUS read stands as it stood, and so does the own hazard of the STATUS before. -/
def ItemsStand (s t : State) : Prop :=
  t.boot = s.boot ∧ t.cfg = s.cfg ∧ t.ms = s.ms ∧ t.sq.step = s.sq.step ∧ t.ch = s.ch
    ∧ t.pt.ownHazard = s.pt.ownHazard ∧ t.pu.de = s.pu.de ∧ t.pu.codes = s.pu.codes ∧ t.rs.full = s.rs.full
    ∧ t.rs.supplyLow = s.rs.supplyLow ∧ t.ac.intake = s.ac.intake ∧ t.li.lastHazard = s.li.lastHazard

theorem ItemsStand.trans {s t u : State} (h : ItemsStand s t) (k : ItemsStand t u) : ItemsStand s u := by
  unfold ItemsStand at *
  simp_all

theorem ItemsStand.items {s t : State} (h : ItemsStand s t) : t.items = s.items := by
  obtain ⟨hboot, hcfg, hms, hstep, hch, hown, hde, hcodes, hfull, hlow, hintake, -⟩ := h
  simp [State.items, State.phase, State.stateByte, State.marksByte, State.inRun, State.isFoam, State.suspended,
    State.suspendCause_congr hms hboot, State.lowestCode, State.intakeSpace, hboot, hcfg, hms, hstep, hch, hown, hde,
    hcodes, hfull, hlow, hintake]

theorem ItemsStand.lastHazard {s t : State} (h : ItemsStand s t) : t.li.lastHazard = s.li.lastHazard := by
  obtain ⟨-, -, -, -, -, -, -, -, -, -, -, hlast⟩ := h
  exact hlast

/-- The STATUS itself changes no item. -/
theorem sendStatus_items (s : State) : s.sendStatus.items = s.items := rfl

/-- STATUS has the twenty bytes of R179. -/
theorem State.statusPayload_length (s : State) : s.statusPayload.length = 20 := by
  cases h : s.ms.own <;> simp [State.statusPayload, State.statusTail, echoBytes, be16, be32, h]

/-- A STATUS of class 1 waits in class 1, whichever place it takes (R164, R166). -/
theorem Line.enqueue_status_cls {l : Line} {t : Telegram} (hk : t.kind = .status) (hc : t.cls = 1) :
    ∃ m ∈ (l.enqueue t).queue, m.kind = .status ∧ m.dst = t.dst ∧ m.payload = t.payload ∧ m.cls = 1 := by
  simp only [Line.enqueue, hk, if_true]
  split
  next old h =>
    exact ⟨_, mem_insertTelegram.mpr (Or.inl rfl), rfl, rfl, rfl, by simp [replaceStatus, hc]⟩
  next h =>
    refine ⟨{ t with moment := l.moment }, ?_, hk, rfl, rfl, hc⟩
    by_cases hr : l.room = true
    · simp [hk, hr, mem_insertTelegram]
    · simpa [hk, hr] using mem_insertFull_self (t := { t with moment := l.moment }) (by simp [hc]) l.queue

/-- The STATUS of a state waits, in class 1 where its own hazard is above that of the STATUS before (R128). -/
theorem State.sendStatus_reports (s : State) : ∃ m ∈ s.sendStatus.li.queue, m.kind = .status ∧ m.dst = 31
    ∧ m.payload = s.sendStatus.statusPayload ∧ (s.li.lastHazard.rank < s.pt.ownHazard.rank → m.cls = 1) := by
  by_cases hr : s.li.lastHazard.rank < s.pt.ownHazard.rank
  · obtain ⟨m, hm, hk, hdst, hpayload, hcls⟩ := Line.enqueue_status_cls (l := s.li)
      (t := { kind := .status, dst := 31, payload := s.statusPayload, cls := 1 }) rfl rfl
    refine ⟨m, ?_, hk, hdst, hpayload, fun _ => hcls⟩
    simpa [State.sendStatus, hr] using hm
  · obtain ⟨m, hm, hk, hdst, hpayload⟩ := s.sendStatus_waits
    exact ⟨m, hm, hk, hdst, hpayload, fun h => absurd h hr⟩

/-! ### How a step comes to its end -/

/-- A step as STATUS sees it: no item has changed, the station is in neither JOINING nor RUN, or one STATUS has told of
it, the first since the state before. -/
inductive Reports (s t : State) : Prop
  | silent (h : t.items = s.items)
  | outside (h : t.working = false)
  | told (u : State) (hl : u.li.lastHazard = s.li.lastHazard) (ht : t = u.sendStatus)

namespace Reports

variable {s : State}

theorem refl (s : State) : Reports s s := .silent rfl

theorem stands {t : State} (h : ItemsStand s t) : Reports s t := .silent h.items

/-- The end of a step tells of every change since the state it is compared with. -/
theorem concludeIf {u old : State} (hl : u.li.lastHazard = s.li.lastHazard) (ho : old.items = s.items) (b : Bool) :
    Reports s (u.concludeIf b old) := by
  unfold State.concludeIf State.announceIf
  split
  next => exact .told u.settle (by simpa using hl) rfl
  next h =>
    cases hw : u.settle.working with
    | false => exact .outside hw
    | true =>
      have hsame : old.items = u.settle.items := by simp_all
      exact .silent (hsame.symm.trans ho)

theorem conclude {u : State} (hl : u.li.lastHazard = s.li.lastHazard) : Reports s (u.conclude s) :=
  concludeIf hl rfl false

/-- A command whose condition has not come changes no item. -/
theorem guard {p : Prop} [Decidable p] {t : State} (h : p → Reports s t) : Reports s (if p then t else s) := by
  split
  · exact h ‹p›
  · exact refl s

/-- The end of the reception changes no item. -/
theorem endReception_stands (s : State) : ItemsStand s s.endReception := by simp [ItemsStand]

/-- Hearing a telegram reports as its own effect does, on a state that has taken note of the sender alone. -/
theorem hear {f : Frame} {act : State → State} (ha : ∀ u, ItemsStand s u → Reports s (act u)) :
    Reports s (s.hear f act) := by
  have hend := endReception_stands s
  unfold State.hear
  split
  · exact refl s
  · dsimp only
    split
    · exact stands hend
    · split
      · exact stands hend
      · split
        · exact concludeIf (by simp) hend.items false
        · split
          · exact stands hend
          · exact ha _ (hend.trans (by simp [ItemsStand]))

theorem hearKind {k : Kind} {f : Frame} {act : State → State} (ha : ∀ u, ItemsStand s u → Reports s (act u)) :
    Reports s (s.hearKind k f act) := by
  refine hear fun u hu => ?_
  have hd : ItemsStand s (u.downstreamChange s) := hu.trans (by simp [ItemsStand])
  split
  · exact ha _ hd
  · exact stands hd

/-- A telegram of SERVICE changes no item. -/
theorem hearService {k : Kind} {f : Frame} {act : State → State} (ha : ∀ u, ItemsStand u (act u)) :
    Reports s (s.hearService k f act) := by
  have hend := endReception_stands s
  unfold State.hearService
  split
  · exact refl s
  · dsimp only
    split
    · exact stands (hend.trans (ha _))
    · exact stands hend

/-- What a step leaves that has changed an item (R127, R128). -/
theorem waits {t : State} (h : Reports s t) (hw : t.working = true) (hc : t.items ≠ s.items) :
    (∃ m ∈ t.li.queue, m.kind = .status ∧ m.dst = 31 ∧ m.payload = t.statusPayload
      ∧ m.payload.length = 20 ∧ (s.li.lastHazard.rank < t.pt.ownHazard.rank → m.cls = 1))
    ∧ t.pt.timer = Timer.start t.cfg.statusInterval
    ∧ t.li.lastHazard = t.pt.ownHazard := by
  cases h with
  | silent h => exact absurd h hc
  | outside h => exact absurd hw (by simp [h])
  | told u hl ht =>
    subst ht
    obtain ⟨m, hm, hk, hdst, hpayload, hcls⟩ := u.sendStatus_reports
    refine ⟨⟨m, hm, hk, hdst, hpayload, hpayload ▸ u.statusPayload_length, fun hr => hcls ?_⟩, rfl, rfl⟩
    rw [hl]
    exact hr

end Reports

/-! ### Every command -/

/-- Loading the configuration keeps the phase. -/
@[simp] theorem State.loadConfig_phase (s : State) : s.loadConfig.boot.phase = s.boot.phase := by
  unfold State.loadConfig
  split <;> rfl

/-- A sample of which SQ is told nothing changes no item. -/
theorem takeSample_stands {s : State} {x : Sample}
    (h : ¬s.sampleTells (s.takeSample x).recoverAtOnce = true) :
    ItemsStand s (s.takeSample x).recoverAtOnce := by
  obtain ⟨-, hcodes, hde⟩ : _ ∧ s.pu.codes = (s.takeSample x).recoverAtOnce.pu.codes
      ∧ s.pu.de = (s.takeSample x).recoverAtOnce.pu.de := by
    simpa [State.sampleTells, and_assoc] using h
  simp [ItemsStand, ← hcodes, ← hde]

/-- The start that follows SVC leads to no phase in which STATUS reports (R175, log 33). -/
theorem afterStrap_outside {s : State} (h : s.phase = .starting) : s.afterStrap.working = false := by
  unfold State.afterStrap
  split
  · simp [State.enterService, State.working, State.phase]
  · split
    · have hphase : s.normalStart.phase = .starting := by simpa [State.normalStart, State.phase] using h
      simp [State.working, hphase]
    · simp [State.enterConfigFault, State.working, State.phase]

theorem exec_reports {c : Instr} {s t : State} (h : exec c s = .next t) : Reports s t := by
  cases c with
  | start cause =>
    cases h
    exact .outside (by simp [State.enterHold, State.emptied, State.working, State.phase])
  | starting =>
    cases h
    refine .guard fun _ => .outside ?_
    unfold State.checkFactory
    dsimp only
    split <;> simp [State.emptied, State.working, State.phase]
  | supplyWarning d =>
    cases h
    split
    · exact .stands (by simp [ItemsStand])
    · dsimp only
      split
      · exact .outside (by simp [State.enterHold, State.emptied, State.working, State.phase])
      · split
        · exact .conclude (by simp [State.warnSupply])
        · exact .refl s
  | supplyWarningEnd d =>
    cases h
    split
    · exact .stands (by simp [ItemsStand])
    · exact .guard fun _ => .conclude (by simp)
  | inputFilterFill pin =>
    cases h
    refine .guard fun _ => ?_
    dsimp only
    split
    next hs => exact .outside (afterStrap_outside (by simpa [State.phase] using hs.2))
    next => exact .conclude (by simp)
  | stationSample x =>
    cases h
    split
    · exact .refl s
    · split
      · exact .told _ (by simp) rfl
      · dsimp only
        split
        · exact .conclude (by simp)
        next htells => exact .stands (takeSample_stands htells)
  | joiningEnd | tripFilterMet x | recoveryTimerExpiry x | ilkFall | ilkRise | clampTimeout | classifyTimeExpiry
  | pulldownReached | pulldownTimeout | starvationPromotion | releaseTimeExpiry | ownHazardChange | oxygenHigh
  | oxygenUnderRunLimit | inertReached | purgeClearMet | carryOverExpiry x | srfChange | sweepWaitExpiry
  | sweepTimerExpiry | sweepRetryExpiry | purgeWaitExpiry | answerTimerExpiry | holdOffExpiry | peerStale x
  | headerHigh | faultClearButton | clcFall =>
    cases h
    exact .guard fun _ => .conclude (by simp)
  | doorTimerExpiry =>
    cases h
    exact .guard fun _ => .concludeIf (by simp) rfl true
  | statusTimerExpiry =>
    cases h
    exact .guard fun _ => .told s rfl rfl
  | pStart | serviceStatusExpiry | serviceIdleTimerExpiry | telegramDiscard x =>
    cases h
    exact .guard fun _ => .stands (by simp [ItemsStand])
  | valveDiscrepancy r =>
    cases h
    refine .guard fun _ => ?_
    dsimp only
    split
    · refine .conclude ?_
      split <;> simp
    · exact .stands (by simp [ItemsStand])
  | hcdRise | headerRecovered | purgeNeeded | drcFall | zeroWindowComplete =>
    cases h
    refine .guard fun _ => .conclude ?_
    split <;> simp
  | drcRise =>
    cases h
    refine .guard fun _ => ?_
    dsimp only
    split
    · exact .concludeIf (by simp) rfl _
    · exact .conclude (by simp)
  | startEdge | clcRise =>
    cases h
    refine .guard fun _ => ?_
    split
    · exact .conclude (by simp)
    · exact .stands (by simp [ItemsStand])
  | holdTimeExpiry | quiet =>
    cases h
    refine .guard fun _ => ?_
    split
    · exact .conclude (by simp)
    · exact .refl s
  | lineIdle | lineBusy =>
    cases h
    split <;> exact .stands (by simp [ItemsStand])
  | transmitStart bits =>
    cases h
    split
    · exact .refl s
    · exact .guard fun _ => .stands (by simp [ItemsStand])
  | collision =>
    cases h
    split
    · exact .refl s
    · refine .conclude ?_
      split <;> simp
  | transmitComplete =>
    cases h
    split
    · exact .refl s
    · exact .conclude (by simp)
  | configCommitVerify ws =>
    cases h
    split <;> exact .stands (by simp [ItemsStand])
  | commitBegin =>
    cases h
    split
    · exact .refl s
    · split
      · exact .refl s
      · exact .guard fun _ => .stands (by simp [ItemsStand])
  | commitVerify bs =>
    cases h
    split
    · exact .refl s
    · refine .conclude ?_
      split <;> simp
  | collectMark =>
    cases h
    split
    · exact .refl s
    · exact .guard fun _ => .conclude (by simp)
  | faultClear f | release f | purgeCall f | purgeClear f | purgeEnd f =>
    cases h
    exact .hearKind fun u hu => .conclude (by simp [hu.lastHazard])
  | certificate f | readData f | checkResult f | configAnswer f =>
    cases h
    exact .hearKind fun u hu => .stands hu
  | read f | collect f | checkRange f =>
    cases h
    exact .hearKind fun u hu => .stands (hu.trans (by simp [ItemsStand]))
  | readNext f =>
    cases h
    refine .hearKind fun u hu => ?_
    split <;> exact .stands (hu.trans (by simp [ItemsStand]))
  | claim f =>
    cases h
    refine .hearKind fun u hu => ?_
    split
    · exact .conclude (by simp [hu.lastHazard])
    · exact .stands hu
  | announce f | closeAccount f | abandonAccount f | offer f | accept f | refuse f =>
    cases h
    refine .hearKind fun u hu => ?_
    split
    · exact .conclude (by simp [hu.lastHazard])
    · exact .stands hu
  | key f | configWrite f | configCommit f =>
    cases h
    split
    · exact .hearService fun u => by simp [ItemsStand]
    · exact .hearKind fun u hu => .stands hu
  | status f =>
    cases h
    refine .hear fun u hu => ?_
    split
    · exact .conclude (by simp [hu.lastHazard])
    · exact .stands (hu.trans (by simp [ItemsStand]))
  | kindCodeNotInTable code f =>
    cases h
    split
    · exact .refl s
    · exact .hear fun u hu => .stands (hu.trans (by simp [ItemsStand]))

/-- Settles O4: every command's end reports what it has changed. -/
theorem itemChangeIsReported : Obligations.ItemChangeIsReported :=
  fun _ _ _ h hw hc => (exec_reports h).waits hw hc

end Sys2Proof.Machine
end

section
/-! PROOF. The offer machine (O55): one equation per answer and per expiry, then the end of the step, over which the
offer and the DONE accounts stand. -/

namespace Sys2Proof.Machine

/-! ### The oldest DONE account and its offer (R134) -/

/-- SQ's reaction leaves the oldest DONE account. -/
theorem Reacts.oldestDone {s t : State} (h : Reacts s t) :
    t.ac.queue.find? (fun e => e.st == .done) = s.ac.queue.find? (fun e => e.st == .done) := by
  obtain ⟨f, hf, hq⟩ := h.queue
  have hp : ((fun e : QueueEntry => e.st == .done) ∘ f) = fun e => e.st == .done := by
    funext e
    simp only [Function.comp, hf.st]
  rw [hq, List.find?_map, hp]
  cases hfind : s.ac.queue.find? fun e => e.st == .done with
  | none => rfl
  | some e =>
    have hst : e.st = .done := by simpa using List.find?_some hfind
    rw [Option.map_some, hf.others e (by simp [hst])]

/-- Placing an offer starts and stops no timer of the offer machine. -/
theorem State.tryOffer_timers (s : State) :
    s.tryOffer.ac.offer.answer = s.ac.offer.answer ∧ s.tryOffer.ac.offer.holdOff = s.ac.offer.holdOff := by
  dsimp only [State.tryOffer]
  (repeat' split) <;> exact ⟨rfl, rfl⟩

/-- A step that ends the offer of an EXTRACTION station ends with the oldest DONE account offered where the conditions of
R134 hold, and with the offer idle when no account is DONE. -/
theorem tryOffer_conclude_offers {u : State} (hx : u.isExtraction = true) (ho : u.ac.offer.st = .idle) (old : State) :
    let t := u.tryOffer.conclude old
    (u.inRun = true → (t.peer u.cfg.downstream).presence = .live →
      ∀ e, t.ac.queue.find? (fun x => x.st == .done) = some e →
        t.ac.offer.st = .queued ∧ t.ac.offer.key = some e.account.key)
    ∧ (t.ac.queue.find? (fun x => x.st == .done) = none → t.ac.offer.st = .idle) := by
  have hf : u.tryOffer.isFoam = false := by simpa [State.isFoam] using isFoam_of_isExtraction hx
  have oldest : (u.tryOffer.conclude old).ac.queue.find? (fun x => x.st == .done) =
      u.ac.queue.find? fun x => x.st == .done := by simpa using (conclude_reacts hf old).oldestDone
  have peer : (u.tryOffer.conclude old).peer u.cfg.downstream = u.peer u.cfg.downstream :=
    State.peer_congr (by simp) _
  have offer : (u.tryOffer.conclude old).ac.offer = u.tryOffer.ac.offer := by simp
  intro t
  refine ⟨fun hr hd e he => ?_, fun hnone => ?_⟩
  · rw [offer, tryOffer_places hx hr ho (by rwa [← peer]) (by rwa [← oldest])]
    exact ⟨rfl, rfl⟩
  · rwa [offer, State.tryOffer_stays (.inl (by rwa [← oldest]))]

/-! ### ACCEPT (R136) -/

section
variable {s : State} {k : Key}

theorem takeAccept_ignored (h : ∀ e, s.findQueue k = some e → e.st ≠ .done ∧ e.st ≠ .held) : s.takeAccept k = s := by
  unfold State.takeAccept
  split
  · rfl
  next e he => exact if_neg (not_or.mpr (h e he))

section
variable {e : QueueEntry} (he : s.findQueue k = some e) (hst : e.st = .done ∨ e.st = .held)
include he hst

theorem takeAccept_queue : (s.takeAccept k).ac.queue = (s.dropQueue k).ac.queue := by
  simp only [State.takeAccept, he, hst, if_true]
  (repeat' split) <;> simp [State.setOffer]

/-- An account that is not the one offered. -/
theorem takeAccept_unoffered (hk : s.ac.offer.key ≠ some k) : s.takeAccept k = s.dropQueue k := by
  simp [State.takeAccept, he, hst, hk]

/-- The account whose offer awaits its answer. -/
theorem takeAccept_awaited (hk : s.ac.offer.key = some k) (ho : s.ac.offer.st = .awaiting) :
    s.takeAccept k = ((s.dropQueue k).setOffer
      { s.ac.offer with st := .idle, key := none, answer := Timer.stopped }).tryOffer := by
  simp [State.takeAccept, he, hst, hk, ho]

end

/-! ### REFUSE, the answer time and the hold-off (R137 to R139) -/

theorem setUnanswered_work (n : Nat) : (s.setUnanswered k n).queueWork = s.queueWork.map fun w =>
    if w.1 = k then (w.1, w.2.1, w.2.2.1, w.2.2.2.1, w.2.2.2.2.1, n) else w := by
  simp only [State.queueWork, State.setUnanswered, State.setQueue_queue, List.map_map]
  refine List.map_congr_left fun e _ => ?_
  by_cases h : e.account.key = k
  · simp [QueueEntry.work, h]
  · simp [QueueEntry.work, h]

theorem takeRefuse_awaited (ho : s.ac.offer.st = .awaiting) (hk : s.ac.offer.key = some k) :
    s.takeRefuse k = (s.setUnanswered k 0).startHoldOff .refused 5000 :=
  if_pos ⟨ho, hk⟩

theorem takeRefuse_other (h : ¬(s.ac.offer.st = .awaiting ∧ s.ac.offer.key = some k)) : s.takeRefuse k = s :=
  if_neg h

/-- One more unanswered offer in the working state of its account (R138). -/
theorem QueueEntry.unansweredMore_work (e : QueueEntry) : e.unansweredMore.work =
    if e.unanswered + 1 < 3 then (e.account.key, e.st, e.accA, e.accB, e.abandon, e.unanswered + 1)
    else (e.account.key, .held, e.accA, e.accB, e.abandon, 3) := by
  unfold QueueEntry.unansweredMore
  split <;> rfl

section
variable (hk : s.ac.offer.key = some k)
include hk

theorem offerUnanswered_offer : s.offerUnanswered.ac.offer =
    { st := .holdOff, key := none, answer := Timer.stopped, holdOff := Timer.start 1000, kind := .unanswered } := by
  simp only [State.offerUnanswered, hk]
  split <;> rfl

theorem offerUnanswered_work : s.offerUnanswered.queueWork = s.queueWork.map fun w =>
    if w.1 = k ∧ w.2.1 = .done then
      (if w.2.2.2.2.2 + 1 < 3 then (w.1, w.2.1, w.2.2.1, w.2.2.2.1, w.2.2.2.2.1, w.2.2.2.2.2 + 1)
      else (w.1, .held, w.2.2.1, w.2.2.2.1, w.2.2.2.2.1, 3)) else w := by
  have hqueue : s.offerUnanswered.ac.queue = s.ac.queue.map fun e =>
      if e.account.key = k ∧ e.st = .done then e.unansweredMore else e := by
    simp only [State.offerUnanswered, hk]
    split <;> rfl
  simp only [State.queueWork, hqueue, List.map_map]
  refine List.map_congr_left fun e _ => ?_
  by_cases h : e.account.key = k ∧ e.st = .done
  · simp only [Function.comp, if_pos h, QueueEntry.unansweredMore_work]
    exact (if_pos h).symm
  · simp only [Function.comp, if_neg h]
    exact (if_neg h).symm

/-- The third unanswered offer of an account raises code 3 (R138). -/
theorem offerUnanswered_third (h : ∃ e ∈ s.ac.queue, e.account.key = k ∧ e.st = .done ∧ 2 ≤ e.unanswered) :
    3 ∈ s.offerUnanswered.pu.codes := by
  have hany : (s.ac.queue.any fun e =>
      e.account.key == k && e.st == .done && decide (3 ≤ e.unanswered + 1)) = true := by
    obtain ⟨e, he, hkey, hst, hn⟩ := h
    exact List.any_eq_true.mpr ⟨e, he, by simp [hkey, hst, hn]⟩
  simp only [State.offerUnanswered, hk, if_pos hany, State.addCode_codes, mem_insertCode, true_or]

end

end

/-! ### The commands -/

section
variable {s : State} {f : Frame}

/-- An ACCEPT that is taken. -/
theorem exec_accept (hx : s.isExtraction = true) (h : s.takes .accept f = true) :
    exec (.accept f) s = .next (if f.src.toNat = s.cfg.downstream then
      ((s.noted f).takeAccept (keyAt f.payload 0)).conclude s else s.noted f) := by
  have hnx : (s.noted f).isExtraction = true := by simpa [State.isExtraction] using hx
  simp [exec, execAccept, State.hearKind_of_takes h, hnx]

/-- A REFUSE that is taken. -/
theorem exec_refuse (hx : s.isExtraction = true) (h : s.takes .refuse f = true) :
    exec (.refuse f) s = .next (if f.src.toNat = s.cfg.downstream then
      ((s.noted f).takeRefuse (keyAt f.payload 0)).conclude s else s.noted f) := by
  have hnx : (s.noted f).isExtraction = true := by simpa [State.isExtraction] using hx
  simp [exec, execRefuse, State.hearKind_of_takes h, hnx]

theorem exec_answerTimerExpiry (hst : s.ac.offer.st = .awaiting) (hd : s.ac.offer.answer.due = true) :
    exec .answerTimerExpiry s = .next (s.offerUnanswered.conclude s) :=
  congrArg Host.Outcome.next (if_pos ⟨hst, hd⟩)

/-- The offer once its hold-off is over (R139). -/
def State.holdOffOver (s : State) : State := s.setOffer { s.ac.offer with st := .idle, holdOff := Timer.stopped }

theorem exec_holdOffExpiry (hst : s.ac.offer.st = .holdOff) (hd : s.ac.offer.holdOff.due = true) :
    exec .holdOffExpiry s = .next (s.holdOffOver.tryOffer.conclude s) :=
  congrArg Host.Outcome.next (if_pos ⟨hst, hd⟩)

end

/-! ### The obligation -/

/-- Settles O55: the equation of the case that applies, then what the end of the step keeps. -/
theorem offerMachineFollowsTheAnswers : Obligations.OfferMachineFollowsTheAnswers := by
  intro s hx
  have hrole : s.cfg.role = .extraction := by simpa [State.isExtraction] using hx
  intro offered none'
  refine ⟨fun f htakes => ⟨_, exec_accept hx htakes, ?_⟩, fun f htakes => ⟨_, exec_refuse hx htakes, ?_⟩,
    fun hst hdue k hk => ⟨_, exec_answerTimerExpiry hst hdue, ?_, ?_, fun h => ?_⟩,
    fun hst hdue => ⟨_, exec_holdOffExpiry hst hdue, ?_, ?_, ?_⟩⟩
  · intro u k
    refine ⟨fun hsrc => if_neg hsrc, fun hsrc => ?_⟩
    rw [if_pos hsrc]
    have work := State.conclude_work (u.takeAccept k) s
    have offer : ((u.takeAccept k).conclude s).ac.offer = (u.takeAccept k).ac.offer := by simp
    refine ⟨fun e he hst => ⟨?_, fun hk ho => ?_, fun hk => ?_⟩, fun h => ⟨?_, ?_⟩⟩
    · exact work.trans ((State.queueWork_congr (takeAccept_queue he hst)).trans dropQueue_work)
    · have hx' : ((u.dropQueue k).setOffer
          { u.ac.offer with st := .idle, key := none, answer := Timer.stopped }).isExtraction = true := by
        simpa [State.isExtraction, State.setOffer, u] using hrole
      obtain ⟨offers, idle⟩ := tryOffer_conclude_offers hx' rfl s
      rw [takeAccept_awaited he hst hk ho]
      refine ⟨?_, fun hr hd => offers ?_ ?_, idle⟩
      · simp [State.tryOffer_timers, State.setOffer]
      · simpa [State.inRun, State.phase, State.setOffer, u] using hr
      · simpa [State.setOffer, u] using hd
    · exact offer.trans ((congrArg (·.ac.offer) (takeAccept_unoffered he hst hk)).trans (by simp))
    · exact work.trans (congrArg State.queueWork (takeAccept_ignored h))
    · exact offer.trans (congrArg (·.ac.offer) (takeAccept_ignored h))
  · intro u k mine
    refine ⟨fun h => ?_, fun h => ?_⟩
    · obtain ⟨hsrc, ho, hk⟩ := h
      rw [if_pos hsrc, takeRefuse_awaited ho hk]
      exact ⟨by simp [State.startHoldOff, State.setOffer],
        (State.conclude_work _ s).trans (setUnanswered_work 0)⟩
    · split
      next hsrc =>
        rw [takeRefuse_other fun hm => h ⟨hsrc, hm⟩]
        exact ⟨by simp [u], State.conclude_work _ s⟩
      · exact ⟨rfl, rfl⟩
  · simp [offerUnanswered_offer hk]
  · exact (State.conclude_work _ s).trans (offerUnanswered_work hk)
  · have hf : s.offerUnanswered.isFoam = false := by simp [State.isFoam, hrole]
    exact ((conclude_reacts hf s).codes 3 (by decide)).mpr (offerUnanswered_third hk h)
  · simp [State.tryOffer_timers, State.holdOffOver, State.setOffer]
  · exact (State.conclude_work _ s).trans (State.queueWork_congr (by simp [State.holdOffOver, State.setOffer]))
  · exact tryOffer_conclude_offers (u := s.holdOffOver) hx rfl s

end Sys2Proof.Machine
end

section
/-! SUPPORT. The bytes of an account's body (R178, R180): what is read back of a field that was written, and what is
written of a field that was read. -/

namespace Sys2Proof.Machine

/-! ### Bytes and two-byte fields (R178) -/

theorem byteAt_lt (p : List Byte) (i : Nat) : byteAt p i < 256 := (p.getD i 0).isLt

theorem ofNat_byteAt {p : List Byte} {i n : Nat} (h : n % 256 = byteAt p i) : BitVec.ofNat 8 n = p.getD i 0 :=
  BitVec.eq_of_toNat_eq (by simpa [byteAt] using h)

/-- A field that was read is written with its own two bytes. -/
theorem be16_half (p : List Byte) (i : Nat) : be16 (half p i) = [p.getD i 0, p.getD (i + 1) 0] := by
  have high := byteAt_lt p i
  have low := byteAt_lt p (i + 1)
  have hhigh : half p i / 256 % 256 = byteAt p i := by unfold half; omega
  have hlow : half p i % 256 = byteAt p (i + 1) := by unfold half; omega
  rw [be16, ofNat_byteAt hhigh, ofNat_byteAt hlow]

theorem drop_eq_getD_cons {p : List Byte} {i : Nat} (h : i < p.length) : p.drop i = p.getD i 0 :: p.drop (i + 1) := by
  rw [List.drop_eq_getElem_cons h, List.getD_eq_getElem _ _ h]

/-- A payload from a field on: the field, then the rest. -/
theorem drop_eq_be16_append {p : List Byte} {i : Nat} (h : i + 1 < p.length) :
    p.drop i = be16 (half p i) ++ p.drop (i + 2) := by
  rw [drop_eq_getD_cons (by omega), drop_eq_getD_cons h, be16_half]
  rfl

theorem byteAt_append_right (a b : List Byte) {i : Nat} (h : a.length ≤ i) :
    byteAt (a ++ b) i = byteAt b (i - a.length) := by
  rw [byteAt, List.getD_append_right _ _ _ _ h]
  rfl

/-- A written field is read back. -/
theorem be16_read {n : Nat} (h : n ≤ 65535) : n / 256 % 256 * 256 + n % 256 = n := by omega

/-- Two-byte fields are read back one after another. -/
theorem half_flatMap_be16 {l : List Nat} (h : ∀ n ∈ l, n ≤ 65535) (i : Nat) :
    half (l.flatMap be16) (2 * i) = l.getD i 0 := by
  induction l generalizing i with
  | nil => simp [half, byteAt]
  | cons n l ih =>
    obtain ⟨hn, hl⟩ := List.forall_mem_cons.mp h
    cases i with
    | zero =>
      simpa [be16, half, byteAt] using be16_read hn
    | succ i =>
      have skip : half ((n :: l).flatMap be16) (2 * i + 2) = half (l.flatMap be16) (2 * i) := rfl
      exact skip.trans (ih hl i)

/-- A field whose absence has a code of its own is read back. -/
theorem absent_getD {o : Option Nat} {d : Nat} (h : ∀ n, o = some n → n ≠ d) :
    (if o.getD d = d then none else some (o.getD d)) = o := by
  cases o with
  | none => exact if_pos rfl
  | some n => exact if_neg (h n rfl)

/-- And it is written as it was read. -/
theorem getD_absent (n d : Nat) : (if n = d then none else some n).getD d = n := by
  split
  · exact Eq.symm ‹n = d›
  · rfl

/-! ### Keys and codes -/

theorem keyBytes_keyAt {p : List Byte} (h : 4 ≤ p.length) : keyBytes (keyAt p 0) = p.take 4 := by
  have hsplit : p = keyBytes (keyAt p 0) ++ p.drop 4 := by
    have bytes (i : Nat) : BitVec.ofNat 8 (byteAt p i) = p.getD i 0 :=
      ofNat_byteAt (Nat.mod_eq_of_lt (byteAt_lt p i))
    calc p = p.getD 0 0 :: p.getD 1 0 :: p.drop 2 := by
          rw [← drop_eq_getD_cons (by omega), ← drop_eq_getD_cons (by omega), List.drop_zero]
      _ = keyBytes (keyAt p 0) ++ p.drop 4 := by
          rw [drop_eq_be16_append (by omega)]
          simp only [keyBytes, keyAt, bytes, List.cons_append, List.nil_append, Nat.zero_add]
  have hlen : (keyBytes (keyAt p 0)).length = 4 := rfl
  exact ((List.take_left' hlen).symm.trans (congrArg (List.take 4) hsplit.symm))

theorem keyAt_keyBytes_append {k : Key} (ho : k.origin ≤ 255) (hc : k.count ≤ 255) (hn : k.number ≤ 65535)
    (l : List Byte) : keyAt (keyBytes k ++ l) 0 = k := by
  have number := be16_read hn
  simp only [keyAt, keyBytes, be16, half, byteAt, List.cons_append, List.nil_append, List.getD_cons_zero,
    List.getD_cons_succ, BitVec.toNat_ofNat, Nat.zero_add]
  simp only [Nat.reducePow, number, Nat.mod_eq_of_lt (show k.origin < 256 by omega),
    Nat.mod_eq_of_lt (show k.count < 256 by omega)]

theorem GasClass.ofCode_eq (n : Nat) :
    GasClass.ofCode n = if n = 0 then .halo else if n = 1 then .hc else .unknown := by
  unfold GasClass.ofCode
  split <;> simp_all

theorem GasClass.code_ofCode {n : Nat} (h : n ≤ 2) : (GasClass.ofCode n).code = n := by
  interval_cases n <;> rfl

theorem GasClass.ofCode_code (c : GasClass) : GasClass.ofCode c.code = c := by cases c <;> rfl

theorem GasClass.code_le (c : GasClass) : c.code ≤ 2 := by cases c <;> decide

theorem routeTakenCode_of {n : Nat} (h : n < 4) : routeTakenCode (routeTakenOf n) = n := by
  interval_cases n <;> rfl

theorem routeTakenOf_code (r : Option RouteTaken) : routeTakenOf (routeTakenCode r) = r := by
  rcases r with _ | (_ | _ | _) <;> rfl

theorem routeTakenCode_lt (r : Option RouteTaken) : routeTakenCode r < 4 := by
  rcases r with _ | (_ | _ | _) <;> decide

/-- A code from 1 to 5 names an outcome. -/
theorem AccountOutcome.exists_ofCode {n : Nat} (h1 : 1 ≤ n) (h5 : n ≤ 5) :
    ∃ o, AccountOutcome.ofCode n = some o ∧ o.code = n := by
  interval_cases n <;> exact ⟨_, rfl, rfl⟩

theorem AccountOutcome.ofCode_code (o : AccountOutcome) : AccountOutcome.ofCode o.code = some o := by
  cases o <;> rfl

theorem AccountOutcome.code_bounds (o : AccountOutcome) : 1 ≤ o.code ∧ o.code ≤ 5 := by cases o <;> decide

/-! ### The flags word (R180) -/

theorem flagBit_eq (b : Bool) (i : Nat) : flagBit b i = 2 ^ i * b.toNat := by cases b <;> simp [flagBit]

/-- The flags word is its nine bits in their order. -/
theorem Flags.word_eq_bits (f : Flags) : f.word =
    Nat.bit f.classMismatch (Nat.bit f.declaredNotDetected (Nat.bit f.mixedRouting (Nat.bit f.outgassingUnfinished
      (Nat.bit f.pulldownTimeout (Nat.bit f.flowOverrange (Nat.bit f.zeroRejected (Nat.bit f.emptyAtPierce
        f.promoted.toNat))))))) := by
  simp only [Flags.word, flagBit_eq, Nat.bit_val]
  omega

theorem Flags.word_lt (f : Flags) : f.word < 512 := by
  have le (b : Bool) : b.toNat ≤ 1 := b.toNat_le
  simp only [Flags.word_eq_bits, Nat.bit_val]
  linarith [le f.classMismatch, le f.declaredNotDetected, le f.mixedRouting, le f.outgassingUnfinished,
    le f.pulldownTimeout, le f.flowOverrange, le f.zeroRejected, le f.emptyAtPierce, le f.promoted]

theorem Flags.ofWord_word (f : Flags) : Flags.ofWord f.word = f := by
  have last (b : Bool) : b.toNat.testBit 0 = b := by cases b <;> rfl
  simp [Flags.ofWord, Flags.word_eq_bits, Nat.testBit_bit_succ, last]

theorem Flags.word_ofWord {w : Nat} (h : w < 512) : (Flags.ofWord w).word = w := by
  simp only [Flags.word, Flags.ofWord, flagBit_eq, Nat.toNat_testBit]
  omega

/-! ### Tags (R4, R180) -/

/-- A printable character. -/
def printable (c : Byte) : Prop := 0x20 ≤ c.toNat ∧ c.toNat ≤ 0x7E

theorem printable_ne_zero {c : Byte} (h : printable c) : c ≠ 0 := by
  rintro rfl
  simp [printable] at h

theorem tagChars_append_zeros {cs zs : List Byte} (hc : ∀ c ∈ cs, c ≠ 0) (hz : ∀ z ∈ zs, z = 0) :
    tagChars (cs ++ zs) = cs := by
  have hzs : tagChars zs = [] := by
    cases zs with
    | nil => rfl
    | cons z zs => simp [tagChars, hz z (by simp)]
  rw [tagChars, List.takeWhile_append_of_pos (by simpa using hc)]
  exact (congrArg (cs ++ ·) hzs).trans (List.append_nil cs)

/-- A tag field is well-formed when it is printable characters followed only by zeros. -/
theorem tagWellFormed_iff (bs : List Byte) : tagWellFormed bs = true ↔
    ∃ cs zs, bs = cs ++ zs ∧ (∀ c ∈ cs, printable c) ∧ ∀ z ∈ zs, z = 0 := by
  constructor
  · intro h
    simp only [tagWellFormed, Bool.and_eq_true, List.all_eq_true, decide_eq_true_eq, beq_iff_eq] at h
    obtain ⟨hc, hz⟩ := h
    have hsplit : tagChars bs ++ bs.dropWhile (· ≠ 0) = bs := List.takeWhile_append_dropWhile
    have hdrop : bs.drop (tagChars bs).length = bs.dropWhile (· ≠ 0) :=
      (congrArg (List.drop (tagChars bs).length) hsplit).symm.trans (List.drop_left' rfl)
    exact ⟨tagChars bs, bs.dropWhile (· ≠ 0), hsplit.symm, hc, hdrop ▸ hz⟩
  · rintro ⟨cs, zs, rfl, hc, hz⟩
    have hchars := tagChars_append_zeros (fun c h => printable_ne_zero (hc c h)) hz
    simp only [tagWellFormed, hchars, List.drop_left, Bool.and_eq_true, List.all_eq_true, decide_eq_true_eq,
      beq_iff_eq]
    exact ⟨hc, hz⟩

theorem tagChars_eq_nil_iff {bs : List Byte} (h : bs ≠ []) : tagChars bs = [] ↔ byteAt bs 0 = 0 := by
  cases bs with
  | nil => exact absurd rfl h
  | cons b bs =>
    have hzero : byteAt (b :: bs) 0 = 0 ↔ b = 0 := by
      simp only [byteAt, List.getD_cons_zero]
      exact ⟨fun hb => BitVec.eq_of_toNat_eq hb, fun hb => by rw [hb]; rfl⟩
    rw [hzero]
    by_cases hb : b = 0
    · simp [tagChars, hb]
    · simp only [tagChars, ne_eq, hb, not_false_eq_true, decide_true, List.takeWhile_cons_of_pos, reduceCtorEq]

/-- The tag of a field, absent when its first byte is 0x00. -/
theorem tagOf_eq {bs : List Byte} (h : bs ≠ []) :
    tagOf bs = if byteAt bs 0 = 0 then none else some (tagChars bs) := by
  simp only [tagOf, List.isEmpty_iff, tagChars_eq_nil_iff h]

theorem tagBytes_length (t : Option (List Byte)) : (tagBytes t).length = 16 := by
  simp only [tagBytes, List.length_append, List.length_take, List.length_replicate]
  omega

/-- A tag that was read is written with the bytes it was read from. -/
theorem tagBytes_tagOf {bs : List Byte} (hlen : bs.length = 16) (h : byteAt bs 0 = 0 ∨ tagWellFormed bs = true) :
    tagBytes (tagOf bs) = if byteAt bs 0 = 0 then List.replicate 16 0 else bs := by
  have hne : bs ≠ [] := List.ne_nil_of_length_pos (by omega)
  rw [tagOf_eq hne]
  split
  · rfl
  next hzero =>
    obtain ⟨cs, zs, rfl, hc, hz⟩ := (tagWellFormed_iff bs).mp (h.resolve_left hzero)
    have hsum : cs.length + zs.length = 16 := by simpa using hlen
    have hzs : zs = List.replicate (16 - cs.length) 0 :=
      List.eq_replicate_iff.mpr ⟨by omega, hz⟩
    rw [tagChars_append_zeros (fun c h => printable_ne_zero (hc c h)) hz]
    simp only [tagBytes, Option.getD_some, List.take_of_length_le (show cs.length ≤ 16 by omega), ← hzs]

/-- A tag that can be written: absent, or one to sixteen printable characters. -/
def tagFits (t : Option (List Byte)) : Prop :=
  ∀ cs, t = some cs → 1 ≤ cs.length ∧ cs.length ≤ 16 ∧ ∀ c ∈ cs, printable c

/-- A written tag is read back, from a field that passes the check. -/
theorem tagOf_tagBytes {t : Option (List Byte)} (h : tagFits t) :
    tagOf (tagBytes t) = t ∧ (byteAt (tagBytes t) 0 = 0 ∨ tagWellFormed (tagBytes t) = true) := by
  cases t with
  | none => exact ⟨rfl, .inl rfl⟩
  | some cs =>
    obtain ⟨hpos, hle, hc⟩ := h cs rfl
    have hbytes : tagBytes (some cs) = cs ++ List.replicate (16 - cs.length) 0 := by
      simp only [tagBytes, Option.getD_some, List.take_of_length_le hle]
    have hz : ∀ z ∈ List.replicate (16 - cs.length) (0 : Byte), z = 0 := fun z => List.eq_of_mem_replicate
    have hchars := tagChars_append_zeros (fun c h => printable_ne_zero (hc c h)) hz
    rw [hbytes]
    refine ⟨?_, .inr ((tagWellFormed_iff _).mpr ⟨_, _, rfl, hc, hz⟩)⟩
    have hne : cs ≠ [] := List.ne_nil_of_length_pos hpos
    simp only [tagOf, hchars, List.isEmpty_iff, hne, if_false]

end Sys2Proof.Machine
end

section
/-! PROOF. OFFER (O56): what the body of an account says and what its checks ask, then one equation per case of R140 and
the end of the step. -/

namespace Sys2Proof.Machine

/-! ### The checks of R180 -/

/-- The checks of an OFFER's body, one by one (R180). -/
structure OfferChecked (src : Nat) (p : List Byte) : Prop where
  address : byteAt p 0 ≤ 23
  origin : byteAt p 0 = src
  number : half p 2 ≠ 0
  tag : byteAt p 4 = 0 ∨ tagWellFormed ((p.drop 4).take 16) = true
  refClass : byteAt p 20 / 64 ≤ 2
  foamClass : byteAt p 20 / 16 % 4 ≤ 2
  route : byteAt p 20 / 4 % 4 ≠ 0 ∨ byteAt p 21 / 32 = 5
  outcomeLow : 1 ≤ byteAt p 21 / 32
  outcomeHigh : byteAt p 21 / 32 ≤ 5
  cyclesLow : 1 ≤ byteAt p 21 / 4 % 8
  cyclesHigh : byteAt p 21 / 4 % 8 ≤ 4
  pierce : half p 24 ≤ 20000 ∨ half p 24 = 65534 ∨ half p 24 = 65535
  zeroOffset : half p 26 ≤ 2000 ∨ half p 26 = 65535
  finalPressure : half p 28 ≤ 20000 ∨ half p 28 = 65535
  yield : half p 22 ≠ 0 → half p 36 ≤ 1500
  noYield : half p 22 = 0 → half p 36 = 65535
  flags : half p 40 < 512
  handoff : byteAt p 20 % 4 = 0
  foamMass : half p 42 = 0
  sequence : full p 44 = 0

/-- A body passes when it passes each check. -/
theorem offerOk_iff (src : Nat) (p : List Byte) : offerOk src p = true ↔ OfferChecked src p := by
  have hyield : (if half p 22 = 0 then half p 36 == 65535 else decide (half p 36 ≤ 1500)) = true ↔
      (half p 22 ≠ 0 → half p 36 ≤ 1500) ∧ (half p 22 = 0 → half p 36 = 65535) := by
    split
    · simp [*]
    · simp [*]
  have hflags : half p 40 / 512 = 0 ↔ half p 40 < 512 := by omega
  simp only [offerOk, Bool.and_eq_true, Bool.or_eq_true, decide_eq_true_eq, beq_iff_eq, bne_iff_ne, hyield, hflags,
    and_assoc]
  constructor
  · rintro ⟨address, origin, number, tag, refClass, foamClass, route, outcomeLow, outcomeHigh, cyclesLow, cyclesHigh,
      pierce, zeroOffset, finalPressure, yield, noYield, flags, handoff, foamMass, sequence⟩
    exact ⟨address, origin, number, tag, refClass, foamClass, route, outcomeLow, outcomeHigh, cyclesLow, cyclesHigh,
      pierce, zeroOffset, finalPressure, yield, noYield, flags, handoff, foamMass, sequence⟩
  · rintro ⟨address, origin, number, tag, refClass, foamClass, route, outcomeLow, outcomeHigh, cyclesLow, cyclesHigh,
      pierce, zeroOffset, finalPressure, yield, noYield, flags, handoff, foamMass, sequence⟩
    exact ⟨address, origin, number, tag, refClass, foamClass, route, outcomeLow, outcomeHigh, cyclesLow, cyclesHigh,
      pierce, zeroOffset, finalPressure, yield, noYield, flags, handoff, foamMass, sequence⟩

/-- The tag field is well-formed when its bytes are so, place by place (R180). -/
theorem tagField_wellFormed_iff {p : List Byte} (hlen : p.length = 48) (hne : byteAt p 4 ≠ 0) :
    tagWellFormed ((p.drop 4).take 16) = true ↔
      ∃ n, 1 ≤ n ∧ n ≤ 16 ∧ (∀ i < n, 0x20 ≤ byteAt p (4 + i) ∧ byteAt p (4 + i) ≤ 0x7E)
        ∧ ∀ i < 16, n ≤ i → byteAt p (4 + i) = 0 := by
  have hfield : ((p.drop 4).take 16).length = 16 := by simp [hlen]
  have at_field {i : Nat} (hi : i < 16) : ((p.drop 4).take 16)[i]'(by omega) = p.getD (4 + i) 0 := by
    rw [List.getElem_take, List.getElem_drop, List.getD_eq_getElem _ _ (by omega)]
  have zero_iff (b : Byte) : b = 0 ↔ b.toNat = 0 := ⟨fun h => by rw [h]; rfl, fun h => BitVec.eq_of_toNat_eq h⟩
  rw [tagWellFormed_iff]
  constructor
  · rintro ⟨cs, zs, hsplit, hc, hz⟩
    have hsum : cs.length + zs.length = 16 := by rw [← List.length_append, ← hsplit, hfield]
    have zeros {i : Nat} (hi : i < 16) (hle : cs.length ≤ i) : byteAt p (4 + i) = 0 := by
      rw [byteAt, ← at_field hi, ← zero_iff]
      simp only [hsplit, List.getElem_append_right hle]
      exact hz _ (List.getElem_mem _)
    refine ⟨cs.length, Nat.pos_of_ne_zero fun h => hne (zeros (i := 0) (by omega) (by omega)), by omega,
      fun i hi => ?_, fun i => zeros⟩
    rw [byteAt, ← at_field (by omega)]
    simp only [hsplit, List.getElem_append_left hi]
    exact hc _ (List.getElem_mem _)
  · rintro ⟨n, -, hn, hc, hz⟩
    refine ⟨((p.drop 4).take 16).take n, ((p.drop 4).take 16).drop n, (List.take_append_drop _ _).symm,
      fun c h => ?_, fun z h => ?_⟩
    · obtain ⟨i, hi, rfl⟩ := List.getElem_of_mem h
      have hin : i < n := by simp only [List.length_take, hfield] at hi; omega
      rw [List.getElem_take, at_field (by omega)]
      exact hc i hin
    · obtain ⟨i, hi, rfl⟩ := List.getElem_of_mem h
      have hin : n + i < 16 := by simp only [List.length_drop, hfield] at hi; omega
      rw [List.getElem_drop, at_field hin, zero_iff]
      exact hz (n + i) hin (by omega)

/-! ### The body of a finalized account (R141, R180) -/

/-- The two-byte fields of a finalized account from byte 22 on, before any foam chamber and any record. -/
def Account.tailFields (x : Account) (r : ExtractionResult) : List Nat :=
  [x.nameplate.getD 0, x.pierce.getD 65534, x.zeroOffset.getD 65535, r.finalPressure, r.massA, r.massB, r.massTotal,
   r.yield.getD 65535, r.seconds, x.flags.word, 0, 0, 0]

/-- The bytes of a finalized account from byte 20 on: its codes, then its fields. -/
def Account.tailBytes (x : Account) (r : ExtractionResult) : List Byte :=
  [BitVec.ofNat 8 (x.refClass.code * 64 + x.foamClass.code * 16 + routeTakenCode x.routeTaken * 4),
   BitVec.ofNat 8 (r.outcome.code * 32 + r.cycles * 4)] ++ (x.tailFields r).flatMap be16

section
variable {x : Account} {r : ExtractionResult} (hfoam : x.foam = none) (hhandoff : x.handoff = none)
  (hsequence : x.sequence = none) (hresult : x.result = some r)
include hfoam hhandoff hsequence hresult

/-- The body of a finalized account: its key, its tag, and the bytes from 20 on. -/
theorem Account.body_eq : x.body false = keyBytes x.key ++ tagBytes x.tag ++ x.tailBytes r := by
  simp only [Account.body, Account.tailBytes, Account.tailFields, hfoam, hhandoff, hsequence, hresult,
    List.append_assoc, List.flatMap_cons]
  rfl

/-- Where the tag stands in it. -/
theorem Account.body_tag : ((x.body false).drop 4).take 16 = tagBytes x.tag
    ∧ byteAt (x.body false) 4 = byteAt (tagBytes x.tag) 0 := by
  have hkey : (keyBytes x.key).length = 4 := rfl
  have hdrop : (x.body false).drop 4 = tagBytes x.tag ++ x.tailBytes r := by
    rw [Account.body_eq hfoam hhandoff hsequence hresult, List.append_assoc, List.drop_left' hkey]
  have htake : ((x.body false).drop 4).take 16 = tagBytes x.tag := by
    rw [hdrop, List.take_left' (tagBytes_length x.tag)]
  refine ⟨htake, ?_⟩
  rw [← htake]
  simp [byteAt, List.getElem?_drop]

theorem Account.byteAt_body {i : Nat} (hi : 20 ≤ i) : byteAt (x.body false) i = byteAt (x.tailBytes r) (i - 20) := by
  have hhead : (keyBytes x.key ++ tagBytes x.tag).length = 20 := by
    rw [List.length_append, tagBytes_length]
    rfl
  rw [Account.body_eq hfoam hhandoff hsequence hresult, byteAt_append_right _ _ (by omega), hhead]

/-- Field `i` of a body from byte 22 on. -/
theorem Account.half_body (hfits : ∀ n ∈ x.tailFields r, n ≤ 65535) (i : Nat) :
    half (x.body false) (22 + 2 * i) = (x.tailFields r).getD i 0 := by
  have hat : 22 + 2 * i - 20 = 2 * i + 2 ∧ 22 + 2 * i + 1 - 20 = 2 * i + 1 + 2 := by omega
  rw [half, Account.byteAt_body hfoam hhandoff hsequence hresult (by omega),
    Account.byteAt_body hfoam hhandoff hsequence hresult (by omega), hat.1, hat.2]
  exact half_flatMap_be16 hfits i

end

/-- A finalized account that its origin can offer: within the fields of R3, before any foam chamber (R140). -/
structure Account.offerable (x : Account) (r : ExtractionResult) : Prop where
  foam : x.foam = none
  handoff : x.handoff = none
  sequence : x.sequence = none
  result : x.result = some r
  origin : x.key.origin ≤ 23
  count : x.key.count ≤ 255
  number : 1 ≤ x.key.number ∧ x.key.number ≤ 65535
  tag : tagFits x.tag
  nameplate : ∀ n, x.nameplate = some n → 1 ≤ n ∧ n ≤ 65535
  pierce : ∀ n, x.pierce = some n → n ≤ 20000 ∨ n = 65535
  zeroOffset : ∀ n, x.zeroOffset = some n → n ≤ 2000
  route : x.routeTaken = none → r.outcome = .abandoned
  finalPressure : r.finalPressure ≤ 20000 ∨ r.finalPressure = 65535
  massA : r.massA ≤ 65535
  massB : r.massB ≤ 65535
  massTotal : r.massTotal ≤ 65535
  seconds : r.seconds ≤ 65535
  cycles : 1 ≤ r.cycles ∧ r.cycles ≤ 4
  unrated : x.nameplate = none ↔ r.yield = none
  yield : ∀ n, r.yield = some n → n ≤ 1500

/-- The fields that a body shows of an account from its byte 20 on (R180). -/
structure ShowsFields (p : List Byte) (x : Account) (r : ExtractionResult) : Prop where
  classes : byteAt p 20 = x.refClass.code * 64 + x.foamClass.code * 16 + routeTakenCode x.routeTaken * 4
  outcome : byteAt p 21 = r.outcome.code * 32 + r.cycles * 4
  nameplate : half p 22 = x.nameplate.getD 0
  pierce : half p 24 = x.pierce.getD 65534
  zeroOffset : half p 26 = x.zeroOffset.getD 65535
  finalPressure : half p 28 = r.finalPressure
  massA : half p 30 = r.massA
  massB : half p 32 = r.massB
  massTotal : half p 34 = r.massTotal
  yield : half p 36 = r.yield.getD 65535
  seconds : half p 38 = r.seconds
  flags : half p 40 = x.flags.word
  foamMass : half p 42 = 0
  sequence : full p 44 = 0

/-- An optional field is within its bound when its value and the code of its absence are. -/
theorem getD_le {o : Option Nat} {d b : Nat} (hd : d ≤ b) (h : ∀ n, o = some n → n ≤ b) : o.getD d ≤ b := by
  cases o with
  | none => exact hd
  | some n => exact h n rfl

section
variable {x : Account} {r : ExtractionResult} (h : x.offerable r)
include h

/-- Every field of an offerable account fits two bytes. -/
theorem Account.offerable.fields_fit : ∀ n ∈ x.tailFields r, n ≤ 65535 := by
  have hpierce : x.pierce.getD 65534 ≤ 65535 :=
    getD_le (by decide) fun n hn => (h.pierce n hn).elim (fun hle => hle.trans (by decide)) Nat.le_of_eq
  have hpressure : r.finalPressure ≤ 65535 := by
    have := h.finalPressure
    omega
  have hword : x.flags.word ≤ 65535 := x.flags.word_lt.le.trans (by decide)
  have hnameplate : x.nameplate.getD 0 ≤ 65535 := getD_le (by decide) fun n hn => (h.nameplate n hn).2
  have hzero : x.zeroOffset.getD 65535 ≤ 65535 :=
    getD_le (by decide) fun n hn => (h.zeroOffset n hn).trans (by decide)
  have hyield : r.yield.getD 65535 ≤ 65535 := getD_le (by decide) fun n hn => (h.yield n hn).trans (by decide)
  simp [Account.tailFields, hpierce, hpressure, hword, hnameplate, hzero, hyield, h.massA, h.massB, h.massTotal,
    h.seconds]

/-- Its body shows every field as it stands. -/
theorem Account.offerable.shows : ShowsFields (x.body false) x r := by
  have byte {i n : Nat} (hi : 20 ≤ i) (ht : byteAt (x.tailBytes r) (i - 20) = n % 256) (hn : n < 256) :
      byteAt (x.body false) i = n := by
    rw [Account.byteAt_body h.foam h.handoff h.sequence h.result hi, ht, Nat.mod_eq_of_lt hn]
  have field (i : Nat) : half (x.body false) (22 + 2 * i) = (x.tailFields r).getD i 0 :=
    Account.half_body h.foam h.handoff h.sequence h.result h.fields_fit i
  have hclasses : x.refClass.code * 64 + x.foamClass.code * 16 + routeTakenCode x.routeTaken * 4 < 256 := by
    have := x.refClass.code_le
    have := x.foamClass.code_le
    have := routeTakenCode_lt x.routeTaken
    omega
  have houtcome : r.outcome.code * 32 + r.cycles * 4 < 256 := by
    have := r.outcome.code_bounds
    have := h.cycles
    omega
  have classes := byte (i := 20) (by decide) (BitVec.toNat_ofNat _ 8) hclasses
  have outcome := byte (i := 21) (by decide) (BitVec.toNat_ofNat _ 8) houtcome
  exact {
    classes := classes
    outcome := outcome
    nameplate := field 0
    pierce := field 1
    zeroOffset := field 2
    finalPressure := field 3
    massA := field 4
    massB := field 5
    massTotal := field 6
    yield := field 7
    seconds := field 8
    flags := field 9
    foamMass := field 10
    sequence := by
      have high : half (x.body false) 44 = 0 := field 11
      have low : half (x.body false) 46 = 0 := field 12
      rw [full, high, low] }

theorem Account.offerable.body_key : keyAt (x.body false) 0 = x.key := by
  rw [Account.body_eq h.foam h.handoff h.sequence h.result, List.append_assoc]
  have := h.origin
  exact keyAt_keyBytes_append (by omega) h.count h.number.2 _

/-- The body of an account that its origin can offer passes the checks of that origin. -/
theorem Account.offerable.checked : OfferChecked x.key.origin (x.body false) := by
  have shows := h.shows
  obtain ⟨hfield, hfirst⟩ := Account.body_tag h.foam h.handoff h.sequence h.result
  have horigin : byteAt (x.body false) 0 = x.key.origin := by rw [← h.body_key, keyAt]
  have hnumber : half (x.body false) 2 = x.key.number := by rw [← h.body_key, keyAt]
  have hclasses := shows.classes
  have houtcome := shows.outcome
  have href := x.refClass.code_le
  have hfoamClass := x.foamClass.code_le
  have hroute := routeTakenCode_lt x.routeTaken
  have hcode := r.outcome.code_bounds
  have hcycles := h.cycles
  have unrated_iff : half (x.body false) 22 = 0 ↔ r.yield = none := by
    rw [shows.nameplate, ← h.unrated]
    cases hn : x.nameplate with
    | none => simp
    | some n =>
      have := (h.nameplate n hn).1
      simp only [Option.getD_some, reduceCtorEq, iff_false]
      omega
  have route : byteAt (x.body false) 20 / 4 % 4 ≠ 0 ∨ byteAt (x.body false) 21 / 32 = 5 := by
    cases hr : x.routeTaken with
    | none =>
      have habandoned : r.outcome.code = 5 := by rw [h.route hr]; rfl
      omega
    | some y =>
      have hpos : 1 ≤ routeTakenCode x.routeTaken := by
        rw [hr]
        cases y <;> decide
      omega
  exact {
    address := horigin.trans_le h.origin
    origin := horigin
    number := by
      have := h.number.1
      omega
    tag := by
      rw [hfirst, hfield]
      exact (tagOf_tagBytes h.tag).2
    refClass := by omega
    foamClass := by omega
    route := route
    outcomeLow := by omega
    outcomeHigh := by omega
    cyclesLow := by omega
    cyclesHigh := by omega
    pierce := by
      rw [shows.pierce]
      cases hp : x.pierce with
      | none => simp
      | some n => exact (h.pierce n hp).imp_right .inr
    zeroOffset := by
      rw [shows.zeroOffset]
      cases hz : x.zeroOffset with
      | none => simp
      | some n => exact .inl (h.zeroOffset n hz)
    finalPressure := by
      rw [shows.finalPressure]
      exact h.finalPressure
    yield := fun hrated => by
      obtain ⟨n, hn⟩ := Option.ne_none_iff_exists'.mp (mt unrated_iff.mpr hrated)
      rw [shows.yield, hn]
      exact h.yield n hn
    noYield := fun hunrated => by rw [shows.yield, unrated_iff.mp hunrated]; rfl
    flags := shows.flags.trans_lt x.flags.word_lt
    handoff := by omega
    foamMass := shows.foamMass
    sequence := shows.sequence }

/-- The account is read back from its body. -/
theorem Account.offerable.accountOf_body : accountOf (x.body false) = x := by
  have shows := h.shows
  have hclasses := shows.classes
  have houtcome := shows.outcome
  have href := x.refClass.code_le
  have hfoamClass := x.foamClass.code_le
  have hroute := routeTakenCode_lt x.routeTaken
  have hcycles := h.cycles
  have refClass : byteAt (x.body false) 20 / 64 = x.refClass.code := by omega
  have foamClass : byteAt (x.body false) 20 / 16 % 4 = x.foamClass.code := by omega
  have route : byteAt (x.body false) 20 / 4 % 4 = routeTakenCode x.routeTaken := by omega
  have outcome : byteAt (x.body false) 21 / 32 = r.outcome.code := by omega
  have cycles : byteAt (x.body false) 21 / 4 % 8 = r.cycles := by omega
  have tag : tagOf (((x.body false).drop 4).take 16) = x.tag := by
    rw [(Account.body_tag h.foam h.handoff h.sequence h.result).1]
    exact (tagOf_tagBytes h.tag).1
  have nameplate : (if x.nameplate.getD 0 = 0 then none else some (x.nameplate.getD 0)) = x.nameplate :=
    absent_getD fun n hn => by have := (h.nameplate n hn).1; omega
  have pierce : (if x.pierce.getD 65534 = 65534 then none else some (x.pierce.getD 65534)) = x.pierce :=
    absent_getD fun n hn => by have := h.pierce n hn; omega
  have zero : (if x.zeroOffset.getD 65535 = 65535 then none else some (x.zeroOffset.getD 65535)) = x.zeroOffset :=
    absent_getD fun n hn => by have := h.zeroOffset n hn; omega
  have yield : (if x.nameplate.getD 0 = 0 then none else some (r.yield.getD 65535)) = r.yield := by
    cases hn : x.nameplate with
    | none => exact (h.unrated.mp hn).symm
    | some n =>
      have hrated : r.yield ≠ none := fun hy => by simp [h.unrated.mpr hy] at hn
      obtain ⟨y, hy⟩ := Option.ne_none_iff_exists'.mp hrated
      have hpos : n ≠ 0 := by have := (h.nameplate n hn).1; omega
      rw [hy]
      exact if_neg hpos
  simp only [accountOf, h.body_key, tag, refClass, foamClass, route, outcome, cycles, shows.nameplate, shows.pierce,
    shows.zeroOffset, shows.finalPressure, shows.massA, shows.massB, shows.massTotal, shows.yield, shows.seconds,
    shows.flags, nameplate, pierce, zero, yield, GasClass.ofCode_code, routeTakenOf_code, AccountOutcome.ofCode_code,
    Flags.ofWord_word, Option.map_some]
  have hresult : some r = x.result := h.result.symm
  have hfoam := h.foam.symm
  have hhandoff := h.handoff.symm
  have hsequence := h.sequence.symm
  rw [hresult, hfoam, hhandoff, hsequence]

end

/-! ### The account of a checked body (R141) -/

/-- The result an OFFER's body shows, with the outcome its code names. -/
def offeredResult (p : List Byte) (o : AccountOutcome) : ExtractionResult :=
  { finalPressure := half p 28, massA := half p 30, massB := half p 32, massTotal := half p 34
    yield := if half p 22 = 0 then none else some (half p 36)
    cycles := byteAt p 21 / 4 % 8, seconds := half p 38, outcome := o }

section
variable {p : List Byte} {a : Nat} (hlen : p.length = 48) (h : OfferChecked a p)
include hlen h

/-- The fields of a checked body are those of the account it carries. -/
theorem OfferChecked.fields (o : AccountOutcome) :
    ((accountOf p).tailFields (offeredResult p o)).flatMap be16 = p.drop 22 := by
  have hsequence := h.sequence
  have hhigh : half p 44 = 0 := by unfold full at hsequence; omega
  have hlow : half p 46 = 0 := by
    have hsum : half p 44 * 65536 + half p 46 = 0 := hsequence
    omega
  have hyield : (if half p 22 = 0 then none else some (half p 36)).getD 65535 = half p 36 := by
    split
    next hunrated => exact (h.noYield hunrated).symm
    · rfl
  have fields : (accountOf p).tailFields (offeredResult p o) = [half p 22, half p 24, half p 26, half p 28, half p 30,
      half p 32, half p 34, half p 36, half p 38, half p 40, half p 42, half p 44, half p 46] := by
    simp only [Account.tailFields, accountOf, offeredResult, getD_absent, hyield, Flags.word_ofWord h.flags, h.foamMass,
      hhigh, hlow]
  have next {i : Nat} (hi : i + 1 < 48) : p.drop i = be16 (half p i) ++ p.drop (i + 2) :=
    drop_eq_be16_append (by omega)
  have hend : p.drop 48 = [] := List.drop_eq_nil_of_le hlen.le
  rw [fields, next (i := 22) (by decide), next (i := 24) (by decide), next (i := 26) (by decide),
    next (i := 28) (by decide), next (i := 30) (by decide), next (i := 32) (by decide), next (i := 34) (by decide),
    next (i := 36) (by decide), next (i := 38) (by decide), next (i := 40) (by decide), next (i := 42) (by decide),
    next (i := 44) (by decide), next (i := 46) (by decide), hend]
  rfl

/-- The account of a checked body has the body that came, but for the bytes after an empty tag and bits 1..0 of byte 21
(log 36). -/
theorem OfferChecked.body_accountOf :
    let q := p.set 21 (BitVec.ofNat 8 (byteAt p 21 / 4 * 4))
    (accountOf p).body false =
      if byteAt p 4 = 0 then q.take 4 ++ List.replicate 16 0 ++ q.drop 20 else q := by
  obtain ⟨o, houtcome, hcode⟩ := AccountOutcome.exists_ofCode h.outcomeLow h.outcomeHigh
  have hresult : (accountOf p).result = some (offeredResult p o) := by
    simp only [accountOf, houtcome, Option.map_some, offeredResult]
  have hfield : ((p.drop 4).take 16).length = 16 := by simp [hlen]
  have hfirst : byteAt ((p.drop 4).take 16) 0 = byteAt p 4 := by simp [byteAt, List.getElem?_drop]
  have hkey : keyBytes (accountOf p).key = p.take 4 := keyBytes_keyAt (by omega)
  have htag : tagBytes (accountOf p).tag = if byteAt p 4 = 0 then List.replicate 16 0 else (p.drop 4).take 16 := by
    rw [← hfirst]
    exact tagBytes_tagOf hfield (by rw [hfirst]; exact h.tag)
  intro q
  have hhead {n : Nat} (hn : n ≤ 21) : q.take n = p.take n := List.take_set_of_le hn
  have htail : (accountOf p).tailBytes (offeredResult p o) = q.drop 20 := by
    have hroute : byteAt p 20 / 4 % 4 < 4 := Nat.mod_lt _ (by decide)
    have hclasses : BitVec.ofNat 8 ((accountOf p).refClass.code * 64 + (accountOf p).foamClass.code * 16
        + routeTakenCode (accountOf p).routeTaken * 4) = p.getD 20 0 := by
      refine ofNat_byteAt ?_
      simp only [accountOf, GasClass.code_ofCode h.refClass, GasClass.code_ofCode h.foamClass, routeTakenCode_of hroute]
      have := h.handoff
      have := byteAt_lt p 20
      omega
    have hbyte : (offeredResult p o).outcome.code * 32 + (offeredResult p o).cycles * 4 = byteAt p 21 / 4 * 4 := by
      simp only [offeredResult, hcode]
      omega
    have hdrop : q.drop 20 = p.getD 20 0 :: BitVec.ofNat 8 (byteAt p 21 / 4 * 4) :: p.drop 22 := by
      rw [List.drop_set, if_neg (by decide), drop_eq_getD_cons (by omega), drop_eq_getD_cons (by omega)]
      rfl
    rw [Account.tailBytes, hclasses, hbyte, h.fields hlen, hdrop]
    rfl
  rw [Account.body_eq rfl rfl rfl hresult, hkey, htag, htail, hhead (by decide)]
  split
  · rfl
  · rw [← List.take_add, ← hhead (n := 4 + 16) (by decide), List.take_append_drop]

end

/-! ### The cases of R140 -/

section
variable {s : State} {a : Nat} {p : List Byte}

theorem Accounts.holdsKey_iff (x : Accounts) (k : Key) : x.holdsKey k = true ↔
    (∃ y ∈ x.intake, y.key = k) ∨ ∃ e ∈ x.chamber, e.account.key = k := by
  simp only [Accounts.holdsKey, Bool.or_eq_true, List.any_eq_true, beq_iff_eq]

theorem takeOffer_held (h : s.ac.holdsKey (keyAt p 0) = true) : s.takeOffer a p = s.sendAccept a (keyAt p 0) :=
  if_pos h

section
variable (hnew : ¬s.ac.holdsKey (keyAt p 0) = true)
include hnew

theorem takeOffer_notReady (hr : s.inRun = false) : s.takeOffer a p = s.sendRefuse a (keyAt p 0) 2 := by
  simp [State.takeOffer, hnew, hr]

variable (hr : s.inRun = true)
include hr

theorem takeOffer_full (hfull : 4 ≤ s.ac.intake.length ∨ s.rs.full = true) :
    s.takeOffer a p = s.sendRefuse a (keyAt p 0) 1 := by
  simp [State.takeOffer, hnew, hr, hfull]

theorem takeOffer_joins (hroom : ¬(4 ≤ s.ac.intake.length ∨ s.rs.full = true)) : s.takeOffer a p =
    (s.setAc { s.ac with intake := s.ac.intake ++ [accountOf p] }).sendAccept a (keyAt p 0) := by
  simp [State.takeOffer, hnew, hr, hroom]

end

/-- An answer to an OFFER waits at the end of its step, even in a full queue (R163, R166). -/
theorem answer_conclude_waits {k : Kind} (hk : k = .accept ∨ k = .refuse) (s : State) (dst : Nat) (l : List Byte)
    (old : State) : ((s.send k dst l).conclude old).waits k dst l := by
  obtain ⟨status, clear, purgeEnd, call, cls, claim⟩ : k ≠ .status ∧ k ≠ .purgeClear ∧ k ≠ .purgeEnd ∧ k ≠ .purgeCall
      ∧ k.cls ≠ 3 ∧ k.isOwnClaim = false := by
    obtain rfl | rfl := hk
    · decide
    · decide
  have hm := Line.mem_enqueue_self (l := s.li) (t := { kind := k, dst := dst, payload := l, cls := k.cls })
    status clear purgeEnd (.inr cls)
  exact ⟨_, Telegram.lasts.conclude ⟨status, call, cls, claim⟩ old hm, rfl, rfl, rfl⟩

/-- An OFFER that is taken at a FOAM station. -/
theorem exec_offer {f : Frame} (hf : s.isFoam = true) (h : s.takes .offer f = true) :
    exec (.offer f) s = .next (if offerOk f.src.toNat f.payload = true then
      ((s.noted f).takeOffer f.src.toNat f.payload).conclude s else s.noted f) := by
  have hnf : (s.noted f).isFoam = true := by simpa [State.isFoam] using hf
  simp [exec, execOffer, State.hearKind_of_takes h, hnf]

/-- One that is taken at another station is a sign of life alone. -/
theorem exec_offer_other {f : Frame} (hf : s.isFoam = false) (h : s.takes .offer f = true) :
    exec (.offer f) s = .next (s.noted f) := by
  have hnf : (s.noted f).isFoam = false := by simpa [State.isFoam] using hf
  simp [exec, execOffer, State.hearKind_of_takes h, hnf]

/-- One outside JOINING and RUN is over when it has been received. -/
theorem exec_offer_outside {f : Frame} (hw : s.working = false) (hh : s.li.hearing = true) :
    exec (.offer f) s = .next s.endReception := by
  have hw' : s.endReception.working = false := hw
  simp [exec, execOffer, State.hearKind, State.hear, hh, hw']

/-- An OFFER closes no account of the chamber list with a carry-over above 0 (log 15). -/
theorem takeOffer_chamberWork (hf : s.isFoam = true) (hc : s.cfg.carryOver ≠ 0) (old : State) :
    ((s.takeOffer a p).conclude old).chamberWork = s.chamberWork := by
  have hf' : (s.takeOffer a p).isFoam = true := by simpa [State.isFoam] using hf
  have work := (conclude_chamberWork hf' (by simpa using hc) old).1
  exact work.trans (by simp [State.chamberWork])

end

/-! ### The obligation -/

/-- The fields of the account that joins are those of R180 at their bytes. -/
theorem joined_fields {p : List Byte} (hlen : p.length = 48) {o : AccountOutcome}
    (ho : AccountOutcome.ofCode (byteAt p 21 / 32) = some o) : accountOf p = {
      key := ⟨byteAt p 0, byteAt p 1, half p 2⟩
      tag := if byteAt p 4 = 0 then none else some (tagChars ((p.drop 4).take 16))
      refClass := GasClass.ofCode (byteAt p 20 / 64), foamClass := GasClass.ofCode (byteAt p 20 / 16 % 4)
      routeTaken := routeTakenOf (byteAt p 20 / 4 % 4)
      nameplate := if half p 22 = 0 then none else some (half p 22)
      pierce := if half p 24 = 65534 then none else some (half p 24)
      zeroOffset := if half p 26 = 65535 then none else some (half p 26)
      flags := Flags.ofWord (half p 40)
      result := some (offeredResult p o) } := by
  have hne : (p.drop 4).take 16 ≠ [] := List.ne_nil_of_length_pos (by simp [hlen])
  have hfirst : byteAt ((p.drop 4).take 16) 0 = byteAt p 4 := by simp [byteAt, List.getElem?_drop]
  simp only [accountOf, tagOf_eq hne, hfirst, ho, Option.map_some, offeredResult, keyAt]

/-- Settles O56: the checks one by one, the equation of the case that applies, and the two round trips of the body. -/
theorem offerIsAnsweredByTheFirstCase : Obligations.OfferIsAnsweredByTheFirstCase := by
  refine ⟨fun s f => ⟨exec_offer_other, exec_offer_outside, fun hf htakes => ⟨_, exec_offer hf htakes, ?_⟩⟩, ?_⟩
  · have hlen : f.payload.length = 48 := by
      simpa [Kind.lengths] using ((State.takes_iff s .offer f).mp htakes).2.1
    have hnf : (s.noted f).isFoam = true := by simpa [State.isFoam] using hf
    have hnr : (s.noted f).inRun = s.inRun := by simp [State.inRun, State.phase]
    intro p a k held isFull outcome cycles route tagged good cls bit joined q
    have good_iff : good ↔ offerOk a p = true := by
      have htag : (byteAt p 4 = 0 ∨ tagged) ↔ (byteAt p 4 = 0 ∨ tagWellFormed ((p.drop 4).take 16) = true) :=
        or_congr_right' fun hne => (tagField_wellFormed_iff hlen hne).symm
      rw [offerOk_iff]
      constructor
      · rintro ⟨address, origin, number, tag, refClass, foamClass, route, outcomeLow, outcomeHigh,
          cyclesLow, cyclesHigh, pierce, zeroOffset, finalPressure, yield, noYield, flags, handoff, foamMass, sequence⟩
        exact ⟨address, origin, number, htag.mp tag, refClass, foamClass, route, outcomeLow, outcomeHigh,
          cyclesLow, cyclesHigh, pierce, zeroOffset, finalPressure, yield, noYield, flags, handoff, foamMass, sequence⟩
      · rintro ⟨address, origin, number, tag, refClass, foamClass, route, outcomeLow, outcomeHigh,
          cyclesLow, cyclesHigh, pierce, zeroOffset, finalPressure, yield, noYield, flags, handoff, foamMass, sequence⟩
        exact ⟨address, origin, number, htag.mpr tag, refClass, foamClass, route, outcomeLow, outcomeHigh,
          cyclesLow, cyclesHigh, pierce, zeroOffset, finalPressure, yield, noYield, flags, handoff, foamMass, sequence⟩
    have hjoined (h : good) : accountOf p = joined := by
      have checked := (offerOk_iff a p).mp (good_iff.mp h)
      obtain ⟨o, ho, hcode⟩ := AccountOutcome.exists_ofCode checked.outcomeLow checked.outcomeHigh
      have houtcome : o = match outcome with
          | 1 => .complete | 2 => .short | 3 => .unrated | 4 => .empty | _ => .abandoned := by
        rw [show outcome = o.code from hcode.symm]
        cases o <;> rfl
      have hclass : GasClass.ofCode = cls := funext GasClass.ofCode_eq
      rw [joined_fields hlen ho, hclass, houtcome]
      rfl
    have hheld : held ↔ (s.noted f).ac.holdsKey k = true := by
      simp [Accounts.holdsKey_iff, held]
    have hfull : isFull ↔ 4 ≤ (s.noted f).ac.intake.length ∨ (s.noted f).rs.full = true := by simp [isFull]
    have answered (h : good) : (if offerOk a p = true then ((s.noted f).takeOffer a p).conclude s else s.noted f) =
        ((s.noted f).takeOffer a p).conclude s := if_pos (good_iff.mp h)
    refine ⟨fun hc => ?_, fun h => if_neg (mt good_iff.mpr h), fun h hk => ?_, fun h hk hr => ?_, fun h hk hr hfl => ?_,
      fun h hk hr hfl => ?_, fun h => ⟨hjoined h, ?_⟩⟩
    · have hnoted : (s.noted f).chamberWork = s.chamberWork := by simp [State.chamberWork]
      split
      · exact (takeOffer_chamberWork hnf (by simpa using hc) s).trans hnoted
      · exact hnoted
    · rw [answered h, takeOffer_held (hheld.mp hk)]
      exact ⟨by simp, answer_conclude_waits (.inl rfl) _ _ _ _⟩
    · rw [answered h, takeOffer_notReady (mt hheld.mpr hk) (hnr.trans hr)]
      exact ⟨by simp, answer_conclude_waits (.inr rfl) _ _ _ _⟩
    · rw [answered h, takeOffer_full (mt hheld.mpr hk) (hnr.trans hr) (hfull.mp hfl)]
      exact ⟨by simp, answer_conclude_waits (.inr rfl) _ _ _ _⟩
    · rw [answered h, takeOffer_joins (mt hheld.mpr hk) (hnr.trans hr) (mt hfull.mpr hfl), hjoined h]
      exact ⟨by simp, answer_conclude_waits (.inl rfl) _ _ _ _⟩
    · rw [← hjoined h]
      exact ((offerOk_iff a p).mp (good_iff.mp h)).body_accountOf hlen
  · intro x r hfoam hhandoff hsequence hresult horigin hcount hpos hnumber htag hnameplate hpierce hzero hroute
      hpressure hA hB htotal hseconds h1 h4 hunrated hyield
    have h : x.offerable r := ⟨hfoam, hhandoff, hsequence, hresult, horigin, hcount, ⟨hpos, hnumber⟩, htag, hnameplate,
      hpierce, hzero, hroute, hpressure, hA, hB, htotal, hseconds, ⟨h1, h4⟩, hunrated, hyield⟩
    exact ⟨(offerOk_iff _ _).mpr h.checked, h.accountOf_body⟩

end Sys2Proof.Machine
end

section
/-! SUPPORT. What the operations of the Protection Unit keep: the set of codes ascending and of defined codes with DE
by its rule (R144, R151), and the code of a source in it while the source is not NORMAL (R149). -/

namespace Sys2Proof.Machine

/-! ### The code set -/

theorem ascending_iff (l : List Nat) : ascending l = true ↔ l.Pairwise (· < ·) := by
  rw [← List.isChain_iff_pairwise]
  induction l with
  | nil => simp [ascending]
  | cons x xs ih =>
    cases xs with
    | nil => simp [ascending]
    | cons y ys => simp [ascending, ih]

theorem ascending_insertCode {c : Nat} {l : List Nat} (h : l.Pairwise (· < ·)) :
    (insertCode c l).Pairwise (· < ·) := by
  induction l with
  | nil => simp [insertCode]
  | cons x xs ih =>
    obtain ⟨hx, hxs⟩ := List.pairwise_cons.mp h
    unfold insertCode
    split
    · rename_i hlt
      refine List.pairwise_cons.mpr ⟨fun y hy => ?_, h⟩
      obtain rfl | hy := List.mem_cons.mp hy
      · exact hlt
      · exact hlt.trans (hx y hy)
    · split
      · exact h
      · refine List.pairwise_cons.mpr ⟨fun y hy => ?_, ih hxs⟩
        obtain rfl | hy := (mem_insertCode y c xs).mp hy
        · omega
        · exact hx y hy

/-- An ascending set of defined codes (R151). -/
def codesOk (l : List Nat) : Prop := l.Pairwise (· < ·) ∧ ∀ c ∈ l, c ∈ definedCodes

theorem codesOk.insertCode {c : Nat} {l : List Nat} (h : codesOk l) (hc : c ∈ definedCodes) :
    codesOk (insertCode c l) := by
  refine ⟨ascending_insertCode h.1, fun d hd => ?_⟩
  obtain rfl | hd := (mem_insertCode d c l).mp hd
  · exact hc
  · exact h.2 d hd

theorem codesOk.sublist {k l : List Nat} (h : codesOk l) (hk : k.Sublist l) : codesOk k :=
  ⟨h.1.sublist hk, fun c hc => h.2 c (hk.subset hc)⟩

theorem State.protectionOk_iff (s : State) : s.protectionOk ↔ codesOk s.pu.codes ∧ s.pu.de = s.driveRule := by
  simp only [State.protectionOk, codesOk, ascending_iff, and_assoc]

/-- Outside RUN the rule gives no DE (R144). -/
theorem State.driveRule_outside {s : State} (h : s.inRun = false) : s.driveRule = false := by
  simp [State.driveRule, h]

/-! ### The codes of the trip sources -/

theorem ofCode_code (x : TripSource) : TripSource.ofCode x.code = some x := by cases x <;> rfl

theorem code_eq_iff {x y : TripSource} : x.code = y.code ↔ x = y := by
  refine ⟨fun h => Option.some.inj ?_, congrArg _⟩
  rw [← ofCode_code x, h, ofCode_code]

theorem code_of_ofCode {c : Nat} {x : TripSource} (h : TripSource.ofCode c = some x) : x.code = c := by
  simpa using List.find?_some h

theorem code_ne_of_ofCode {c : Nat} (h : TripSource.ofCode c = none) (x : TripSource) : x.code ≠ c := by
  rintro rfl
  simp [ofCode_code] at h

theorem code_defined (x : TripSource) : x.code ∈ definedCodes := by cases x <;> decide

/-- The defined codes of no trip source (R152, R153). -/
def plainCodes : List Nat := definedCodes.filter fun c => (TripSource.ofCode c).isNone

theorem mem_plainCodes {c : Nat} (h : c ∈ plainCodes) : c ∈ definedCodes ∧ TripSource.ofCode c = none := by
  simpa [plainCodes] using h

/-- A sample makes no source NORMAL, and leaves a NORMAL one (R148, R149). -/
theorem Source.sample_normal_iff (x : Source) (cfg : SourceSetting) (ms : Nat) (b : Bool) :
    (x.sample cfg ms b).st = .normal ↔ x.st = .normal := by
  cases h : x.st <;> cases b <;> simp [Source.sample, h]
  split <;> simp

/-! ### Both rules over a part of a step -/

/-- A part of a step keeps the rules of the code set and DE, and that of the sources' codes. -/
structure KeepsProtection (s t : State) : Prop where
  drive : s.protectionOk → t.protectionOk
  sources : s.sourcesOk → t.sourcesOk

namespace KeepsProtection

theorem refl (s : State) : KeepsProtection s s := ⟨id, id⟩

theorem trans {s t u : State} (h : KeepsProtection s t) (k : KeepsProtection t u) : KeepsProtection s u :=
  ⟨k.drive ∘ h.drive, k.sources ∘ h.sources⟩

/-- The codes stand, no source becomes NORMAL or ceases to be, and DE follows its rule when it did. -/
theorem of_codes {s t : State} (hcodes : t.pu.codes = s.pu.codes)
    (hsources : ∀ x, (t.source x).st = .normal ↔ (s.source x).st = .normal)
    (hde : s.pu.de = s.driveRule → t.pu.de = t.driveRule) : KeepsProtection s t where
  drive h := by
    rw [State.protectionOk_iff] at h ⊢
    exact ⟨hcodes ▸ h.1, hde h.2⟩
  sources h x := by rw [hcodes, ne_eq, hsources x]; exact h x

/-- PU stands, with the phase and the configuration. -/
theorem of_frame {s t : State} (h : t.boot = s.boot ∧ t.cfg = s.cfg ∧ t.pu = s.pu) : KeepsProtection s t := by
  obtain ⟨hboot, hcfg, hpu⟩ := h
  have hrule : t.driveRule = s.driveRule := State.driveRule_congr hboot hcfg (by rw [hpu])
  exact of_codes (by rw [hpu]) (fun x => by rw [State.source_congr (s := s) (t := t) (by rw [hpu])])
    fun h => by rw [hpu, hrule, h]

/-- PU stands, outside RUN before and after, whatever becomes of phase and configuration. -/
theorem of_outside {s t : State} (hs : s.inRun = false) (ht : t.inRun = false) (hpu : t.pu = s.pu) :
    KeepsProtection s t := by
  refine of_codes (by rw [hpu]) (fun x => by rw [State.source_congr (s := s) (t := t) (by rw [hpu])]) fun h => ?_
  rw [hpu, h, State.driveRule_outside hs, State.driveRule_outside ht]

/-- A PU emptied outside RUN. -/
theorem of_empty {s t : State} (hpu : t.pu = {}) (ht : t.inRun = false) : KeepsProtection s t where
  drive _ := by simp [State.protectionOk_iff, hpu, codesOk, State.driveRule_outside ht]
  sources _ x := by
    have hst : (t.source x).st = .normal := by rw [State.source, hpu]; cases x <;> rfl
    simp [hpu, hst]

/-- A code of no trip source enters the set. -/
theorem addCode (s : State) {c : Nat} (hc : c ∈ plainCodes) : KeepsProtection s (s.addCode c) where
  drive h := by
    rw [State.protectionOk_iff] at h ⊢
    exact ⟨h.1.insertCode (mem_plainCodes hc).1, rfl⟩
  sources h x := by
    have hne : x.code ≠ c := code_ne_of_ofCode (mem_plainCodes hc).2 x
    rw [State.source_congr (s := s) (by simp), State.addCode_codes, mem_insertCode, or_iff_right hne]
    exact h x

/-- A code of no trip source leaves the set. -/
theorem removeCode (s : State) {c : Nat} (hc : TripSource.ofCode c = none) : KeepsProtection s (s.removeCode c) where
  drive h := by
    rw [State.protectionOk_iff] at h ⊢
    exact ⟨h.1.sublist List.filter_sublist, rfl⟩
  sources h x := by
    have hne : x.code ≠ c := code_ne_of_ofCode hc x
    rw [State.source_congr (s := s) (by simp)]
    simpa [hne] using h x

/-- A source trips with its code (R148). -/
theorem trip (s : State) (t : TripSource) (b : Bool) : KeepsProtection s (s.trip t b) where
  drive h := by
    rw [State.protectionOk_iff] at h ⊢
    exact ⟨h.1.insertCode (code_defined t), rfl⟩
  sources h x := by
    rw [State.mem_trip_codes, code_eq_iff]
    by_cases hx : x = t
    · simp [hx]
    · rw [State.trip_source_ne s hx, or_iff_right hx]
      exact h x

/-- A source recovers with its code (R149). -/
theorem recover (s : State) (t : TripSource) : KeepsProtection s (s.recover t) where
  drive h := by
    rw [State.protectionOk_iff] at h ⊢
    exact ⟨h.1.sublist List.filter_sublist, rfl⟩
  sources h x := by
    rw [State.mem_recover_codes, ne_eq, code_eq_iff]
    by_cases hx : x = t
    · simp [hx]
    · rw [State.recover_source_ne s hx, and_iff_right hx]
      exact h x

/-- A source is replaced by one that is NORMAL when it was. -/
theorem setSource (s : State) (t : TripSource) {y : Source} (h : y.st = .normal ↔ (s.source t).st = .normal) :
    KeepsProtection s (s.setSource t y) := by
  have hrule : (s.setSource t y).driveRule = s.driveRule := State.driveRule_congr (by simp) (by simp) (by simp)
  refine of_codes (by simp) (fun x => ?_) fun hde => by simpa [hrule] using hde
  by_cases hx : x = t
  · subst hx
    simpa using h
  · rw [State.setSource_source_ne s hx]

/-- An event is reported (R147 to R149). -/
theorem reportEvent (s : State) (t : TripSource) : KeepsProtection s (s.reportEvent t) := by
  unfold State.reportEvent
  split
  · exact trip s t true
  · rename_i h
    exact setSource s t (by simp [h])
  · rename_i h
    exact setSource s t (by simp [h])

end KeepsProtection

end Sys2Proof.Machine
end

section
/-! PROOF. The fault code set and DE keep their rules over every step (O11), and so do the codes of the trip sources
(O12). Every operation of a step leaves PU alone or is made of the operations of PU above. -/

namespace Sys2Proof.Machine

open KeepsProtection

/-! ### SQ's reaction at an EXTRACTION station -/

theorem routeChange_keepsProtection (s : State) : KeepsProtection s s.routeChange := by
  have hq : KeepsProtection s ((s.setSq { s.sq with routeB := true }).onActive QueueEntry.rerouted) :=
    of_frame (by simp)
  exact (hq.trans (addCode _ (c := 7) (by decide))).trans (of_frame (by simp [State.routeChange]))

theorem enterE5_keepsProtection (s : State) : KeepsProtection s s.enterE5 := by
  have ht : KeepsProtection s ((s.enterTimed .e5).setPulldown Comparator.disarm) := of_frame (by simp)
  simp only [State.enterE5]
  split
  · exact ht.trans (routeChange_keepsProtection _)
  · exact ht

theorem endClassify_keepsProtection (s : State) : KeepsProtection s s.endClassify := by
  have ha : KeepsProtection s (s.onActive (QueueEntry.routed s.declaredClass s.sq.detected)) := of_frame (by simp)
  simp only [State.endClassify]
  split
  · exact (ha.trans (addCode _ (c := 6) (by decide))).trans (of_frame (by simp))
  · exact ha.trans (of_frame (by simp))

theorem settleE3_keepsProtection (s : State) : KeepsProtection s s.settleE3 := by
  have ht (x : Sequence) : KeepsProtection s (s.setSq x) := of_frame (by simp)
  simp only [State.settleE3]
  split
  · exact (ht _).trans (endClassify_keepsProtection _)
  · exact ht _

theorem settleE4_keepsProtection (s : State) : KeepsProtection s s.settleE4 := by
  have ht : KeepsProtection s (s.setSq { s.sq with starve := Timer.stopped }) := of_frame (by simp)
  unfold State.settleE4
  split
  · exact (ht.trans (enterE5_keepsProtection _)).trans (of_frame (by simp))
  · exact refl s

theorem settleExtraction_keepsProtection (s : State) : KeepsProtection s s.settleExtraction := by
  have starve {t : State} (h : KeepsProtection s t) : KeepsProtection s t.settleStarve := h.trans (of_frame (by simp))
  unfold State.settleExtraction
  apply starve
  split
  · exact of_frame (by simp)
  · exact of_frame (by simp)
  · exact settleE3_keepsProtection s
  · exact settleE4_keepsProtection s
  · exact of_frame (by simp)
  · exact of_frame (by simp)
  · exact refl s
  · exact refl s

/-! ### The purge path and the chamber -/

theorem pathToVent_keepsProtection (s : State) : KeepsProtection s s.pathToVent := by
  have hc : KeepsProtection s (s.setCh { s.ch with path := .vent }) := of_frame (by simp)
  exact hc.trans (addCode _ (by decide))

/-- A change that its conditions call for leaves PU or vents the purge path (R93). -/
theorem chamberMove_keepsProtection {s t : State} (h : s.chamberMove = some t) : KeepsProtection s t := by
  obtain ⟨-, hmem⟩ | ⟨-, rfl⟩ := chamberMove_cases h
  · simp only [List.mem_cons, List.not_mem_nil, or_false] at hmem
    obtain rfl | rfl | rfl | rfl | rfl | rfl | rfl := hmem
    all_goals exact of_frame (by simp [State.entryGivenUp])
  · exact pathToVent_keepsProtection s

theorem chamberMoves_keepsProtection (n : Nat) (s : State) : KeepsProtection s (s.chamberMoves n) := by
  induction n generalizing s with
  | zero => exact refl s
  | succ n ih =>
    cases hmove : s.chamberMove with
    | none => simpa [State.chamberMoves_of_none hmove] using refl s
    | some t =>
      rw [State.chamberMoves_of_some hmove]
      exact (chamberMove_keepsProtection hmove).trans (ih t)

theorem settle_keepsProtection (s : State) : KeepsProtection s s.settle := by
  unfold State.settle
  split
  · unfold State.settleChamber
    split
    · exact refl s
    · exact (chamberMoves_keepsProtection 6 s).trans (of_frame (by simp))
  · exact settleExtraction_keepsProtection s

theorem concludeIf_keepsProtection (s : State) (b : Bool) (old : State) : KeepsProtection s (s.concludeIf b old) :=
  (settle_keepsProtection s).trans (of_frame (by simp [State.concludeIf]))

/-- The hearing of a telegram and the end of a step keep both rules. -/
theorem keepsProtection_carried : Carried KeepsProtection where
  refl := refl
  trans := trans
  endReception s := of_frame (by simp)
  refresh s a := of_frame (by simp)
  conflict s := addCode s (by decide)
  downstream s old := of_frame (by simp)
  conclude s old := concludeIf_keepsProtection s false old

/-! ### The purge call -/

theorem checkCall_keepsProtection (s : State) : KeepsProtection s s.checkCall := by
  have hm (m : Manifold) : KeepsProtection s (s.setMs m) := of_frame (by simp)
  unfold State.checkCall
  split
  · dsimp only
    split
    · exact of_frame (by simp)
    · exact (hm _).trans (pathToVent_keepsProtection _)
  · exact refl s

theorem dropAwaited_keepsProtection (s : State) (a : Nat) : KeepsProtection s (s.dropAwaited a) := by
  have hm (m : Manifold) : KeepsProtection s (s.setMs m) := of_frame (by simp)
  unfold State.dropAwaited
  split
  · exact (hm _).trans (checkCall_keepsProtection _)
  · exact refl s

theorem callToVent_keepsProtection (s : State) : KeepsProtection s s.callToVent := by
  have hm (m : Manifold) : KeepsProtection s (s.setMs m) := of_frame (by simp)
  exact (hm _).trans (pathToVent_keepsProtection _)

theorem yieldCall_keepsProtection (s : State) : KeepsProtection s s.yieldCall := by
  have hm (m : Manifold) : KeepsProtection s (s.setMs m) := of_frame (by simp)
  unfold State.yieldCall
  split
  · exact callToVent_keepsProtection s
  · exact (hm _).trans (pathToVent_keepsProtection _)
  · exact refl s
  · exact refl s

theorem ownHeard_keepsProtection (s : State) (m : Telegram) : KeepsProtection s (s.ownHeard m) := by
  have hm (m : Manifold) : KeepsProtection s (s.setMs m) := of_frame (by simp)
  unfold State.ownHeard
  split
  · exact refl s
  · split
    · split
      · exact of_frame (by simp)
      · exact refl s
    · exact of_frame (by simp)
    · split
      · exact (hm _).trans (checkCall_keepsProtection _)
      · exact refl s
    · exact of_frame (by simp)
    all_goals exact refl s

/-- An entry that becomes STALE may call code 32 up, and end the own call on the VENT path (R117, R124). -/
theorem makeStale_keepsProtection (s : State) (a : Nat) : KeepsProtection s (s.makeStale a) := by
  have hlost : KeepsProtection s (s.peerLost a) := by
    have hm : KeepsProtection s ((((s.setPeer a (s.peer a).staled).hazardRuns s).dropClaim a).clearMark a) :=
      of_frame (by simp)
    exact (hm.trans (dropAwaited_keepsProtection _ a)).trans (of_frame (by simp [State.peerLost]))
  rw [makeStale_eq]
  refine keepsProtection_carried.trans ?_ (keepsProtection_carried.downstream _ s)
  split
  · exact hlost.trans (addCode _ (by decide))
  · exact hlost

/-! ### Accounts and sequences -/

theorem takeAnnounce_keepsProtection (s : State) (p : List Byte) : KeepsProtection s (s.takeAnnounce p) := by
  simp only [State.takeAnnounce]
  (repeat' split)
  · exact refl s
  · exact of_frame (by simp)
  · exact addCode s (by decide)
  · exact of_frame (by simp)
  · exact addCode s (by decide)

theorem offerUnanswered_keepsProtection (s : State) : KeepsProtection s s.offerUnanswered := by
  unfold State.offerUnanswered
  split
  · exact of_frame (by simp)
  · dsimp only
    split
    · exact KeepsProtection.trans (of_frame (by simp)) (addCode _ (by decide))
    · exact of_frame (by simp)

theorem clampFailed_keepsProtection (s : State) : KeepsProtection s s.clampFailed := by
  have hm : KeepsProtection s s.markAbandoned := of_frame (by simp)
  exact (hm.trans (reportEvent _ .clampTimeout)).trans (of_frame (by simp [State.clampFailed]))

/-- A falling CLC fails a held clamp in E2 to E6, and ends E7 (R54, R72). -/
theorem clampOpened_keepsProtection (s : State) : KeepsProtection s s.clampOpened := by
  have hheld : KeepsProtection s (if s.sq.clampHold then s.clampFailed else s) :=
    keepsProtection_carried.guard fun _ => clampFailed_keepsProtection s
  unfold State.clampOpened
  cases s.sq.step with
  | e0 | e1 => exact refl s
  | e2 | e3 | e4 | e5 | e6 => exact hheld
  | e7 => exact of_frame (by simp)

theorem afterRise_keepsProtection (s : State) (pass : Bool) : KeepsProtection s (s.afterRise pass) := by
  unfold State.afterRise
  split
  · exact of_frame (by simp)
  · split
    · exact KeepsProtection.trans (of_frame (by simp)) (enterE5_keepsProtection _)
    · exact of_frame (by simp)

theorem takeZero_keepsProtection (s : State) : KeepsProtection s s.takeZero := by
  have hm (m : Measure) : KeepsProtection s (s.setMu m) := of_frame (by simp)
  unfold State.takeZero
  dsimp only
  split
  · exact (hm _).trans (reportEvent _ .flowZero)
  · exact hm _

theorem endZero_keepsProtection (s : State) : KeepsProtection s s.endZero :=
  (takeZero_keepsProtection s).trans (of_frame (by simp [State.endZero]))

theorem sweepGivenUp_keepsProtection (s : State) : KeepsProtection s s.sweepGivenUp :=
  KeepsProtection.trans (of_frame (by simp)) (addCode _ (by decide))

/-! ### The record store and the supply -/

theorem evalFull_keepsProtection (s : State) : KeepsProtection s s.evalFull := by
  have hr (r : Store) : KeepsProtection s (s.setRs r) := of_frame (by simp)
  simp only [State.evalFull]
  split
  · exact (hr _).trans (addCode _ (by decide))
  · exact hr _

theorem commitDone_keepsProtection (s : State) (c : Commit) : KeepsProtection s (s.commitDone c) :=
  KeepsProtection.trans (of_frame (by simp)) (evalFull_keepsProtection _)

theorem commitFailed_keepsProtection (s : State) (c : Commit) (bs : List Byte) :
    KeepsProtection s (s.commitFailed c bs) :=
  KeepsProtection.trans (of_frame (by simp)) (addCode _ (by decide))

theorem warnSupply_keepsProtection (s : State) : KeepsProtection s s.warnSupply := by
  have hr (t : State) (r : Store) : KeepsProtection t (t.setRs r) := of_frame (by simp)
  have habort (t : State) : KeepsProtection t t.abortCommit := by
    unfold State.abortCommit
    split
    · exact (hr t _).trans (addCode _ (by decide))
    · exact refl t
  exact ((hr s { s.rs with supplyLow := true }).trans (habort _)).trans (of_frame (by simp [State.warnSupply]))

/-! ### The trip sources and a sample -/

/-- A clear takes the lowest code out, with its source if it is one of a source (R154). -/
theorem clearLowest_keepsProtection (s : State) : KeepsProtection s s.clearLowest := by
  unfold State.clearLowest
  split
  · exact refl s
  · split
    · exact refl s
    · split
      · exact recover s _
      · exact removeCode s ‹_›

theorem recoverRun_keepsProtection (l : List TripSource) (s : State) : KeepsProtection s (recoverRun l s) := by
  induction l generalizing s with
  | nil => exact refl s
  | cons t ts ih =>
    have hstep : KeepsProtection s (if (s.source t).st = .recovering then s.recover t else s) :=
      keepsProtection_carried.guard fun _ => recover s t
    exact hstep.trans (ih _)

theorem takeSample_keepsProtection (s : State) (x : Sample) : KeepsProtection s (s.takeSample x) := by
  cases hw : s.working with
  | true =>
    have hrule : (s.takeSample x).driveRule = s.driveRule := State.driveRule_congr (by simp) (by simp) (by simp)
    refine of_codes (by simp) (fun u => ?_) fun h => by simpa [hrule] using h
    rw [takeSample_source x hw]
    exact Source.sample_normal_iff ..
  | false => exact of_frame (by simp [State.takeSample, State.samplePu, hw])

theorem sampleTaken_keepsProtection (s : State) (x : Sample) : KeepsProtection s (s.sampleTaken x) :=
  (takeSample_keepsProtection s x).trans (keepsProtection_carried.guard fun _ => recoverRun_keepsProtection _ _)

/-- The first sample enters JOINING, where no DE is set (R144, R175). -/
theorem firstSample_keepsProtection {s : State} (x : Sample) (h : s.phase = .starting) :
    KeepsProtection s (s.firstSample x) := by
  have hjoin : KeepsProtection s (s.setBoot { s.boot with phase := .joining }) :=
    of_outside (by simp [State.inRun, h]) rfl rfl
  refine (hjoin.trans (sampleTaken_keepsProtection _ x)).trans (of_outside ?_ ?_ ?_)
  · simp [State.inRun, State.phase]
  · simp [State.inRun, State.phase, State.firstSample, State.enterJoining]
  · simp [State.firstSample, State.sampleTaken, State.enterJoining]

/-! ### Start -/

/-- What follows SVC in STARTING loads the configuration and enters no RUN (R175, R176). -/
theorem afterStrap_keepsProtection {s : State} (h : s.phase = .starting) : KeepsProtection s s.afterStrap := by
  have hs : s.inRun = false := by simp [State.inRun, h]
  unfold State.afterStrap
  split
  · exact of_outside hs rfl (by simp [State.enterService])
  · split
    · have hload : KeepsProtection s s.loadConfig.armContinuous.raiseCounter :=
        of_outside hs (by simpa [State.inRun, State.phase] using hs) (by simp)
      refine hload.trans ?_
      have hscan (t : State) : KeepsProtection t t.scan := by
        unfold State.scan
        refine KeepsProtection.trans ?_ (evalFull_keepsProtection _)
        split <;> exact of_frame (by simp)
      exact hscan _
    · exact KeepsProtection.trans (of_outside hs rfl (by simp)) (addCode _ (by decide))

theorem starting_keepsProtection (s : State) (cause : StartCause) :
    KeepsProtection s (s.emptied .starting cause).checkFactory := by
  have hempty (b : Boot) (hb : b.phase = .starting) : KeepsProtection s ((s.emptied .starting cause).setBoot b) :=
    of_empty rfl (by simp [State.inRun, State.phase, hb])
  unfold State.checkFactory
  dsimp only
  split
  · exact hempty _ rfl
  · exact (hempty _ rfl).trans (addCode _ (by decide))

/-- The entry of RUN evaluates DE (R144). -/
theorem enterRun_keepsProtection (s : State) : KeepsProtection s s.enterRun := by
  have hrun : KeepsProtection s (s.setBoot { s.boot with phase := .run, joining := Timer.stopped }).evalDe :=
    of_codes (by simp) (fun x => by rw [State.source_congr (s := s) (by simp)]) fun _ => rfl
  refine hrun.trans (of_frame ?_)
  simp only [State.enterRun]
  split <;> simp

theorem tick_keepsProtection (s : State) : KeepsProtection s s.tick := by
  unfold State.tick
  split
  · exact refl s
  · refine of_codes rfl (fun x => ?_) id
    simp [State.source, Protection.tick, Source.tick]

/-! ### Every command, and every step -/

/-- Every command keeps both rules. -/
theorem exec_keepsProtection {c : Instr} {s t : State} (h : exec c s = .next t) : KeepsProtection s t := by
  have hk : Carried KeepsProtection := keepsProtection_carried
  cases c with
  | start cause =>
    cases h
    exact of_empty rfl rfl
  | starting =>
    cases h
    exact hk.guard fun _ => starting_keepsProtection s _
  | supplyWarning d =>
    cases h
    split
    · exact of_frame (by simp)
    · dsimp only
      split
      · exact of_empty rfl rfl
      · refine hk.guard fun hf => hk.concluded ?_
        simpa [hf] using warnSupply_keepsProtection s
  | joiningEnd =>
    cases h
    exact hk.guard fun _ => hk.concluded (enterRun_keepsProtection s)
  | inputFilterFill pin =>
    cases h
    refine hk.guard fun _ => ?_
    have hfill : KeepsProtection s (s.setFilter pin (s.filter pin).fill) := of_frame (by simp)
    split
    · rename_i hstart
      have hphase : (s.setFilter pin (s.filter pin).fill).phase = .starting := by simpa [State.phase] using hstart.2
      exact hfill.trans (afterStrap_keepsProtection hphase)
    · exact hk.concluded hfill
  | stationSample x =>
    cases h
    split
    · exact hk.refl s
    · split
      · rename_i hstart
        exact firstSample_keepsProtection x hstart.1
      · have ht : KeepsProtection s (s.sampleTaken x) := sampleTaken_keepsProtection s x
        dsimp only
        split
        · exact hk.concluded ht
        · exact ht
  | valveDiscrepancy r =>
    cases h
    refine hk.guard fun _ => ?_
    have hm : KeepsProtection s (s.markDiscrepancy r) := of_frame (by simp)
    dsimp only
    split
    · have hs (cfg : SourceSetting) (ms : Nat) :=
        hm.trans (setSource _ (valveSource r) (Source.sample_normal_iff _ cfg ms true))
      refine hk.concluded ?_
      split
      · exact (hs _ _).trans (trip _ _ _)
      · exact hs _ _
    · exact hm
  | tripFilterMet x =>
    cases h
    exact hk.guard fun _ => hk.concluded (trip s x _)
  | recoveryTimerExpiry x =>
    cases h
    exact hk.guard fun _ => hk.concluded (recover s x)
  | faultClear f =>
    cases h
    exact hk.hearKind _ _ _ fun t => hk.concluded (clearLowest_keepsProtection t)
  | faultClearButton =>
    cases h
    exact hk.guard fun _ => hk.concluded (KeepsProtection.trans (of_frame (by simp)) (clearLowest_keepsProtection _))
  | clcFall =>
    cases h
    exact hk.guard fun _ => hk.concluded (KeepsProtection.trans (of_frame (by simp)) (clampOpened_keepsProtection _))
  | clampTimeout =>
    cases h
    exact hk.guard fun _ => hk.concluded (clampFailed_keepsProtection s)
  | zeroWindowComplete =>
    cases h
    refine hk.guard fun _ => hk.concluded ?_
    split
    · exact (takeZero_keepsProtection s).trans (of_frame (by simp))
    · exact endZero_keepsProtection s
  | hcdRise =>
    cases h
    refine hk.guard fun _ => hk.concluded ?_
    have he : KeepsProtection s (s.edge .in3) := of_frame (by simp)
    split
    · exact he.trans (routeChange_keepsProtection _)
    · exact he
  | classifyTimeExpiry =>
    cases h
    exact hk.guard fun _ => hk.concluded (endClassify_keepsProtection s)
  | holdTimeExpiry =>
    cases h
    refine hk.guard fun _ => ?_
    split
    · exact hk.concluded (afterRise_keepsProtection s _)
    · exact hk.refl s
  | peerStale a =>
    cases h
    exact hk.guard fun _ => hk.concluded (makeStale_keepsProtection s a)
  | purgeWaitExpiry =>
    cases h
    exact hk.guard fun _ => hk.concluded (callToVent_keepsProtection s)
  | sweepWaitExpiry =>
    cases h
    have hready (u : State) : KeepsProtection u u.enterReady := of_frame (by simp)
    exact hk.guard fun _ => hk.concluded ((sweepGivenUp_keepsProtection s).trans (hready _))
  | answerTimerExpiry =>
    cases h
    exact hk.guard fun _ => hk.concluded (offerUnanswered_keepsProtection s)
  | ilkFall | ilkRise | pulldownReached | pulldownTimeout | starvationPromotion | releaseTimeExpiry | headerHigh
  | ownHazardChange | oxygenHigh | oxygenUnderRunLimit | inertReached | purgeClearMet | carryOverExpiry k | srfChange
  | sweepTimerExpiry | sweepRetryExpiry | holdOffExpiry =>
    cases h
    exact hk.guard fun _ => hk.concluded (of_frame (by simp))
  | pStart | statusTimerExpiry | serviceStatusExpiry | serviceIdleTimerExpiry | telegramDiscard r =>
    cases h
    exact hk.guard fun _ => of_frame (by simp)
  | startEdge | clcRise | quiet =>
    cases h
    refine hk.guard fun _ => ?_
    split
    · exact hk.concluded (of_frame (by simp))
    · exact of_frame (by simp)
  | headerRecovered | purgeNeeded | drcFall =>
    cases h
    refine hk.guard fun _ => hk.concluded ?_
    split <;> exact of_frame (by simp)
  | drcRise =>
    cases h
    refine hk.guard fun _ => ?_
    dsimp only
    split
    · exact KeepsProtection.trans (of_frame (by simp)) (concludeIf_keepsProtection _ _ _)
    · exact hk.concluded (of_frame (by simp))
  | doorTimerExpiry =>
    cases h
    exact hk.guard fun _ => KeepsProtection.trans (of_frame (by simp)) (concludeIf_keepsProtection _ _ _)
  | lineIdle | lineBusy =>
    cases h
    split <;> exact of_frame (by simp)
  | transmitStart bits =>
    cases h
    split
    · exact hk.refl s
    · exact hk.guard fun _ => of_frame (by simp)
  | collision =>
    cases h
    split
    · exact hk.refl s
    · have hl (l : Line) : KeepsProtection s (s.setLi l) := of_frame (by simp)
      refine hk.concluded ?_
      split
      · exact (hl _).trans (addCode _ (by decide))
      · exact hl _
  | transmitComplete =>
    cases h
    split
    · exact hk.refl s
    · refine hk.concluded (KeepsProtection.trans ?_ (ownHeard_keepsProtection _ _))
      exact KeepsProtection.trans (of_frame (by simp)) (removeCode _ (c := 33) (by decide))
  | status f =>
    cases h
    refine hk.hear _ _ fun t => ?_
    split
    · exact hk.concluded (of_frame (by simp))
    · exact hk.downstream t s
  | kindCodeNotInTable code f =>
    cases h
    split
    · exact hk.refl s
    · exact hk.hear _ _ fun t => hk.downstream t s
  | claim f =>
    cases h
    refine hk.hearKind _ _ _ fun t => ?_
    split
    · exact hk.concluded (of_frame (by simp))
    · exact hk.refl t
  | release f | purgeEnd f =>
    cases h
    exact hk.hearKind _ _ _ fun t => hk.concluded (of_frame (by simp))
  | purgeCall f =>
    cases h
    exact hk.hearKind _ _ _ fun t => hk.concluded ((yieldCall_keepsProtection t).trans (of_frame (by simp)))
  | purgeClear f =>
    cases h
    exact hk.hearKind _ _ _ fun t => hk.concluded (dropAwaited_keepsProtection t _)
  | certificate f | readData f | checkResult f | configAnswer f | read f | collect f | checkRange f =>
    cases h
    exact hk.hearKind _ _ _ fun t => of_frame (by simp)
  | readNext f =>
    cases h
    exact hk.hearKind _ _ _ fun t => by split <;> exact of_frame (by simp)
  | announce f =>
    cases h
    exact hk.hearKind _ _ _ fun t => hk.guard fun _ => hk.concluded (takeAnnounce_keepsProtection t _)
  | closeAccount f | abandonAccount f | offer f | accept f | refuse f =>
    cases h
    exact hk.hearKind _ _ _ fun t => hk.guard fun _ => hk.concluded (of_frame (by simp))
  | key f | configWrite f | configCommit f =>
    cases h
    split
    · exact hk.hearService _ _ _ fun t => of_frame (by simp)
    · exact hk.hearKind _ _ _ fun t => hk.refl t
  | configCommitVerify ws =>
    cases h
    split <;> exact of_frame (by simp)
  | commitBegin =>
    cases h
    split
    · exact hk.refl s
    · split
      · exact hk.refl s
      · exact hk.guard fun _ => of_frame (by simp)
  | commitVerify bs =>
    cases h
    split
    · exact hk.refl s
    · refine hk.concluded ?_
      split
      · exact commitDone_keepsProtection s _
      · exact commitFailed_keepsProtection s _ _
  | collectMark =>
    cases h
    split
    · exact hk.refl s
    · refine hk.guard fun _ => hk.concluded ?_
      exact KeepsProtection.trans (of_frame (by simp)) (evalFull_keepsProtection _)
  | supplyWarningEnd d =>
    cases h
    split
    · exact of_frame (by simp)
    · exact hk.guard fun _ => hk.concluded (of_frame (by simp))

/-- A step is a command or a millisecond, and either keeps both rules. -/
theorem step_keepsProtection {s t : State} (h : step s = .next t) : KeepsProtection s t := by
  unfold step at h
  split at h
  · cases h
    exact tick_keepsProtection s
  · exact KeepsProtection.trans (of_frame (by simp)) (exec_keepsProtection h)

/-- Settles O11: every step adds defined codes in their place and evaluates DE with each change of the set, and DE is
clear outside RUN. -/
theorem stepKeepsDriveEnableRule : Obligations.StepKeepsDriveEnableRule :=
  fun _ _ hs h => (step_keepsProtection h).drive hs

/-- Settles O12: a source leaves NORMAL with its code's entry and returns with its removal, and no other code is one of
a source. -/
theorem stepKeepsTripStatesMatchingCodes : Obligations.StepKeepsTripStatesMatchingCodes :=
  fun _ _ hs h => (step_keepsProtection h).sources hs

end Sys2Proof.Machine
end

section
/-! PROOF. The trip sources at a station sample (O24): each is sampled by its table, a recovery of time 0 ends within
the sample, and the condition of each is that of its row. -/

namespace Sys2Proof.Machine

/-! ### Recoveries within the sample -/

/-- A source once its recovery has ended (R149). -/
def Source.recovered (x : Source) : Source := { x with st := .normal, run := 0, recovery := Timer.stopped }

/-- A source at the end of its sample: with a recovery time of 0 a recovery ends there (R150). -/
def Source.settled (x : Source) (recoveryTime : Nat) : Source :=
  if recoveryTime = 0 ∧ x.st = .recovering then x.recovered else x

/-- Recoveries at one moment end those of the RECOVERING sources they reach, and touch no other source. -/
theorem recoverRun_source (l : List TripSource) (s : State) (u : TripSource) :
    (recoverRun l s).source u =
      if u ∈ l ∧ (s.source u).st = .recovering then (s.source u).recovered else s.source u := by
  induction l generalizing s with
  | nil => simp [recoverRun]
  | cons t ts ih =>
    have hstep : recoverRun (t :: ts) s =
        recoverRun ts (if (s.source t).st = .recovering then s.recover t else s) := rfl
    rw [hstep, ih]
    by_cases hu : u = t
    · subst hu
      by_cases hrec : (s.source u).st = .recovering <;> simp [hrec, Source.recovered]
    · have hsame : (if (s.source t).st = .recovering then s.recover t else s).source u = s.source u := by
        split
        · exact State.recover_source_ne s hu
        · rfl
      simp [hsame, hu]

/-- They bring no code into the set, and take out those of the sources whose recovery ends. -/
theorem recoverRun_codes (l : List TripSource) {s : State} {u : TripSource}
    (h : u.code ∉ s.pu.codes ∨ u ∈ l ∧ (s.source u).st = .recovering) :
    u.code ∉ (recoverRun l s).pu.codes := by
  induction l generalizing s with
  | nil => simpa [recoverRun] using h
  | cons t ts ih =>
    refine ih (s := if (s.source t).st = .recovering then s.recover t else s) ?_
    by_cases hu : u = t
    · subst hu
      left
      split
      · simp [State.mem_recover_codes]
      · rename_i hrec
        simpa [hrec] using h
    · split
      · rw [State.recover_source_ne s hu, State.mem_recover_codes]
        exact h.imp (fun hc hin => hc hin.2) (by simp [hu])
      · simpa [hu] using h

/-! ### A source over the step of a sample -/

section
variable {s : State} (x : Sample) (hw : s.working = true) (u : TripSource)

/-- The condition of a source's row at the sample (R31, R147). -/
def State.conditionSeen (s : State) (x : Sample) (u : TripSource) : Bool :=
  conditionAt s.cfg s.isFoam (s.sampleMu x).ch (s.sampleMu x).presentA (s.sampleMu x).presentB u

/-- A source as its table leaves it at the sample, before recoveries end (R149). -/
def State.sourceSampled (s : State) (x : Sample) (u : TripSource) : Source :=
  (s.source u).sample (s.cfg.source u) (1000 * s.cfg.recoveryTime) (s.conditionSeen x u)

include hw

theorem sampled_source : (s.sampled x).source u = (s.sourceSampled x u).settled s.cfg.recoveryTime := by
  have htable : (s.takeSample x).source u = s.sourceSampled x u := takeSample_source x hw u
  have htaken : (s.sampled x).source u = (s.sampleTaken x).source u := by
    obtain h | h := s.sampled_cases x
    · rw [h]
    · rw [h, State.conclude_source]
  rw [htaken, State.sampleTaken, Source.settled]
  by_cases hr : s.cfg.recoveryTime = 0
  · have hrun : (s.takeSample x).recoverAtOnce = recoverRun TripSource.all (s.takeSample x) :=
      if_pos (by simpa using hr)
    simp [hrun, recoverRun_source, mem_all_sources, htable, hr]
  · rw [State.recoverAtOnce_timed (by simpa using hr), htable]
    simp [hr]

/-- A recovery that ends at the sample takes its code out of the set (R149). -/
theorem sampled_code (hr : s.cfg.recoveryTime = 0) (hrec : (s.sourceSampled x u).st = .recovering) :
    u.code ∉ (s.sampled x).pu.codes := by
  have htable : (s.takeSample x).source u = s.sourceSampled x u := takeSample_source x hw u
  have hrun : s.sampleTaken x = recoverRun TripSource.all (s.takeSample x) := if_pos (by simpa using hr)
  have hout : u.code ∉ (s.sampleTaken x).pu.codes :=
    hrun ▸ recoverRun_codes TripSource.all (.inr ⟨mem_all_sources u, by rw [htable, hrec]⟩)
  obtain h | h := s.sampled_cases x
  · rwa [h]
  · rwa [h, ((s.sampleTaken x).conclude_pu s).codes _ (code_not_reaction u)]

end

/-! ### The table of R149 -/

section
variable {a : Source} (cfg : SourceSetting) (ms : Nat)

theorem Source.sample_present (a : Source) (b : Bool) : (a.sample cfg ms b).present = b := by
  cases h : a.st <;> cases b <;> simp [Source.sample, h]
  split <;> rfl

theorem Source.sample_normal_absent (h : a.st = .normal) :
    a.sample cfg ms false = { a with run := 0, present := false } := by simp [Source.sample, h]

theorem Source.sample_tripped_present (h : a.st = .tripped) : a.sample cfg ms true = { a with present := true } := by
  simp [Source.sample, h]

theorem Source.sample_tripped_held (h : a.st = .tripped) (hm : cfg.mode ≠ .auto) :
    a.sample cfg ms false = { a with present := false } := by simp [Source.sample, h, hm]

theorem Source.sample_tripped_auto (h : a.st = .tripped) (hm : cfg.mode = .auto) :
    a.sample cfg ms false = ⟨.recovering, 0, Timer.start ms, false⟩ := by simp [Source.sample, h, hm]

theorem Source.sample_recovering_present (h : a.st = .recovering) :
    a.sample cfg ms true = ⟨.tripped, 0, Timer.stopped, true⟩ := by simp [Source.sample, h]

theorem Source.sample_recovering_absent (h : a.st = .recovering) :
    a.sample cfg ms false = { a with present := false } := by simp [Source.sample, h]

end

section
variable {y : Source} {n : Nat}

@[simp] theorem Source.settled_present (y : Source) (n : Nat) : (y.settled n).present = y.present := by
  unfold Source.settled
  split <;> rfl

theorem Source.settled_stays (h : n ≠ 0 ∨ y.st ≠ .recovering) : y.settled n = y :=
  if_neg fun ⟨hn, hrec⟩ => h.elim (· hn) (· hrec)

theorem Source.settled_ends (h : y.st = .recovering) : y.settled 0 = y.recovered := if_pos ⟨rfl, h⟩

end

/-! ### The conditions and the discrepancies -/

/-- The condition of a row reads the values and discrepancies that the step of the sample leaves. -/
theorem conditionSeen_eq (s : State) (x : Sample) (u : TripSource) : s.conditionSeen x u =
    conditionAt s.cfg s.isFoam (s.sampled x).mu.ch (s.sampled x).mu.presentA (s.sampled x).mu.presentB u := by
  obtain h | h := s.sampled_cases x <;> simp [State.conditionSeen, h]

/-- The discrepancies of the route valves over the step of a sample (R36). -/
theorem sampled_discrepancies (s : State) (x : Sample) :
    (s.sampled x).mu.discA = discrepancy s.valveA ((s.sampled x).level .vaf) s.mu.discA
    ∧ (s.sampled x).mu.discB = discrepancy s.valveB ((s.sampled x).level .vbf) s.mu.discB
    ∧ (s.sampled x).mu.presentA = (s.mu.presentA && decide (100 < (s.sampled x).mu.discA))
    ∧ (s.sampled x).mu.presentB = (s.mu.presentB && decide (100 < (s.sampled x).mu.discB)) := by
  have hmu : (s.sampled x).mu.discA = (s.sampleMu x).discA ∧ (s.sampled x).mu.discB = (s.sampleMu x).discB
      ∧ (s.sampled x).mu.presentA = (s.sampleMu x).presentA
      ∧ (s.sampled x).mu.presentB = (s.sampleMu x).presentB := by
    obtain h | h := s.sampled_cases x <;> simp [h]
  obtain ⟨hdA, hdB, hpA, hpB⟩ := hmu
  have hlevel (p : Pin) : (s.sampled x).level p = ((s.sampleMu x).filters.get p).level := by
    obtain ⟨-, -, -, -, -, hfilters⟩ := sampled_frame x s
    rw [State.level, State.filter, hfilters]
  rw [hlevel, hlevel, hdA, hdB, hpA, hpB]
  unfold State.sampleMu
  dsimp only
  split
  · exact ⟨rfl, rfl, rfl, rfl⟩
  · split <;> exact ⟨rfl, rfl, rfl, rfl⟩

/-! ### The obligation -/

/-- Settles O24: at the end of the step a source is as its table leaves it, its recovery ended where the recovery time
is 0, and only then its code is gone. -/
theorem sampleMovesTripSources : Obligations.SampleMovesTripSources := by
  intro s x u hw
  refine ⟨s.sampled x, exec_stationSample_working x hw, ?_⟩
  intro c foam differs present a b w
  have hpresent : present = s.conditionSeen x u := by
    rw [conditionSeen_eq, Bool.eq_iff_iff]
    cases u <;> simp [present, c, foam, conditionAt, Settings.hasSource, overCode, ambient, State.isFoam, or_assoc]
  have hb : b = (a.sample (s.cfg.source u) (1000 * s.cfg.recoveryTime) present).settled s.cfg.recoveryTime :=
    hpresent ▸ sampled_source x hw u
  have hcode : s.cfg.recoveryTime = 0 →
      (a.sample (s.cfg.source u) (1000 * s.cfg.recoveryTime) present).st = .recovering →
      u.code ∉ (s.sampled x).pu.codes := hpresent ▸ sampled_code x hw u
  obtain ⟨hdA, hdB, hpA, hpB⟩ := sampled_discrepancies s x
  refine ⟨hdA, hdB, hpA, hpB, fun hst hp => ?_, fun hst hp => ?_, fun hst hp => ?_, fun hst hp hm => ?_,
    fun hst hp hm => ⟨fun hr => ?_, fun hr => ?_⟩, fun hst hp => ?_,
    fun hst hp => ⟨fun hr => ?_, fun hr => ?_⟩, ?_⟩
  · rw [hb, hp, Source.sample_normal_present _ _ hst, Source.settled_stays (.inr (by simp [hst]))]
    exact ⟨hst, rfl⟩
  · rw [hb, hp, Source.sample_normal_absent _ _ hst, Source.settled_stays (.inr (by simp [hst]))]
    exact ⟨hst, rfl⟩
  · rw [hb, hp, Source.sample_tripped_present _ _ hst, Source.settled_stays (.inr (by simp [hst]))]
    exact hst
  · rw [hb, hp, Source.sample_tripped_held _ _ hst hm, Source.settled_stays (.inr (by simp [hst]))]
    exact hst
  · rw [hb, hp, Source.sample_tripped_auto _ _ hst hm, Source.settled_stays (.inl hr)]
    exact ⟨rfl, rfl⟩
  · have hsample := Source.sample_tripped_auto (s.cfg.source u) (1000 * s.cfg.recoveryTime) hst hm
    rw [hp, hsample] at hcode
    rw [hb, hp, hsample, hr, Source.settled_ends rfl]
    exact ⟨rfl, hcode hr rfl⟩
  · rw [hb, hp, Source.sample_recovering_present _ _ hst, Source.settled_stays (.inr (by simp))]
    exact ⟨rfl, rfl⟩
  · rw [hb, hp, Source.sample_recovering_absent _ _ hst, Source.settled_stays (.inl hr)]
    exact ⟨hst, rfl⟩
  · have hsample := Source.sample_recovering_absent (s.cfg.source u) (1000 * s.cfg.recoveryTime) hst
    rw [hp, hsample] at hcode
    rw [hb, hp, hsample, hr, Source.settled_ends (y := { a with present := false }) hst]
    exact ⟨rfl, rfl, hcode hr hst⟩
  · rw [hb, Source.settled_present, Source.sample_present]

end Sys2Proof.Machine
end

section
/-! PROOF. The two clears (O27): what a clear makes of the lowest code, and the states in which SQ raises no code at the
end of its step. -/

namespace Sys2Proof.Machine

/-! ### The end of a step that raises no code -/

/-- No step of the sequence and no purge path stands from which SQ's reaction raises a code: no E3 without a classify
time, no seated E4, no own purge path (R57, R62, R93). -/
def State.still (s : State) : Prop :=
  (s.isFoam = false → (s.sq.step = .e3 → s.cfg.classifyTime ≠ 0) ∧ (s.sq.step = .e4 → s.ownSeated = false))
  ∧ (s.isFoam = true → s.ownPurgePath = false)

theorem State.still_congr {s t : State}
    (h : t.boot = s.boot ∧ t.cfg = s.cfg ∧ t.ms = s.ms ∧ t.sq = s.sq ∧ t.ch = s.ch) : t.still ↔ s.still := by
  obtain ⟨hb, hc, hm, hq, hch⟩ := h
  simp [State.still, State.isFoam, State.ownPurgePath, State.ownSeated_congr hm hb, hc, hq, hch]

theorem conclude_codes_of_still {s : State} (h : s.still) (old : State) : (s.conclude old).pu.codes = s.pu.codes := by
  obtain ⟨extraction, foam⟩ := h
  cases hf : s.isFoam with
  | false =>
    obtain ⟨classify, seat⟩ := extraction hf
    have hstays : s.staysInStep :=
      ⟨fun ⟨h4, hs⟩ => by simp [seat h4] at hs, fun ⟨h3, hc, _⟩ => classify h3 hc⟩
    obtain ⟨-, -, hpu, -⟩ := State.conclude_stays_frame hf hstays old
    rw [hpu]
  | true =>
    have hvents : ¬s.vents := fun ⟨hst, hpath, _⟩ => by simpa [State.ownPurgePath, hst, hpath] using foam hf
    cases hp : s.ch.pending with
    | false =>
      obtain ⟨-, -, hcodes⟩ := chamberMoves_keep_path hvents 6
      obtain ⟨-, -, hpu, -⟩ := State.concludeIf_rest hf hp rfl false old
      rw [State.conclude, hpu, hcodes]
    | true => simp [State.conclude, State.concludeIf, State.settle, hf, State.settleChamber, hp]

/-- A code outside the reaction's stands over the end of a step, and so does every code where SQ raises none. -/
theorem mem_conclude_codes {s : State} {a : Nat} (h : a ∉ reactionCodes ∨ s.still) (old : State) :
    a ∈ (s.conclude old).pu.codes ↔ a ∈ s.pu.codes := by
  obtain h | h := h
  · exact (s.conclude_pu old).codes a h
  · rw [conclude_codes_of_still h]

/-! ### The clear of the lowest code -/

section
variable {s : State} {c : Nat} {rest : List Nat} (hc : s.pu.codes = c :: rest)
include hc

/-- A fatal code, or one whose condition is present, stays (R154). -/
theorem clearLowest_stays (h : 64 ≤ c ∨ s.conditionPresent c = true) : s.clearLowest = s := by
  have hstays : (isFatal c || s.conditionPresent c) = true := by simpa [isFatal] using h
  simp only [State.clearLowest, hc, if_pos hstays]

/-- The code of a trip source leaves with the source's recovery (R149, R154). -/
theorem clearLowest_source (hn : c < 64) (ha : s.conditionPresent c = false) {x : TripSource} (hx : x.code = c) :
    s.clearLowest = s.recover x := by
  subst hx
  simp [State.clearLowest, hc, isFatal, ha, ofCode_code, Nat.not_le.mpr hn]

/-- Any other leaves alone. -/
theorem clearLowest_plain (hn : c < 64) (ha : s.conditionPresent c = false) (hx : TripSource.ofCode c = none) :
    s.clearLowest = s.removeCode c := by
  simp [State.clearLowest, hc, isFatal, ha, hx, Nat.not_le.mpr hn]

/-- What a clear that takes effect leaves at PU (R154). -/
theorem clearLowest_clears (hn : c < 64) (ha : s.conditionPresent c = false) :
    (∀ a, a ∈ s.clearLowest.pu.codes ↔ a ≠ c ∧ a ∈ s.pu.codes)
    ∧ (∀ x : TripSource, x.code = c →
        (s.clearLowest.source x).st = .normal ∧ (s.clearLowest.source x).recovery = Timer.stopped)
    ∧ s.clearLowest.pu.de = s.clearLowest.driveRule := by
  cases hx : TripSource.ofCode c with
  | some x =>
    have hcode : x.code = c := code_of_ofCode hx
    rw [clearLowest_source hc hn ha hcode]
    refine ⟨fun a => ?_, fun y hy => ?_, rfl⟩
    · rw [State.mem_recover_codes, hcode]
    · obtain rfl : y = x := code_eq_iff.mp (hy.trans hcode.symm)
      simp
  | none =>
    rw [clearLowest_plain hc hn ha hx]
    exact ⟨fun a => by simp [and_comm], fun y hy => absurd hy (code_ne_of_ofCode hx y), rfl⟩

/-- A clear with the end of its step: the lowest code stays or has left, and so has its source's trip. -/
theorem conclude_clearLowest (old : State) :
    (64 ≤ c ∨ s.conditionPresent c = true → ∀ a, a ∉ [6, 7, 25] ∨ s.still →
      (a ∈ (s.clearLowest.conclude old).pu.codes ↔ a ∈ s.pu.codes))
    ∧ (c < 64 → s.conditionPresent c = false →
      (∀ a, a ∉ [6, 7, 25] ∨ s.still →
        (a ∈ (s.clearLowest.conclude old).pu.codes ↔ a ≠ c ∧ a ∈ s.pu.codes))
      ∧ (∀ x : TripSource, x.code = c → ((s.clearLowest.conclude old).source x).st = .normal
        ∧ ((s.clearLowest.conclude old).source x).recovery = Timer.stopped)
      ∧ (s.clearLowest.conclude old).pu.de = (s.clearLowest.conclude old).driveRule) := by
  have hstill : s.clearLowest.still ↔ s.still := State.still_congr (by simp)
  refine ⟨fun h a ha => ?_, fun hn hp => ?_⟩
  · rw [mem_conclude_codes (ha.imp_right hstill.mpr), clearLowest_stays hc h]
  · obtain ⟨hcodes, hsource, hde⟩ := clearLowest_clears hc hn hp
    refine ⟨fun a ha => ?_, fun x hx => ?_, State.conclude_de hde old⟩
    · rw [mem_conclude_codes (ha.imp_right hstill.mpr), hcodes]
    · rw [State.conclude_source]
      exact hsource x hx

end

/-! ### The two commands -/

/-- The rising edge of FCL clears (R35, R154). -/
theorem exec_faultClearButton {s : State} (hp : s.phase ≠ .hold) (he : (s.filter .fcl).edgeDue true = true) :
    exec .faultClearButton s = .next ((s.edge .fcl).clearLowest.conclude s) := by
  simp only [exec, execFaultClearButton, if_pos (And.intro hp he), State.edge]

/-- FAULT CLEAR clears once LI has handed it on (R154, R158). -/
theorem exec_faultClear {s : State} {f : Frame} (h : s.takes .faultClear f = true) :
    exec (.faultClear f) s = .next ((s.noted f).clearLowest.conclude s) := by
  simp only [exec, execFaultClear, State.hearKind_of_takes h]

/-- Settles O27: either clear acts on the state that the edge or the telegram leaves, in which the codes, their
conditions and what SQ reacts to stand as before. -/
theorem clearRemovesLowestCode : Obligations.ClearRemovesLowestCode := by
  intro s f c rest hc still cleared
  refine ⟨fun hp he => ⟨_, exec_faultClearButton hp he, ?_, ?_⟩, fun h => ⟨_, exec_faultClear h, ?_, ?_⟩⟩
  · have hstill : (s.edge .fcl).still ↔ still := State.still_congr (by simp)
    have hclear := conclude_clearLowest (s := s.edge .fcl) hc s
    rw [hstill] at hclear
    exact hclear
  · exact State.level_conclude_edge he (by simp) s
  · have hstill : (s.noted f).still ↔ still := State.still_congr (by simp)
    have hpu : (s.noted f).pu = s.pu := by simp
    have hclear := conclude_clearLowest (s := s.noted f) (hpu ▸ hc) s
    rw [hstill, hpu] at hclear
    exact hclear
  · simp [State.noted, State.endReception]

end Sys2Proof.Machine
end

section
/-! SUPPORT. The transmit queue: the place a telegram takes, what an enqueueing makes of the queue case by case (R163 to
R166), and the order with its one STATUS that each case keeps (R163, R164). -/

namespace Sys2Proof.Machine

/-! ### The order of the queue -/

/-- A telegram may stand ahead of another: its class is more urgent, or the same and it was first enqueued no later
(R163). -/
def Telegram.precedes (t u : Telegram) : Prop := t.cls < u.cls ∨ (t.cls = u.cls ∧ t.moment ≤ u.moment)

theorem Telegram.precedes.trans {t u v : Telegram} (h : t.precedes u) (k : u.precedes v) : t.precedes v := by
  unfold Telegram.precedes at *
  omega

theorem queueOrdered_iff {q : List Telegram} : queueOrdered q = true ↔ q.Pairwise Telegram.precedes := by
  induction q with
  | nil => simp [queueOrdered]
  | cons t q ih =>
    cases q with
    | nil => simp [queueOrdered]
    | cons u r =>
      have hhead : queueOrdered (t :: u :: r) = true ↔ t.precedes u ∧ queueOrdered (u :: r) = true := by
        simp [queueOrdered, Telegram.precedes]
      rw [hhead, ih, List.pairwise_cons (a := t)]
      refine and_congr_left fun hrest => ⟨fun htu v hv => ?_, fun hall => hall u List.mem_cons_self⟩
      obtain rfl | hv := List.mem_cons.mp hv
      · exact htu
      · exact htu.trans (List.rel_of_pairwise_cons hrest hv)

/-- A queue in its order with at most one STATUS (R163, R164). -/
structure InOrder (q : List Telegram) : Prop where
  sorted : q.Pairwise Telegram.precedes
  oneStatus : (q.filter fun t => t.kind == .status).length ≤ 1

theorem State.lineOk_iff {s : State} : s.lineOk ↔ InOrder s.li.queue := by
  rw [State.lineOk, queueOrdered_iff]
  exact ⟨fun ⟨hs, ho⟩ => ⟨hs, ho⟩, fun ⟨hs, ho⟩ => ⟨hs, ho⟩⟩

theorem InOrder.nil : InOrder [] := ⟨List.Pairwise.nil, by simp⟩

/-- Telegrams that leave the queue disturb no order. -/
theorem InOrder.sublist {q r : List Telegram} (h : InOrder q) (hr : r.Sublist q) : InOrder r :=
  ⟨h.sorted.sublist hr, (hr.filter _).length_le.trans h.oneStatus⟩

/-! ### The place of a telegram -/

/-- `insertTelegram` puts a telegram at the place that R163 gives it. -/
theorem insertTelegram_placedIn (m : Telegram) (q : List Telegram) : m.placedIn q (insertTelegram m q) := by
  induction q with
  | nil => exact ⟨[], [], rfl, rfl, by simp, by simp⟩
  | cons u us ih =>
    unfold insertTelegram
    split
    · rename_i hlt
      exact ⟨[], u :: us, rfl, rfl, by simp, by simpa using hlt⟩
    · rename_i hge
      obtain ⟨front, back, hrest, hq, hfront, hback⟩ := ih
      refine ⟨u :: front, back, by simp [hrest], by simp [hq], fun v hv => ?_, hback⟩
      obtain rfl | hv := List.mem_cons.mp hv
      · omega
      · exact hfront v hv

theorem Telegram.placedIn.perm {m : Telegram} {rest q : List Telegram} (h : m.placedIn rest q) :
    q.Perm (m :: rest) := by
  obtain ⟨front, back, rfl, rfl, -, -⟩ := h
  exact List.perm_middle

theorem Telegram.placedIn.sorted {m : Telegram} {rest q : List Telegram} (h : m.placedIn rest q)
    (hr : rest.Pairwise Telegram.precedes) : q.Pairwise Telegram.precedes := by
  obtain ⟨front, back, rfl, rfl, hfront, hback⟩ := h
  obtain ⟨hf, hb, hfb⟩ := List.pairwise_append.mp hr
  have hbehind : ∀ v ∈ back, m.precedes v := by
    cases back with
    | nil => simp
    | cons u us =>
      have hmu : m.precedes u := (hback u rfl).imp_right fun ⟨hc, hm⟩ => ⟨hc, hm.le⟩
      intro v hv
      obtain rfl | hv := List.mem_cons.mp hv
      · exact hmu
      · exact hmu.trans (List.rel_of_pairwise_cons hb hv)
  refine List.pairwise_append.mpr ⟨hf, List.pairwise_cons.mpr ⟨hbehind, hb⟩, fun u hu v hv => ?_⟩
  obtain rfl | hv := List.mem_cons.mp hv
  · exact hfront u hu
  · exact hfb u hu v hv

/-- A telegram at its place keeps the order, a STATUS if none stands there already. -/
theorem InOrder.placed {m : Telegram} {rest q : List Telegram} (h : InOrder rest) (hp : m.placedIn rest q)
    (hs : m.kind = .status → ∀ u ∈ rest, u.kind ≠ .status) : InOrder q := by
  refine ⟨hp.sorted h.sorted, ?_⟩
  rw [(hp.perm.filter _).length_eq]
  by_cases hk : m.kind = .status
  · have hnone : rest.filter (fun t => t.kind == .status) = [] := by simpa using hs hk
    simp [hk, hnone]
  · simpa [hk] using h.oneStatus

/-! ### The latest moment -/

theorem latestMoment_le_iff {p : Telegram → Bool} {q : List Telegram} {k : Nat} :
    latestMoment p q ≤ k ↔ ∀ v ∈ q, p v = true → v.moment ≤ k := by
  have hfold (l : List Telegram) (n : Nat) :
      l.foldl (fun m t => max m t.moment) n ≤ k ↔ n ≤ k ∧ ∀ v ∈ l, v.moment ≤ k := by
    induction l generalizing n with
    | nil => simp
    | cons v vs ih => simp [ih, and_assoc]
  simp [latestMoment, hfold]

/-- A telegram first enqueued no earlier than any other of its sort gives the latest moment of the sort. -/
theorem latestMoment_eq {p : Telegram → Bool} {q : List Telegram} {u : Telegram} (hu : u ∈ q) (hp : p u = true)
    (hmax : ∀ v ∈ q, p v = true → v.moment ≤ u.moment) : latestMoment p q = u.moment :=
  le_antisymm (latestMoment_le_iff.mpr hmax) (latestMoment_le_iff.mp le_rfl u hu hp)

/-- Among the telegrams of a sort one was first enqueued last. -/
theorem exists_enqueuedLast {p : Telegram → Prop} {q : List Telegram} (h : ∃ u ∈ q, p u) :
    ∃ u ∈ q, p u ∧ ∀ v ∈ q, p v → v.moment ≤ u.moment := by
  classical
  obtain ⟨u, hu, hp⟩ := h
  obtain ⟨w, hw, hmax⟩ := (q.toFinset.filter p).exists_max_image Telegram.moment ⟨u, by simp [hu, hp]⟩
  simp only [Finset.mem_filter, List.mem_toFinset, and_imp] at hw hmax
  obtain ⟨hw, hpw⟩ := hw
  exact ⟨w, hw, hpw, hmax⟩

/-! ### The cases of an enqueueing -/

/-- A telegram takes a place of its own: it replaces no waiting STATUS (R164) and merges with no purge telegram
(R165). -/
def Line.placesNew (l : Line) (t : Telegram) : Prop :=
  (t.kind = .status → ∀ u ∈ l.queue, u.kind ≠ .status)
  ∧ ¬(t.kind = .purgeClear ∧ ∃ u ∈ l.queue, u.kind = .purgeClear ∧ u.dst = t.dst)
  ∧ ¬(t.kind = .purgeEnd ∧ ∃ u ∈ l.queue, u.kind = .purgeCall)

section
variable {l : Line} {t : Telegram}

theorem Line.enqueue_eq (l : Line) (t : Telegram) :
    l.enqueue t = { l with queue := (l.enqueue t).queue, moment := l.moment + 1 } := by
  unfold Line.enqueue
  dsimp only
  (repeat' split) <;> rfl

/-- A STATUS takes the place of the waiting one (R164). -/
theorem Line.enqueue_over {old : Telegram} (hk : t.kind = .status)
    (h : (l.queue.find? fun v => v.kind == .status) = some old) :
    (l.enqueue t).queue =
      insertTelegram (replaceStatus old { t with moment := l.moment })
        (l.queue.filter fun v => v.kind != .status) := by
  simp [Line.enqueue, hk, h]

/-- A PURGE CLEAR stands for a second one to the same caller (R165). -/
theorem Line.enqueue_sameClear (h : t.kind = .purgeClear ∧ ∃ u ∈ l.queue, u.kind = .purgeClear ∧ u.dst = t.dst) :
    (l.enqueue t).queue = l.queue := by
  simp [Line.enqueue, h]

/-- A PURGE END withdraws the PURGE CALL that waits (R165, log 46). -/
theorem Line.enqueue_unsentCall (h : t.kind = .purgeEnd ∧ ∃ u ∈ l.queue, u.kind = .purgeCall) :
    (l.enqueue t).queue = l.queue.filter fun u => u.kind != .purgeCall := by
  simp [Line.enqueue, h]

/-- Any other telegram takes its place if one is free, or what a full queue makes of it (R163, R166). -/
theorem Line.enqueue_new (h : l.placesNew t) : (l.enqueue t).queue =
    if l.room = true then insertTelegram { t with moment := l.moment } l.queue
    else insertFull { t with moment := l.moment } l.queue := by
  obtain ⟨status, clear, call⟩ := h
  have hnone : (if t.kind = .status then l.queue.find? fun v => v.kind == .status else none) = none := by
    split
    · rename_i hk
      simpa using status hk
    · rfl
  have hclear : ¬(t.kind = .purgeClear ∧ (l.queue.any fun v => v.kind == .purgeClear && v.dst == t.dst) = true) := by
    simpa using clear
  have hcall : ¬(t.kind = .purgeEnd ∧ (l.queue.any fun v => v.kind == .purgeCall) = true) := by simpa using call
  simp only [Line.enqueue, hnone, hclear, hcall, if_false]
  split <;> rfl

/-- One of the four cases applies. -/
theorem Line.enqueue_case (l : Line) (t : Telegram) :
    (t.kind = .status ∧ ∃ old, (l.queue.find? fun v => v.kind == .status) = some old)
    ∨ (t.kind = .purgeClear ∧ ∃ u ∈ l.queue, u.kind = .purgeClear ∧ u.dst = t.dst)
    ∨ (t.kind = .purgeEnd ∧ ∃ u ∈ l.queue, u.kind = .purgeCall)
    ∨ l.placesNew t := by
  by_cases hover : t.kind = .status ∧ ∃ u ∈ l.queue, u.kind = .status
  · obtain ⟨hk, u, hu, hus⟩ := hover
    have hfound : (l.queue.find? fun v => v.kind == .status).isSome = true := by
      simpa using ⟨u, hu, hus⟩
    exact .inl ⟨hk, Option.isSome_iff_exists.mp hfound⟩
  · by_cases hclear : t.kind = .purgeClear ∧ ∃ u ∈ l.queue, u.kind = .purgeClear ∧ u.dst = t.dst
    · exact .inr (.inl hclear)
    · by_cases hcall : t.kind = .purgeEnd ∧ ∃ u ∈ l.queue, u.kind = .purgeCall
      · exact .inr (.inr (.inl hcall))
      · exact .inr (.inr (.inr ⟨fun hk u hu hus => hover ⟨hk, u, hu, hus⟩, hclear, hcall⟩))

/-- A full queue stays, or gives up some telegrams for the new one (R166). -/
theorem insertFull_cases (t : Telegram) (q : List Telegram) :
    insertFull t q = q ∨ ∃ p, insertFull t q = insertTelegram t (q.filter p) := by
  unfold insertFull
  split
  · exact .inl rfl
  · right
    (repeat' split) <;> exact ⟨_, rfl⟩

/-- Every enqueueing keeps the order and the one STATUS. -/
theorem InOrder.enqueue (h : InOrder l.queue) (t : Telegram) : InOrder (l.enqueue t).queue := by
  obtain ⟨hk, old, hold⟩ | hclear | hcall | hnew := l.enqueue_case t
  · rw [Line.enqueue_over hk hold]
    exact (h.sublist List.filter_sublist).placed (insertTelegram_placedIn _ _) fun _ => by simp
  · rwa [Line.enqueue_sameClear hclear]
  · rw [Line.enqueue_unsentCall hcall]
    exact h.sublist List.filter_sublist
  · have ⟨hstatus, _, _⟩ := hnew
    have hplaced (p : Telegram → Bool) :
        InOrder (insertTelegram { t with moment := l.moment } (l.queue.filter p)) :=
      (h.sublist List.filter_sublist).placed (insertTelegram_placedIn _ _) fun hk u hu =>
        hstatus hk u (List.mem_filter.mp hu).1
    rw [Line.enqueue_new hnew]
    split
    · simpa using hplaced fun _ => true
    · obtain hstays | ⟨p, hp⟩ := insertFull_cases { t with moment := l.moment } l.queue
      · rwa [hstays]
      · rw [hp]
        exact hplaced p

/-- A telegram other than STATUS, CLAIM and RELEASE and not of class 3 waits until a PURGE END withdraws it (R164 to
R166). -/
theorem Line.mem_enqueue_unless_purgeEnd {m : Telegram} (hm : m ∈ l.queue) (hs : m.kind ≠ .status)
    (hc : m.cls ≠ 3) (ho : m.kind.isOwnClaim = false) (ht : t.kind ≠ .purgeEnd) : m ∈ (l.enqueue t).queue := by
  obtain ⟨hk, old, hold⟩ | hclear | hcall | hnew := l.enqueue_case t
  · exact Line.mem_enqueue_status hk hm hs (.inr ⟨hc, ho⟩)
  · rwa [Line.enqueue_sameClear hclear]
  · exact absurd hcall.1 ht
  · rw [Line.enqueue_new hnew]
    split
    · exact mem_insertTelegram.mpr (.inr hm)
    · exact mem_insertFull_of_mem hm hc ho

end

end Sys2Proof.Machine
end

section
/-! SUPPORT. What the operations of a step do to the transmit queue: all but a PURGE END enqueue telegrams and do
nothing else with it. -/

namespace Sys2Proof.Machine

/-- From one state to the other LI has enqueued telegrams, none of them a PURGE END: the queue keeps its order, a queue
for which the moment of enqueueing has not moved on is the same, and what neither a newer telegram replaces nor a full
queue drops still waits (R163 to R166). -/
structure Enqueues (s t : State) : Prop where
  lineOk : s.lineOk → t.lineOk
  later : s.li.moment ≤ t.li.moment
  still : t.li.moment = s.li.moment → t.li.queue = s.li.queue
  kept : ∀ m ∈ s.li.queue, m.kind ≠ .status → m.cls ≠ 3 → m.kind.isOwnClaim = false → m ∈ t.li.queue

namespace Enqueues

theorem of_queue {s t : State} (hq : t.li.queue = s.li.queue) (hm : t.li.moment = s.li.moment) : Enqueues s t where
  lineOk h := by simpa only [State.lineOk_iff, hq] using h
  later := hm.ge
  still _ := hq
  kept m hmem _ _ _ := by rwa [hq]

/-- An operation that leaves LI alone enqueues nothing. -/
theorem of_li {s t : State} (h : t.li = s.li) : Enqueues s t := of_queue (by rw [h]) (by rw [h])

theorem refl (s : State) : Enqueues s s := of_li rfl

theorem trans {s t u : State} (h : Enqueues s t) (k : Enqueues t u) : Enqueues s u where
  lineOk hs := k.lineOk (h.lineOk hs)
  later := h.later.trans k.later
  still hm := by
    have ht : t.li.moment = s.li.moment := le_antisymm (k.later.trans hm.le) h.later
    rw [k.still (hm.trans ht.symm), h.still ht]
  kept m hm hs hc ho := k.kept m (h.kept m hm hs hc ho) hs hc ho

/-- One telegram enqueued. -/
theorem of_enqueue {s t : State} {m : Telegram} (hk : m.kind ≠ .purgeEnd)
    (hq : t.li.queue = (s.li.enqueue m).queue) (hm : t.li.moment = s.li.moment + 1) : Enqueues s t where
  lineOk h := by
    rw [State.lineOk_iff] at h ⊢
    rw [hq]
    exact h.enqueue m
  later := by omega
  still h := by omega
  kept u hu hs hc ho := by
    rw [hq]
    exact Line.mem_enqueue_unless_purgeEnd hu hs hc ho hk

theorem send (s : State) {k : Kind} (hk : k ≠ .purgeEnd) (dst : Nat) (p : List Byte) : Enqueues s (s.send k dst p) :=
  of_enqueue hk rfl (by simp [State.send])

theorem sendStatus (s : State) : Enqueues s s.sendStatus :=
  of_enqueue (m := { kind := .status, dst := 31, payload := s.statusPayload
                     cls := if s.li.lastHazard.rank < s.pt.ownHazard.rank then 1 else 2 })
    (by simp) rfl (by simp [State.sendStatus])

/-- An operation that leaves LI alone, then one that enqueues. -/
theorem after {s t u : State} (k : Enqueues t u) (h : t.li = s.li) : Enqueues s u := (of_li h).trans k

/-- A condition under which nothing is done. -/
theorem guard {p : Prop} [Decidable p] {s t : State} (h : p → Enqueues s t) : Enqueues s (if p then t else s) := by
  split
  · exact h ‹p›
  · exact refl s

end Enqueues

open Enqueues

/-! ### The own claim, the offers and the STATUS -/

theorem raiseClaim_enqueues (s : State) (r : Route) (c : ClaimClass) : Enqueues s (s.raiseClaim r c) :=
  (send _ (by simp) _ _).after rfl

theorem releaseClaim_enqueues (s : State) : Enqueues s s.releaseClaim := by
  unfold State.releaseClaim
  split
  · exact refl s
  · exact (send _ (by simp) _ _).after rfl

theorem callPurge_enqueues (s : State) : Enqueues s s.callPurge :=
  (send _ (by simp) _ _).after rfl

theorem announceIf_enqueues (s : State) (b : Bool) (old : State) : Enqueues s (s.announceIf b old) :=
  guard fun _ => sendStatus s

theorem tryOffer_enqueues (s : State) : Enqueues s s.tryOffer := by
  refine guard fun _ => ?_
  split
  · exact (send _ (by simp) _ _).after rfl
  · exact refl s

theorem downstreamChange_enqueues (s old : State) : Enqueues s (s.downstreamChange old) := by
  refine guard fun _ => ?_
  have hresumes (p : Prop) [Decidable p] : Enqueues s (if p then s.setQueue (resumeHeld s.ac.queue) else s) :=
    guard fun _ => of_li rfl
  have hends (p : Prop) [Decidable p] (t : State) (o : Offer) : Enqueues t (if p then t.setOffer o else t) :=
    guard fun _ => of_li rfl
  have hoffers (p : Prop) [Decidable p] (t : State) : Enqueues t (if p then t.tryOffer else t) :=
    guard fun _ => tryOffer_enqueues t
  exact ((hresumes _).trans (hends _ _ _)).trans (hoffers _ _)

/-! ### SQ at an EXTRACTION station -/

theorem routeChange_enqueues (s : State) : Enqueues s s.routeChange :=
  (raiseClaim_enqueues _ _ _).after (by simp)

theorem enterE5_enqueues (s : State) : Enqueues s s.enterE5 := by
  have ht : Enqueues s ((s.enterTimed .e5).setPulldown Comparator.disarm) := of_li (by simp)
  exact ht.trans (guard fun _ => routeChange_enqueues _)

theorem enterE7_enqueues (s : State) : Enqueues s s.enterE7 :=
  (releaseClaim_enqueues s).trans (of_li (by simp [State.enterE7]))

theorem endClassify_enqueues (s : State) : Enqueues s s.endClassify := by
  have ha : Enqueues s (s.onActive (QueueEntry.routed s.declaredClass s.sq.detected)) := of_li (by simp)
  have hc : Enqueues _ (if s.declaredClass == .halo && s.sq.detected then
      (s.onActive (QueueEntry.routed s.declaredClass s.sq.detected)).addCode 6
      else s.onActive (QueueEntry.routed s.declaredClass s.sq.detected)) := guard fun _ => of_li (by simp)
  exact (ha.trans hc).trans ((raiseClaim_enqueues _ _ _).after rfl)

theorem settleExtraction_enqueues (s : State) : Enqueues s s.settleExtraction := by
  have starve {t : State} (h : Enqueues s t) : Enqueues s t.settleStarve := h.trans (of_li (by simp))
  have hsq (x : Sequence) : Enqueues s (s.setSq x) := of_li rfl
  have hseat : Enqueues s (s.setSq { s.sq with starve := Timer.stopped }).enterE5 := (enterE5_enqueues _).after rfl
  unfold State.settleExtraction
  apply starve
  split
  · exact hsq _
  · exact of_li (by simp)
  · exact (hsq _).trans (guard fun _ => endClassify_enqueues _)
  · exact guard fun _ => hseat.trans (of_li (by simp))
  · exact of_li (by simp)
  · exact of_li (by simp)
  · exact refl s
  · exact refl s

/-! ### SQ at a FOAM station -/

theorem leaveState_enqueues (s : State) : Enqueues s s.leaveState := by
  unfold State.leaveState
  split
  · exact of_li (by simp)
  · split
    · exact refl s
    · exact of_li rfl
  · exact (releaseClaim_enqueues _).after rfl
  all_goals exact refl s

theorem enterInerting_enqueues (s : State) : Enqueues s s.enterInerting :=
  (releaseClaim_enqueues s).trans (of_li (by simp [State.enterInerting]))

theorem enterReady_enqueues (s : State) : Enqueues s s.enterReady := by
  have ht : Enqueues s ((s.setChamberState .ready).setInert s.mu.window Comparator.disarm) := of_li (by simp)
  unfold State.enterReady
  dsimp only
  split
  · exact ht
  · exact ht.trans (raiseClaim_enqueues _ _ _)

theorem enterSweep_enqueues (s : State) : Enqueues s s.enterSweep := by
  unfold State.enterSweep
  refine Enqueues.trans ?_ (raiseClaim_enqueues _ _ _)
  exact (releaseClaim_enqueues _).after rfl

theorem enterHalted_enqueues (s : State) : Enqueues s s.enterHalted :=
  (leaveState_enqueues s).trans (of_li (by simp [State.enterHalted]))

theorem entryGivenUp_enqueues (s : State) : Enqueues s s.entryGivenUp :=
  (enterReady_enqueues _).after rfl

theorem sweepGivenUp_enqueues (s : State) : Enqueues s s.sweepGivenUp := by
  have hcode (t : State) : Enqueues t (t.addCode 26) := of_li (by simp)
  unfold State.sweepGivenUp
  refine Enqueues.trans ?_ (hcode _)
  exact (releaseClaim_enqueues _).after rfl

theorem enterPurging_enqueues (s : State) : Enqueues s s.enterPurging :=
  ((leaveState_enqueues s).trans (releaseClaim_enqueues _)).trans
    ((callPurge_enqueues _).after (by simp))

theorem chamberMove_enqueues {s t : State} (h : s.chamberMove = some t) : Enqueues s t := by
  obtain ⟨-, hmem⟩ | ⟨-, rfl⟩ := chamberMove_cases h
  · simp only [List.mem_cons, List.not_mem_nil, or_false] at hmem
    obtain rfl | rfl | rfl | rfl | rfl | rfl | rfl := hmem
    · exact enterHalted_enqueues s
    · exact enterReady_enqueues s
    · exact of_li rfl
    · exact enterSweep_enqueues s
    · exact entryGivenUp_enqueues s
    · exact of_li rfl
    · exact enterInerting_enqueues s
  · exact of_li (by simp)

theorem chamberMoves_enqueues (n : Nat) (s : State) : Enqueues s (s.chamberMoves n) := by
  induction n generalizing s with
  | zero => exact refl s
  | succ n ih =>
    cases hmove : s.chamberMove with
    | none => simpa [State.chamberMoves_of_none hmove] using refl s
    | some t =>
      rw [State.chamberMoves_of_some hmove]
      exact (chamberMove_enqueues hmove).trans (ih t)

/-- The end of a step enqueues what SQ sends and the STATUS (log 12). -/
theorem concludeIf_enqueues (s : State) (b : Bool) (old : State) : Enqueues s (s.concludeIf b old) := by
  have hsettle : Enqueues s s.settle := by
    unfold State.settle
    split
    · unfold State.settleChamber
      split
      · exact refl s
      · exact (chamberMoves_enqueues 6 s).trans (of_li (by simp))
    · exact settleExtraction_enqueues s
  exact hsettle.trans (announceIf_enqueues _ _ _)

/-! ### The exchange and the record store -/

theorem takeOffer_enqueues (s : State) (a : Nat) (p : List Byte) : Enqueues s (s.takeOffer a p) := by
  have hsend (t : State) {k : Kind} (hk : k ≠ .purgeEnd) (q : List Byte) : Enqueues t (t.send k a q) := send t hk a q
  unfold State.takeOffer
  dsimp only
  (repeat' split)
  · exact hsend s (by simp) _
  · exact hsend s (by simp) _
  · exact hsend s (by simp) _
  · exact (hsend _ (by simp) _).after rfl

theorem takeAccept_enqueues (s : State) (k : Key) : Enqueues s (s.takeAccept k) := by
  have hdrop : Enqueues s (s.dropQueue k) := of_li rfl
  unfold State.takeAccept
  split
  · exact refl s
  · refine guard fun _ => ?_
    dsimp only
    split
    · split
      · exact hdrop.trans ((tryOffer_enqueues _).after rfl)
      · exact of_li rfl
      · exact hdrop
      · exact hdrop
    · exact hdrop

theorem endRelease_enqueues (s : State) : Enqueues s s.endRelease :=
  (tryOffer_enqueues _).after (by simp)

theorem clampFailed_enqueues (s : State) : Enqueues s s.clampFailed :=
  (enterE7_enqueues _).after (by simp)

theorem clampOpened_enqueues (s : State) : Enqueues s s.clampOpened := by
  have hheld : Enqueues s (if s.sq.clampHold then s.clampFailed else s) := guard fun _ => clampFailed_enqueues s
  unfold State.clampOpened
  cases s.sq.step with
  | e0 | e1 => exact refl s
  | e2 | e3 | e4 | e5 | e6 => exact hheld
  | e7 => exact endRelease_enqueues s

theorem afterRise_enqueues (s : State) (pass : Bool) : Enqueues s (s.afterRise pass) := by
  unfold State.afterRise
  split
  · exact enterE7_enqueues s
  · split
    · exact (enterE5_enqueues _).after rfl
    · exact (enterE7_enqueues _).after (by simp)

theorem takeAbandon_enqueues (s : State) (k : Key) : Enqueues s (s.takeAbandon k) := by
  unfold State.takeAbandon
  (repeat' split)
  · exact refl s
  · exact refl s
  · exact of_li (by simp)
  · exact (enterE7_enqueues _).after (by simp)

theorem doorCloses_enqueues (s : State) : Enqueues s s.doorCloses := by
  have ht : Enqueues s (s.headEnters.setCh { s.headEnters.ch with doorOpen := false }) := of_li (by simp)
  exact ht.trans (guard fun _ => enterReady_enqueues _)

theorem answerRead_enqueues (s : State) (a seq : Nat) : Enqueues s (s.answerRead a seq) := by
  unfold State.answerRead
  split <;> exact send s (by simp) _ _

theorem readAbove_enqueues (s : State) (a p : Nat) : Enqueues s (s.readAbove a p) := by
  have ht : Enqueues s (if p < 4294967295 then s else s.nextFree) := by
    split
    · exact refl s
    · exact of_li rfl
  unfold State.readAbove
  dsimp only
  split
  · exact ht.trans ((answerRead_enqueues _ _ _).after rfl)
  · exact ht.trans (answerRead_enqueues _ _ _)

theorem commitDone_enqueues (s : State) (c : Commit) : Enqueues s (s.commitDone c) := by
  have hfull (t : State) : Enqueues t t.evalFull := of_li (by simp)
  unfold State.commitDone
  refine Enqueues.trans ?_ (hfull _)
  exact (send _ (by simp) _ _).after rfl

/-! ### SERVICE -/

theorem answerConfig_enqueues (s : State) (a k status : Nat) (p : Byte) (v : Nat) :
    Enqueues s (s.answerConfig a k status p v) := send s (by simp) _ _

theorem takeKey_enqueues (s : State) (a key : Nat) : Enqueues s (s.takeKey a key) :=
  (answerConfig_enqueues _ _ _ _ _ _).after rfl

theorem takeWrite_enqueues (s : State) (a : Nat) (param : Byte) (v : Nat) : Enqueues s (s.takeWrite a param v) := by
  have hlock : Enqueues s (s.setLock s.rs.lock) := of_li rfl
  have hread (t : State) (n : Nat) : Enqueues t (t.valueRead n) := of_li (by simp)
  have hrefused (status w n : Nat) :
      Enqueues s (((s.setLock s.rs.lock).answerConfig a 0x7D status param w).valueRead n) :=
    (hlock.trans (answerConfig_enqueues _ _ _ _ _ _)).trans (hread _ _)
  unfold State.takeWrite
  dsimp only
  (repeat' split)
  · exact hrefused _ _ _
  · exact hrefused _ _ _
  · exact hrefused _ _ _
  · exact hlock.trans ((answerConfig_enqueues _ _ _ _ _ _).after rfl)
  · exact hlock.trans (answerConfig_enqueues _ _ _ _ _ _)

theorem takeCommit_enqueues (s : State) (a : Nat) : Enqueues s (s.takeCommit a) := by
  unfold State.takeCommit
  split
  · exact (answerConfig_enqueues _ _ _ _ _ _).after rfl
  · split
    · exact (answerConfig_enqueues _ _ _ _ _ _).trans (of_li rfl)
    · exact of_li rfl

theorem answerCommits_enqueues (srcs : List Nat) (s : State) (status : Nat) :
    Enqueues s (s.answerCommits srcs status) := by
  induction srcs generalizing s with
  | nil => exact refl s
  | cons a srcs ih => exact (answerConfig_enqueues s a _ _ _ _).trans (ih _)

theorem endBlockWrite_enqueues (s : State) (w : BlockWrite) (words : List Half) (ok : Bool) :
    Enqueues s (s.endBlockWrite w words ok) := by
  have hlock (t : State) (l : Lock) : Enqueues t (t.setLock l) := of_li rfl
  unfold State.endBlockWrite
  refine Enqueues.trans ?_ (hlock _ _)
  exact (answerCommits_enqueues _ _ _).after rfl

theorem warnSupply_enqueues (s : State) : Enqueues s s.warnSupply := by
  have habort : Enqueues s ((s.setRs { s.rs with supplyLow := true }).abortCommit) := of_li (by simp)
  have hcut (t : State) : Enqueues t t.cutBlockWrite := by
    unfold State.cutBlockWrite
    split
    · exact (endBlockWrite_enqueues _ _ _ _).trans (of_li rfl)
    · exact refl t
  exact habort.trans (hcut _)

/-! ### Start and time -/

theorem enterRun_enqueues (s : State) : Enqueues s s.enterRun := by
  have ht : Enqueues s (s.setBoot { s.boot with phase := .run, joining := Timer.stopped }).evalDe := of_li (by simp)
  unfold State.enterRun
  dsimp only
  split
  · exact ht.trans ((enterInerting_enqueues _).after rfl)
  · exact ht.trans (tryOffer_enqueues _)

/-- The first sample sends the first STATUS (R127). -/
theorem firstSample_enqueues (s : State) (x : Sample) : Enqueues s (s.firstSample x) := by
  have ht : Enqueues s ((((s.setBoot { s.boot with phase := .joining }).takeSample x).recoverAtOnce).firstHazard) :=
    of_li (by simp)
  exact ht.trans ((sendStatus _).after rfl)

/-- The own telegram heard back may place the next OFFER (R135). -/
theorem ownHeard_enqueues (s : State) (m : Telegram) : Enqueues s (s.ownHeard m) := by
  have hoffer : Enqueues s s.offerTransmitted := by
    refine guard fun _ => ?_
    split
    · exact of_li rfl
    · exact (tryOffer_enqueues _).after rfl
  unfold State.ownHeard
  split
  · exact refl s
  · split
    · split
      · exact of_li (by simp)
      · exact refl s
    · exact of_li (by simp)
    · exact guard fun _ => of_li (by simp)
    · exact hoffer
    all_goals exact refl s

theorem tick_enqueues (s : State) : Enqueues s s.tick := by
  unfold State.tick
  split
  · exact refl s
  · exact of_li rfl

end Sys2Proof.Machine
end

section
/-! PROOF. Every step keeps the transmit queue in its order with at most one STATUS waiting (O16): START and its like
empty the queue, TRANSMIT START takes its head, a collision returns a telegram to its place, and every other command
enqueues. -/

namespace Sys2Proof.Machine

/-- A change of the state that keeps the order of the transmit queue and its one STATUS. -/
def KeepsLine (s t : State) : Prop := s.lineOk → t.lineOk

/-- Whatever enqueues keeps the order. -/
theorem Enqueues.keepsLine {s t : State} (h : Enqueues s t) : KeepsLine s t := h.lineOk

theorem Enqueues.keepsLine_after {s t u : State} (k : Enqueues t u) (h : t.li = s.li) : KeepsLine s u :=
  (k.after h).keepsLine

namespace KeepsLine

/-- An operation that leaves LI alone keeps the order. -/
theorem of_li {s t : State} (h : t.li = s.li) : KeepsLine s t := (Enqueues.of_li h).keepsLine

/-- A new value of the receiver or the line's level is none of the queue. -/
theorem of_queue {s t : State} (h : t.li.queue = s.li.queue) : KeepsLine s t := fun hs => by
  simpa only [State.lineOk_iff, h] using hs

/-- A start empties the queue (R175). -/
theorem of_empty {s t : State} (h : t.li.queue = []) : KeepsLine s t := fun _ => by
  rw [State.lineOk_iff, h]
  exact InOrder.nil

end KeepsLine

/-- The hearing of a telegram and the end of a step keep the order. -/
theorem keepsLine_carried : Carried KeepsLine where
  refl _ := id
  trans h k hs := k (h hs)
  endReception _ := .of_queue rfl
  refresh s a := .of_li (by simp)
  conflict s := .of_li (by simp)
  downstream s old := (downstreamChange_enqueues s old).keepsLine
  conclude s old := (concludeIf_enqueues s false old).keepsLine

/-- A telegram that has collided returns to its place, a STATUS only if no other waits (R163, R164). -/
theorem InOrder.returned {q : List Telegram} (h : InOrder q) (m : Telegram) : InOrder (returnTelegram m q) := by
  unfold returnTelegram
  split
  · exact h
  · rename_i hplace
    exact h.placed (insertTelegram_placedIn m q) fun hk u hu hus =>
      hplace ⟨hk, List.any_eq_true.mpr ⟨u, hu, by simpa using hus⟩⟩

/-- The end of a purge (R94) enqueues the PURGE END, which withdraws a PURGE CALL that waits. -/
theorem leavePurging_keepsLine (s : State) : KeepsLine s s.leavePurging := by
  have hend (t : State) : KeepsLine t t.endPurge := fun h => by
    rw [State.lineOk_iff] at h ⊢
    exact h.enqueue _
  intro h
  exact (enterInerting_enqueues _).keepsLine (hend _ h)

/-- The effect of TRANSMIT START takes the head telegram. -/
theorem transmitStart_keepsLine {s : State} {m : Telegram} {q : List Telegram} (h : s.li.queue = m :: q) (l : Line)
    (hl : l.queue = q) : KeepsLine s (s.setLi l) := fun hs => by
  rw [State.lineOk_iff] at hs ⊢
  rw [h] at hs
  rw [State.setLi_li, hl]
  exact hs.sublist (List.sublist_cons_self m q)

theorem collision_keepsLine (s : State) (m : Telegram) (l : Line) (hl : l.queue = returnTelegram m s.li.queue) :
    KeepsLine s (s.setLi l) := fun hs => by
  rw [State.lineOk_iff] at hs ⊢
  rw [State.setLi_li, hl]
  exact hs.returned m

/-- A STATUS that PT and MS take note of leaves LI alone (R106, R119, R123). -/
theorem statusWritten_li (s old : State) (a : Nat) (p : List Byte) : (s.statusWritten old a p).li = s.li := by
  unfold State.statusWritten
  dsimp only
  split <;> simp

/-! ### Every command, and every step -/

theorem exec_keepsLine {c : Instr} {s t : State} (h : exec c s = .next t) : KeepsLine s t := by
  have hk : Carried KeepsLine := keepsLine_carried
  have kept {s t : State} (h : t.li = s.li) : KeepsLine s t := .of_li h
  cases c with
  | start cause =>
    cases h
    exact .of_empty rfl
  | starting =>
    cases h
    exact hk.guard fun _ => .of_empty (by simp [State.emptied])
  | supplyWarning d =>
    cases h
    split
    · exact kept (by simp)
    · dsimp only
      split
      · exact .of_empty rfl
      · refine hk.guard fun hf => hk.concluded ?_
        simpa [hf] using (warnSupply_enqueues s).keepsLine
  | transmitStart bits =>
    cases h
    split
    · exact hk.refl s
    · rename_i hq
      exact hk.guard fun _ => transmitStart_keepsLine hq _ rfl
  | collision =>
    cases h
    split
    · exact hk.refl s
    · rename_i m hm
      have hreturn := collision_keepsLine s (m.collided s.boot.address)
        { s.li with transmitter := none, queue := returnTelegram (m.collided s.boot.address) s.li.queue } rfl
      refine hk.concluded ?_
      split
      · exact hk.trans hreturn (kept (by simp))
      · exact hreturn
  | transmitComplete =>
    cases h
    split
    · exact hk.refl s
    · refine hk.concluded (hk.trans ?_ (ownHeard_enqueues _ _).keepsLine)
      exact .of_queue (by simp)
  | lineIdle | lineBusy =>
    cases h
    split
    · exact hk.refl s
    · exact .of_queue rfl
  | telegramDiscard r =>
    cases h
    exact hk.guard fun _ => hk.endReception s
  | purgeClearMet =>
    cases h
    exact hk.guard fun _ => hk.concluded (leavePurging_keepsLine s)
  | joiningEnd =>
    cases h
    exact hk.guard fun _ => hk.concluded (enterRun_enqueues s).keepsLine
  | inputFilterFill pin =>
    cases h
    refine hk.guard fun _ => ?_
    dsimp only
    split
    · exact kept (by simp)
    · exact hk.concluded (kept (by simp))
  | stationSample x =>
    cases h
    split
    · exact hk.refl s
    · split
      · exact (firstSample_enqueues s x).keepsLine
      · dsimp only
        split
        · exact hk.concluded (kept (by simp))
        · exact kept (by simp)
  | valveDiscrepancy r =>
    cases h
    refine hk.guard fun _ => ?_
    dsimp only
    split
    · refine hk.concluded ?_
      split <;> exact kept (by simp)
    · exact kept (by simp)
  | clcFall =>
    cases h
    exact hk.guard fun _ => hk.concluded ((clampOpened_enqueues _).keepsLine_after (by simp))
  | clampTimeout =>
    cases h
    exact hk.guard fun _ => hk.concluded (clampFailed_enqueues s).keepsLine
  | zeroWindowComplete | headerRecovered | drcFall =>
    cases h
    refine hk.guard fun _ => hk.concluded ?_
    split <;> exact kept (by simp)
  | hcdRise =>
    cases h
    refine hk.guard fun _ => hk.concluded ?_
    split
    · exact (routeChange_enqueues _).keepsLine_after (by simp)
    · exact kept (by simp)
  | classifyTimeExpiry =>
    cases h
    exact hk.guard fun _ => hk.concluded (endClassify_enqueues s).keepsLine
  | pulldownTimeout =>
    cases h
    exact hk.guard fun _ => hk.concluded ((enterE7_enqueues _).keepsLine_after (by simp))
  | holdTimeExpiry =>
    cases h
    refine hk.guard fun _ => ?_
    split
    · exact hk.concluded (afterRise_enqueues s _).keepsLine
    · exact hk.refl s
  | starvationPromotion =>
    cases h
    exact hk.guard fun _ => hk.concluded ((raiseClaim_enqueues _ _ _).keepsLine_after (by simp))
  | releaseTimeExpiry =>
    cases h
    exact hk.guard fun _ => hk.concluded (endRelease_enqueues s).keepsLine
  | peerStale a =>
    cases h
    refine hk.guard fun _ => hk.concluded ?_
    rw [makeStale_eq]
    refine hk.trans ?_ (hk.downstream _ s)
    split <;> exact kept (by simp [State.peerLost])
  | sweepWaitExpiry =>
    cases h
    exact hk.guard fun _ => hk.concluded ((sweepGivenUp_enqueues s).trans (enterReady_enqueues _)).keepsLine
  | sweepTimerExpiry =>
    cases h
    refine hk.guard fun _ => hk.concluded (hk.trans ?_ (enterInerting_enqueues _).keepsLine)
    exact (releaseClaim_enqueues _).keepsLine_after rfl
  | holdOffExpiry =>
    cases h
    exact hk.guard fun _ => hk.concluded ((tryOffer_enqueues _).keepsLine_after rfl)
  | purgeNeeded =>
    cases h
    refine hk.guard fun _ => hk.concluded ?_
    split
    · exact (enterPurging_enqueues _).keepsLine_after rfl
    · exact kept rfl
  | drcRise =>
    cases h
    refine hk.guard fun _ => ?_
    dsimp only
    split
    · exact (((doorCloses_enqueues _).after (by simp)).trans (concludeIf_enqueues _ _ _)).keepsLine
    · exact hk.concluded (kept (by simp))
  | doorTimerExpiry =>
    cases h
    exact hk.guard fun _ => ((entryGivenUp_enqueues s).trans (concludeIf_enqueues _ _ _)).keepsLine
  | statusTimerExpiry =>
    cases h
    exact hk.guard fun _ => (Enqueues.sendStatus s).keepsLine
  | serviceStatusExpiry =>
    cases h
    exact hk.guard fun _ => (Enqueues.send _ (by simp) _ _).keepsLine_after rfl
  | ilkFall | ilkRise | tripFilterMet x | recoveryTimerExpiry x | faultClearButton | pulldownReached | headerHigh
  | ownHazardChange | oxygenHigh | oxygenUnderRunLimit | inertReached | carryOverExpiry k | srfChange
  | sweepRetryExpiry | purgeWaitExpiry | answerTimerExpiry =>
    cases h
    exact hk.guard fun _ => hk.concluded (kept (by simp))
  | startEdge | clcRise | quiet =>
    cases h
    refine hk.guard fun _ => ?_
    split
    · exact hk.concluded (kept (by simp))
    · exact kept (by simp)
  | pStart | serviceIdleTimerExpiry =>
    cases h
    exact hk.guard fun _ => kept rfl
  | status f =>
    cases h
    refine hk.hear _ _ fun t => ?_
    split
    · rw [takeStatus_eq]
      exact hk.concluded (hk.trans (kept (statusWritten_li ..)) (hk.downstream _ s))
    · exact hk.downstream t s
  | kindCodeNotInTable code f =>
    cases h
    split
    · exact hk.refl s
    · exact hk.hear _ _ fun t => hk.downstream t s
  | claim f =>
    cases h
    refine hk.hearKind _ _ _ fun t => ?_
    split
    · exact hk.concluded (kept (by simp))
    · exact hk.refl t
  | release f | purgeEnd f | faultClear f | purgeClear f =>
    cases h
    exact hk.hearKind _ _ _ fun t => hk.concluded (kept (by simp))
  | purgeCall f =>
    cases h
    exact hk.hearKind _ _ _ fun t => hk.concluded ((Enqueues.send _ (by simp) _ _).keepsLine_after (by simp))
  | certificate f | readData f | checkResult f | configAnswer f =>
    cases h
    exact hk.hearKind _ _ _ fun t => hk.refl t
  | read f =>
    cases h
    exact hk.hearKind _ _ _ fun t => (answerRead_enqueues _ _ _).keepsLine_after rfl
  | readNext f =>
    cases h
    refine hk.hearKind _ _ _ fun t => ?_
    split
    · exact (Enqueues.send t (by simp) _ _).keepsLine
    · exact (readAbove_enqueues t _ _).keepsLine
  | collect f =>
    cases h
    exact hk.hearKind _ _ _ fun t => kept rfl
  | checkRange f =>
    cases h
    exact hk.hearKind _ _ _ fun t => (Enqueues.send t (by simp) _ _).keepsLine
  | announce f | closeAccount f | refuse f =>
    cases h
    exact hk.hearKind _ _ _ fun t => hk.guard fun _ => hk.concluded (kept (by simp))
  | abandonAccount f =>
    cases h
    exact hk.hearKind _ _ _ fun t => hk.guard fun _ => hk.concluded (takeAbandon_enqueues t _).keepsLine
  | offer f =>
    cases h
    exact hk.hearKind _ _ _ fun t => hk.guard fun _ => hk.concluded (takeOffer_enqueues t _ _).keepsLine
  | accept f =>
    cases h
    exact hk.hearKind _ _ _ fun t => hk.guard fun _ => hk.concluded (takeAccept_enqueues t _).keepsLine
  | key f =>
    cases h
    split
    · exact hk.hearService _ _ _ fun t => (takeKey_enqueues t _ _).keepsLine
    · exact hk.hearKind _ _ _ fun t => hk.refl t
  | configWrite f =>
    cases h
    split
    · exact hk.hearService _ _ _ fun t => (takeWrite_enqueues t _ _ _).keepsLine
    · exact hk.hearKind _ _ _ fun t => hk.refl t
  | configCommit f =>
    cases h
    split
    · exact hk.hearService _ _ _ fun t => (takeCommit_enqueues t _).keepsLine
    · exact hk.hearKind _ _ _ fun t => hk.refl t
  | configCommitVerify ws =>
    cases h
    split
    · exact hk.refl s
    · exact (endBlockWrite_enqueues s _ _ _).keepsLine
  | commitBegin =>
    cases h
    split
    · exact hk.refl s
    · split
      · exact hk.refl s
      · exact hk.guard fun _ => kept (by simp)
  | commitVerify bs =>
    cases h
    split
    · exact hk.refl s
    · refine hk.concluded ?_
      split
      · exact (commitDone_enqueues s _).keepsLine
      · exact kept (by simp)
  | collectMark =>
    cases h
    split
    · exact hk.refl s
    · exact hk.guard fun _ => hk.concluded (kept (by simp))
  | supplyWarningEnd d =>
    cases h
    split
    · exact kept (by simp)
    · exact hk.guard fun _ => hk.concluded (kept rfl)

/-- Settles O16: a step is a command or a millisecond, and either keeps the order. -/
theorem stepKeepsTransmitQueueInOrder : Obligations.StepKeepsTransmitQueueInOrder := by
  intro s t hs h
  unfold step at h
  split at h
  · cases h
    exact (tick_enqueues s).keepsLine hs
  · exact exec_keepsLine h hs

end Sys2Proof.Machine
end

section
/-! PROOF. The line, the transmitter and the transmit queue (O51): idle, busy and a discarded run of characters, the
attempt of the head telegram, a collision, and what each kind of telegram makes of the queue it is enqueued to. -/

namespace Sys2Proof.Machine

/-! ### The line and the attempt -/

theorem exec_lineIdle {s : State} (hp : s.phase ≠ .hold) (ht : s.li.transmitter = none) :
    exec .lineIdle s = .next { s with li := { s.li with idle := true, receiver := .hunting } } := by
  simp [exec, execLineIdle, hp, ht, State.setLi]

theorem exec_lineBusy {s : State} (hp : s.phase ≠ .hold) (hi : s.li.idle = true) :
    exec .lineBusy s = .next { s with li := { s.li with idle := false, receiver := .receiving } } := by
  simp [exec, execLineBusy, hp, hi, State.setLi]

/-- The cases of R157 in which a run of characters is no valid telegram. -/
theorem receptionDiscarded_iff (r : Reception) : receptionDiscarded r = true ↔
    (byteAt r.bytes 0 ≠ 0xC9 ∨ 48 < byteAt r.bytes 4 ∨ r.stopDominant = true ∨ r.cutShort = true
      ∨ r.bytes.length < byteAt r.bytes 4 + 7
      ∨ half r.bytes (byteAt r.bytes 4 + 5) ≠ checkWord ((r.bytes.drop 1).take (byteAt r.bytes 4 + 4))) := by
  simp [receptionDiscarded, or_assoc]

theorem exec_telegramDiscard {s : State} {r : Reception} (hp : s.phase ≠ .hold) (hr : s.li.receiver = .receiving)
    (ht : s.li.transmitter = none) (hd : receptionDiscarded r = true) :
    exec (.telegramDiscard r) s = .next { s with li := { s.li with receiver := .ignoring } } := by
  simp [exec, execTelegramDiscard, Line.hearing, hp, hr, ht, hd, State.endReception, State.setLi]

section
variable {s : State} {m : Telegram} {q : List Telegram} {n : Nat}

theorem mayTransmit_iff : s.mayTransmit = true ↔
    s.li.idle = true ∧ s.li.transmitter = none ∧ s.phase ≠ .hold ∧ s.phase ≠ .starting ∧ 67 ∉ s.pu.codes := by
  simp [State.mayTransmit, and_assoc]

/-- The head telegram is attempted at its moment (R160). -/
theorem exec_transmitStart (hq : s.li.queue = m :: q) (hs : s.mayTransmit = true) (hn : 8 * m.cls + m.backoff ≤ n) :
    exec (.transmitStart n) s = .next { s with li := { s.li with
      idle := false, receiver := .receiving, queue := q, transmitter := some m } } := by
  simp [exec, execTransmitStart, hq, hs, hn, State.setLi]

/-- It is not attempted before, nor where LI may attempt none (R160). -/
theorem exec_transmitStart_waits (hq : s.li.queue = m :: q) (h : s.mayTransmit = false ∨ n < 8 * m.cls + m.backoff) :
    exec (.transmitStart n) s = .next s := by
  obtain hs | hn := h
  · simp [exec, execTransmitStart, hq, hs]
  · simp [exec, execTransmitStart, hq, hn.not_ge]

end

/-! ### The collision -/

/-- The state of a station whose telegram has returned to the queue after a collision, with code 33 after the 16th
(R161), before SQ follows. -/
def State.collisionCounted (s : State) (m : Telegram) : State :=
  let u := s.setLi { s.li with
    transmitter := none, queue := returnTelegram (m.collided s.boot.address) s.li.queue }
  if (m.collided s.boot.address).collisions = 16 then u.addCode 33 else u

theorem exec_collision {s : State} {m : Telegram} (h : s.li.transmitter = some m) :
    exec .collision s = .next ((s.collisionCounted m).conclude s) := by
  simp [exec, execCollision, h, State.collisionCounted]

section
variable (s : State) (m : Telegram)

theorem collisionCounted_li : (s.collisionCounted m).li =
    { s.li with transmitter := none, queue := returnTelegram (m.collided s.boot.address) s.li.queue } := by
  unfold State.collisionCounted
  dsimp only
  split <;> simp

theorem collisionCounted_frame : (s.collisionCounted m).pt = s.pt ∧ (s.collisionCounted m).ms = s.ms := by
  unfold State.collisionCounted
  dsimp only
  split <;> simp

/-- The 16th collision reports code 33, which stays in the set over the end of the step (R161). -/
theorem conclude_collisionCounted_code (h : (m.collided s.boot.address).collisions = 16) :
    33 ∈ ((s.collisionCounted m).conclude s).pu.codes := by
  rw [((s.collisionCounted m).conclude_pu s).codes 33 (by decide)]
  simp [State.collisionCounted, h, mem_insertCode]

/-- What the end of the step may enqueue leaves the telegram in the queue, if a full queue keeps its kind (R163,
R166). -/
theorem mem_conclude_collisionCounted (hs : m.kind ≠ .status) (hc : m.cls ≠ 3) (ho : m.kind.isOwnClaim = false) :
    m.collided s.boot.address ∈ ((s.collisionCounted m).conclude s).li.queue := by
  refine (concludeIf_enqueues (s.collisionCounted m) false s).kept _ ?_ hs hc ho
  rw [collisionCounted_li, returnTelegram, if_neg fun h => hs h.1]
  exact mem_insertTelegram.mpr (.inl rfl)

/-- If the step enqueues nothing, its queue is the one that the collision leaves. -/
theorem conclude_collisionCounted_queue (h : ((s.collisionCounted m).conclude s).li.moment = s.li.moment) :
    ((s.collisionCounted m).conclude s).li.queue = returnTelegram (m.collided s.boot.address) s.li.queue := by
  have hli := collisionCounted_li s m
  refine ((concludeIf_enqueues (s.collisionCounted m) false s).still ?_).trans (by rw [hli])
  rw [hli]
  exact h

end

/-- A STATUS is not returned while another waits (R164). -/
theorem returnTelegram_twice {m : Telegram} {q : List Telegram} (hk : m.kind = .status)
    (h : ∃ u ∈ q, u.kind = .status) : returnTelegram m q = q := by
  simp [returnTelegram, hk, h]

/-- Any other telegram returns to its place (R163). -/
theorem returnTelegram_placedIn {m : Telegram} {q : List Telegram}
    (h : ¬(m.kind = .status ∧ ∃ u ∈ q, u.kind = .status)) : m.placedIn q (returnTelegram m q) := by
  unfold returnTelegram
  rw [if_neg (by simpa using h)]
  exact insertTelegram_placedIn m q

/-! ### The telegrams that the station enqueues -/

/-- The class of a kind, as R167 lists the kinds that the station sends. -/
theorem Kind.cls_eq (k : Kind) : k.cls =
    if k ∈ [Kind.purgeCall, .purgeClear, .purgeEnd] then 0
    else if k ∈ [Kind.accept, .refuse] then 1
    else if k ∈ [Kind.certificate, .readData, .checkResult, .configAnswer] then 3 else 2 := by
  cases k <;> rfl

theorem Kind.isOwnClaim_iff (k : Kind) : k.isOwnClaim = true ↔ k = .claim ∨ k = .release := by
  cases k <;> simp [Kind.isOwnClaim]

/-- No place is free (R163, R166). -/
theorem Line.room_eq_false_iff (l : Line) :
    l.room = false ↔ (if l.transmitter = none then 8 else 7) ≤ l.queue.length := by
  unfold Line.room
  cases l.transmitter <;> simp

section
variable {t : Telegram} {q : List Telegram} (hc : t.cls ≠ 3)
include hc

/-- A full queue gives up the class 3 telegram enqueued last (R166). -/
theorem insertFull_drops_third (hthird : ∃ u ∈ q, u.cls = 3) : ∃ u ∈ q, u.cls = 3
    ∧ (∀ v ∈ q, v.cls = 3 → v.moment ≤ u.moment)
    ∧ t.placedIn (q.filter fun v => !(v.cls == 3 && v.moment == u.moment)) (insertFull t q) := by
  obtain ⟨u, hu, h3, hlast⟩ := exists_enqueuedLast hthird
  have hany : (q.any fun v => v.cls == 3) = true := by simpa using hthird
  have hmoment : latestMoment (fun v => v.cls == 3) q = u.moment :=
    latestMoment_eq hu (by simpa using h3) fun v hv hv3 => hlast v hv (by simpa using hv3)
  refine ⟨u, hu, h3, hlast, ?_⟩
  simp only [insertFull, hc, hany, hmoment, if_false, if_true]
  exact insertTelegram_placedIn _ _

variable (hthird : ¬∃ u ∈ q, u.cls = 3)
include hthird

/-- Without one of class 3 it gives up every CLAIM and RELEASE for a newer one (R166). -/
theorem insertFull_drops_claims (hown : t.kind = .claim ∨ t.kind = .release) :
    t.placedIn (q.filter fun v => decide (¬(v.kind = .claim ∨ v.kind = .release))) (insertFull t q) := by
  have hany : ¬(q.any fun v => v.cls == 3) = true := by simpa using hthird
  have hfilter : (q.filter fun v => decide (¬(v.kind = .claim ∨ v.kind = .release)))
      = q.filter fun v => !v.kind.isOwnClaim :=
    List.filter_congr fun v _ => by simp [← Kind.isOwnClaim_iff]
  rw [insertFull, if_neg hc, if_neg hany, if_pos (t.kind.isOwnClaim_iff.mpr hown), hfilter]
  exact insertTelegram_placedIn _ _

/-- And all but the last of them for any other telegram (R166). -/
theorem insertFull_keeps_last_claim (ht : ¬(t.kind = .claim ∨ t.kind = .release)) {u : Telegram} (hu : u ∈ q)
    (hown : u.kind = .claim ∨ u.kind = .release)
    (hlast : ∀ v ∈ q, v.kind = .claim ∨ v.kind = .release → v.moment ≤ u.moment) :
    t.placedIn (q.filter fun v => decide (v.kind = .claim ∨ v.kind = .release → v.moment = u.moment))
      (insertFull t q) := by
  have hany : ¬(q.any fun v => v.cls == 3) = true := by simpa using hthird
  have hmoment : latestMoment (fun v => v.kind.isOwnClaim) q = u.moment :=
    latestMoment_eq hu (u.kind.isOwnClaim_iff.mpr hown) fun v hv hvo => hlast v hv (v.kind.isOwnClaim_iff.mp hvo)
  have hfilter : (q.filter fun v => decide (v.kind = .claim ∨ v.kind = .release → v.moment = u.moment))
      = q.filter fun v => !v.kind.isOwnClaim || v.moment == u.moment :=
    List.filter_congr fun v _ => by simp [← Kind.isOwnClaim_iff, imp_iff_not_or, beq_eq_decide]
  rw [insertFull, if_neg hc, if_neg hany, if_neg (mt t.kind.isOwnClaim_iff.mp ht), hmoment, hfilter]
  exact insertTelegram_placedIn _ _

end

section
variable {l : Line} {m : Telegram}

/-- A place is free (R163). -/
theorem Line.enqueue_placedIn (h : l.placesNew m)
    (hfree : ¬(if l.transmitter = none then 8 else 7) ≤ l.queue.length) :
    ({ m with moment := l.moment } : Telegram).placedIn l.queue (l.enqueue m).queue := by
  have hroom : l.room = true := by rwa [← l.room_eq_false_iff, Bool.not_eq_false] at hfree
  rw [Line.enqueue_new h, if_pos hroom]
  exact insertTelegram_placedIn _ _

/-- No place is free (R166). -/
theorem Line.enqueue_full (h : l.placesNew m)
    (hfull : (if l.transmitter = none then 8 else 7) ≤ l.queue.length) :
    (l.enqueue m).queue = insertFull { m with moment := l.moment } l.queue := by
  rw [Line.enqueue_new h, l.room_eq_false_iff.mpr hfull]
  rfl

end

/-! ### The obligation -/

/-- Settles O51: each command by its equation, a collision by what the end of its step keeps, and an enqueueing case by
case. -/
theorem transmitterFollowsTheLine : Obligations.TransmitterFollowsTheLine := by
  intro s
  refine ⟨exec_lineIdle, exec_lineBusy, fun r hp hr ht hd =>
    exec_telegramDiscard hp hr ht ((receptionDiscarded_iff r).mpr hd), fun n m q hq => ⟨?_, ?_⟩, fun m hm => ?_,
    fun k dst p => ?_, fun m => ?_⟩
  · intro hi ht hp hs hc hn
    exact exec_transmitStart hq (mayTransmit_iff.mpr ⟨hi, ht, hp, hs, hc⟩) hn
  · intro h
    refine exec_transmitStart_waits hq ?_
    by_cases hs : s.mayTransmit = true
    · obtain ⟨idle, empty, -, starting, code⟩ := mayTransmit_iff.mp hs
      exact .inr (by simpa [idle, empty, starting, code] using h)
    · exact .inl (by simpa using hs)
  · obtain ⟨hpt, hms⟩ := collisionCounted_frame s m
    refine ⟨_, exec_collision hm, by simp [collisionCounted_li], fun hs hcl hre h3 => ?_, fun h => ?_,
      conclude_collisionCounted_code s m, by simp [hpt], by simp [hms]⟩
    · exact mem_conclude_collisionCounted s m hs h3 (by simp [Bool.eq_false_iff, Kind.isOwnClaim_iff, hcl, hre])
    · rw [conclude_collisionCounted_queue s m h]
      exact ⟨fun ⟨hk, hu⟩ => returnTelegram_twice hk hu, fun honce => returnTelegram_placedIn honce⟩
  · rw [← Kind.cls_eq]
    rfl
  · refine ⟨s.li.enqueue_eq m, fun hk old hold => ?_, Line.enqueue_sameClear, Line.enqueue_unsentCall,
      Line.enqueue_placedIn, fun plain full h3 => ?_, fun plain full h3 third => ?_,
      fun plain full h3 third own => ?_, fun plain full h3 third own u hu hown hlast => ?_⟩
    · rw [Line.enqueue_over hk hold]
      exact insertTelegram_placedIn _ _
    all_goals rw [Line.enqueue_full plain full]
    · exact if_pos h3
    · exact insertFull_drops_third h3 third
    · exact insertFull_drops_claims h3 third own
    · exact insertFull_keeps_last_claim (t := { m with moment := s.li.moment }) h3 third own hu hown hlast

end Sys2Proof.Machine
end

section
/-! PROOF. The nonvolatile memory (O6, O10): which commands write it, read a free value or move the phase, and that
every write leaves the record store in canonical form. -/

namespace Sys2Proof.Machine

/-! ### What a command does not write -/

/-- Between the two states nothing of the nonvolatile memory and of the count of free values has changed but what the
command may write, and no waiting command has (R168 to R174). -/
structure Unwritten (c : Instr) (s t : State) : Prop where
  pending : t.pending = s.pending
  factory : t.nv.factory = s.nv.factory
  slots : c.writesSlots = false → t.nv.slots = s.nv.slots
  block : c.writesBlock = false → t.nv.block = s.nv.block
  counter : (∀ p, c ≠ .inputFilterFill p) → t.nv.startCounter = s.nv.startCounter
  free : c.readsFree = false → t.free = s.free

namespace Unwritten

variable {c : Instr} {s t u : State}

/-- An operation that leaves the whole memory and reads no free value. -/
theorem of_frame (h : t.nv = s.nv ∧ t.free = s.free ∧ t.pending = s.pending) : Unwritten c s t := by
  obtain ⟨nv, free, pending⟩ := h
  exact ⟨pending, by rw [nv], fun _ => by rw [nv], fun _ => by rw [nv], fun _ => by rw [nv], fun _ => free⟩

/-- An operation of a command that reads a free value. -/
theorem of_reader (hc : c.readsFree = true) (h : t.nv = s.nv ∧ t.pending = s.pending) : Unwritten c s t := by
  obtain ⟨nv, pending⟩ := h
  exact ⟨pending, by rw [nv], fun _ => by rw [nv], fun _ => by rw [nv], fun _ => by rw [nv], by simp [hc]⟩

theorem refl (c : Instr) (s : State) : Unwritten c s s := of_frame ⟨rfl, rfl, rfl⟩

theorem trans (h : Unwritten c s t) (k : Unwritten c t u) : Unwritten c s u where
  pending := k.pending.trans h.pending
  factory := k.factory.trans h.factory
  slots hc := (k.slots hc).trans (h.slots hc)
  block hc := (k.block hc).trans (h.block hc)
  counter hc := (k.counter hc).trans (h.counter hc)
  free hc := (k.free hc).trans (h.free hc)

/-- The hearing of a telegram and the end of a step write nothing. -/
theorem carried (c : Instr) : Carried (Unwritten c) where
  refl := refl c
  trans := trans
  endReception _ := of_frame (by simp)
  refresh _ _ := of_frame (by simp)
  conflict _ := of_frame (by simp)
  downstream _ _ := of_frame (by simp)
  conclude _ _ := of_frame (by simp)

end Unwritten

open Unwritten

/-! ### The commands that write -/

section
variable (s : State)

/-- A start cuts off a commit and a block write, and nothing else writes (R23, R177). -/
theorem enterHold_unwritten {c : Instr} (cause : StartCause) (hs : c.writesSlots = true) (hb : c.writesBlock = true)
    (hf : c.readsFree = true) : Unwritten c s (s.enterHold cause) := by
  obtain ⟨counter, factory, -, -⟩ := s.enterHold_nv cause
  exact ⟨by rw [State.enterHold_eq], factory, by simp [hs], by simp [hb], fun _ => counter, by simp [hf]⟩

/-- The supply warning ends a block write (R177). -/
theorem warnSupply_unwritten (d : Nat) : Unwritten (.supplyWarning d) s s.warnSupply :=
  ⟨by simp [State.warnSupply], by simp [State.warnSupply], fun _ => by simp [State.warnSupply], nofun,
    fun _ => by simp [State.warnSupply], nofun⟩

/-- The scan and the entries of the phases write the start counter alone (R174, R175). -/
theorem afterStrap_unwritten (p : Pin) : Unwritten (.inputFilterFill p) s s.afterStrap :=
  ⟨by simp, by simp, fun _ => by simp, fun _ => by simp, fun h => absurd rfl (h p), fun _ => by simp⟩

end

/-! ### Every command -/

/-- What a command may not write stands as it stood. -/
theorem exec_unwritten {c : Instr} {s t : State} (h : exec c s = .next t) : Unwritten c s t := by
  have hk : Carried (Unwritten c) := Unwritten.carried c
  cases c with
  | start cause =>
    cases h
    exact enterHold_unwritten s cause rfl rfl rfl
  | supplyWarning d =>
    cases h
    split
    · exact of_frame (by simp)
    · have hw : Unwritten (.supplyWarning d) s (if s.supplyFalls d then s.warnSupply else s) :=
        hk.guard fun _ => warnSupply_unwritten s d
      dsimp only
      split
      · rename_i hd
        have hslots : (Instr.supplyWarning d).writesSlots = true := decide_eq_true hd
        exact (hw.trans (enterHold_unwritten _ .supply hslots rfl rfl)).trans (of_frame (by simp))
      · refine hk.guard fun hf => hk.concluded ?_
        simpa [hf] using hw
  | inputFilterFill pin =>
    cases h
    refine hk.guard fun _ => ?_
    have hfill : Unwritten (.inputFilterFill pin) s (s.setFilter pin (s.filter pin).fill) := of_frame (by simp)
    split
    · exact hfill.trans (afterStrap_unwritten _ pin)
    · exact hk.concluded hfill
  | configCommitVerify ws =>
    cases h
    split
    · exact hk.refl s
    · exact ⟨by simp, by simp, fun _ => by simp, nofun, fun _ => by simp, fun _ => by simp⟩
  | commitVerify bs =>
    cases h
    split
    · exact hk.refl s
    · refine hk.concluded ?_
      split <;> exact ⟨by simp, by simp, nofun, fun _ => by simp, fun _ => by simp, fun _ => by simp⟩
  | collectMark =>
    cases h
    split
    · exact hk.refl s
    · refine hk.guard fun _ => hk.concluded ?_
      exact ⟨by simp, by simp, nofun, fun _ => by simp, fun _ => by simp, fun _ => by simp⟩
  | commitBegin =>
    cases h
    split
    · exact hk.refl s
    · split
      · exact hk.refl s
      · exact hk.guard fun _ => of_reader rfl (by simp)
  | clcFall | releaseTimeExpiry =>
    cases h
    exact hk.guard fun _ => of_reader rfl (by simp)
  | readNext f =>
    cases h
    exact hk.hearKind _ _ _ fun t => by split <;> exact of_reader rfl (by simp)
  | configWrite f =>
    cases h
    split
    · exact hk.hearService _ _ _ fun t => of_reader rfl (by simp)
    · exact hk.hearKind _ _ _ fun t => hk.refl t
  | starting | joiningEnd | tripFilterMet x | recoveryTimerExpiry x | ilkFall | ilkRise | clampTimeout
  | classifyTimeExpiry | pulldownReached | pulldownTimeout | pStart | starvationPromotion | ownHazardChange
  | oxygenHigh | oxygenUnderRunLimit | inertReached | purgeClearMet | carryOverExpiry x | srfChange | doorTimerExpiry
  | sweepWaitExpiry | sweepTimerExpiry | sweepRetryExpiry | purgeWaitExpiry | answerTimerExpiry | holdOffExpiry
  | peerStale x | statusTimerExpiry | serviceStatusExpiry | serviceIdleTimerExpiry | telegramDiscard x
  | headerHigh | faultClearButton =>
    cases h
    exact hk.guard fun _ => of_frame (by simp)
  | lineIdle | lineBusy | transmitComplete =>
    cases h
    split <;> exact of_frame (by simp)
  | faultClear f | release f | purgeCall f | purgeClear f | purgeEnd f | certificate f | readData f | checkResult f
  | configAnswer f | read f | collect f | checkRange f =>
    cases h
    exact hk.hearKind _ _ _ fun t => of_frame (by simp)
  | claim f =>
    cases h
    exact hk.hearKind _ _ _ fun t => by split <;> exact of_frame (by simp)
  | announce f | closeAccount f | abandonAccount f | offer f | accept f | refuse f =>
    cases h
    exact hk.hearKind _ _ _ fun t => hk.guard fun _ => of_frame (by simp)
  | key f | configCommit f =>
    cases h
    split
    · exact hk.hearService _ _ _ fun t => of_frame (by simp)
    · exact hk.hearKind _ _ _ fun t => hk.refl t
  | status f =>
    cases h
    exact hk.hear _ _ fun t => by split <;> exact of_frame (by simp)
  | kindCodeNotInTable code f =>
    cases h
    split
    · exact hk.refl s
    · exact hk.hear _ _ fun t => hk.downstream t s
  | stationSample x =>
    cases h
    split
    · exact hk.refl s
    · split
      · exact of_frame (by simp [State.firstSample])
      · dsimp only
        split <;> exact of_frame (by simp)
  | valveDiscrepancy r =>
    cases h
    refine hk.guard fun _ => ?_
    dsimp only
    split
    · refine hk.concluded ?_
      split <;> exact of_frame (by simp)
    · exact of_frame (by simp)
  | hcdRise | headerRecovered | purgeNeeded | drcFall | zeroWindowComplete =>
    cases h
    refine hk.guard fun _ => hk.concluded ?_
    split <;> exact of_frame (by simp)
  | drcRise =>
    cases h
    refine hk.guard fun _ => ?_
    dsimp only
    split <;> exact of_frame (by simp)
  | startEdge | clcRise | holdTimeExpiry | quiet =>
    cases h
    refine hk.guard fun _ => ?_
    split <;> exact of_frame (by simp)
  | transmitStart bits =>
    cases h
    split
    · exact hk.refl s
    · exact hk.guard fun _ => of_frame (by simp)
  | collision =>
    cases h
    split
    · exact hk.refl s
    · refine hk.concluded ?_
      split <;> exact of_frame (by simp)
  | supplyWarningEnd d =>
    cases h
    split
    · exact of_frame (by simp)
    · exact hk.guard fun _ => of_frame (by simp)

/-- Settles O6: what each command leaves of the memory, and of the phase and the configuration in use (O7's lemma). -/
theorem nonvolatileAndPhaseWriters : Obligations.NonvolatileAndPhaseWriters := by
  intro c s t h
  obtain ⟨pending, factory, slots, block, counter, free⟩ := exec_unwritten h
  exact ⟨pending, factory, slots, block, counter, exec_keepsItem h .phase, free⟩

/-! ### The canonical form (R168) -/

/-- A slot's bytes are written byte by byte. -/
theorem State.writeSlot_cellsOk {s : State} (h : s.cellsOk) (n : Nat) (bs : List Byte) : (s.writeSlot n bs).cellsOk :=
  writeCells_wf _ _ _ h

/-- A start leaves the slot of a commit unchanged or fully written (R23). -/
theorem State.enterHold_cellsOk {s : State} (h : s.cellsOk) (cause : StartCause) : (s.enterHold cause).cellsOk := by
  have hcut : s.cutCommit.cellsOk := by
    unfold State.cutCommit
    split
    · exact h
    · split
      · exact State.writeSlot_cellsOk h _ _
      · exact h
  simpa [State.cellsOk, State.enterHold, State.emptied] using hcut

/-- Every command keeps the canonical form. -/
theorem exec_cellsOk {c : Instr} {s t : State} (hs : s.cellsOk) (h : exec c s = .next t) : t.cellsOk := by
  cases hw : c.writesSlots with
  | false => rwa [State.cellsOk, (exec_unwritten h).slots hw]
  | true =>
    cases c with
    | start cause =>
      cases h
      exact State.enterHold_cellsOk hs cause
    | supplyWarning d =>
      have hd : d < resetThreshold := of_decide_eq_true hw
      have hwarned (b : Bool) : (if b then s.warnSupply else s).cellsOk := by
        cases b <;> simpa [State.cellsOk, State.warnSupply] using hs
      cases h
      split
      · exact hs
      · exact State.enterHold_cellsOk (hwarned _) .supply
    | commitVerify bs =>
      cases h
      split
      · exact hs
      · split
        · simpa [State.cellsOk, State.commitDone] using State.writeSlot_cellsOk hs _ _
        · simpa [State.cellsOk, State.commitFailed] using State.writeSlot_cellsOk hs _ _
    | collectMark =>
      cases h
      split
      · exact hs
      · split
        · simpa [State.cellsOk] using writeCell_wf _ _ _ hs
        · exact hs
    | _ => cases hw

/-- Settles O10: a step is a command, which writes slots whole cells at a time, or a millisecond, which writes none. -/
theorem stepKeepsStoreCanonical : Obligations.StepKeepsStoreCanonical := by
  intro s t hs h
  unfold step at h
  split at h
  · cases h
    have hnv : s.tick.nv = s.nv := by
      unfold State.tick
      split <;> rfl
    rwa [State.cellsOk, hnv]
  · rename_i rest _
    exact exec_cellsOk (s := s.setPending rest) hs h

end Sys2Proof.Machine
end

section
/-! PROOF. Reset, START and STARTING (O3, O18): the values after reset, the volatile state lost at the entry of the
hold, and the leaving of the hold. -/

namespace Sys2Proof.Machine

/-! ### After reset -/

/-- No peer has been heard after reset (R121). -/
theorem reset_peer (a : Nat) : State.reset.peer a = {} := by
  have hentries : State.reset.pt.entries = List.replicate 24 {} := rfl
  rw [State.peer, hentries, List.getD_eq_getElem?_getD, List.getElem?_getD_replicate_default_eq]

/-- Settles O3: every item by the state after reset, the peers, the trip sources and the filters one by one. -/
theorem resetStandsAtStartValues : Obligations.ResetStandsAtStartValues := by
  have hsource (x : TripSource) : (State.reset.source x).st = .normal := by cases x <;> rfl
  have hfilter (p : Pin) : (State.reset.filter p).filled = false ∧ State.reset.level p = false := by
    cases p <;> exact ⟨rfl, rfl⟩
  have hpeer (a : Nat) : (State.reset.peer a).presence = .absent ∧ (State.reset.peer a).summary = none := by
    rw [reset_peer]
    exact ⟨rfl, rfl⟩
  exact ⟨rfl, rfl, State.outputs_hold rfl, rfl, rfl, rfl, rfl, rfl, rfl, rfl, rfl, rfl, rfl, rfl, rfl, rfl, rfl, rfl,
    rfl, rfl, hpeer, rfl, rfl, rfl, rfl, rfl, rfl, rfl, rfl, hsource, rfl, rfl, hfilter, rfl, rfl, rfl, rfl, rfl, rfl⟩

/-! ### The entry of the hold -/

/-- A start leaves the slot of the commit it cuts off unchanged or fully written (R23). -/
theorem State.enterHold_slots (s : State) (cause : StartCause) {c : Commit} (h : s.rs.commit = some c) :
    (s.enterHold cause).nv.slots = s.nv.slots
      ∨ (s.enterHold cause).nv.slots = writeCells s.nv.slots (64 * c.slot) (c.bytes.take 64) := by
  have hcut : (s.enterHold cause).nv.slots = s.cutCommit.nv.slots := by simp [State.enterHold, State.emptied]
  rw [hcut]
  simp only [State.cutCommit, h]
  split
  · exact .inr rfl
  · exact .inl rfl

/-! ### The leaving of the hold -/

/-- The state with which STARTING leaves the hold: every volatile state empty, the factory block checked (R175). -/
theorem checkFactory_emptied (s : State) (hs : s.rs.supplyBelow = false) :
    (s.emptied .starting s.boot.cause).checkFactory =
      { boot := { phase := .starting, cause := s.boot.cause, factoryOk := factoryValid s.nv.factory }
        pu := { codes := if factoryValid s.nv.factory then [] else [66] }
        nv := s.nv, free := s.free, pending := s.pending } := by
  unfold State.checkFactory State.emptied
  rw [hs]
  cases hv : factoryValid s.nv.factory <;> rfl

/-- Settles O18: START is the entry of the hold, STARTING its end while the supply permits it. -/
theorem startLosesVolatileState : Obligations.StartLosesVolatileState := by
  intro s
  refine ⟨fun cause => ?_, fun hp hs => ?_, fun h => ?_⟩
  · obtain ⟨counter, factory, slots, block⟩ := s.enterHold_nv cause
    exact ⟨s.enterHold cause, rfl, s.enterHold_eq cause, counter, factory, slots,
      fun c hc => s.enterHold_slots cause hc, block, State.outputs_hold rfl⟩
  · rw [← checkFactory_emptied s hs]
    simp [exec, execStarting, hp, hs]
  · have hstays : ¬(s.phase = .hold ∧ s.rs.supplyBelow = false) := by
      rcases h with h | h <;> simp [h]
    simp [exec, execStarting, hstays]

end Sys2Proof.Machine
end

section
/-! PROOF. SERVICE (O60): which telegrams it hears, the answers it sends, and what a key, a write, a commit and its
verify make of the lock, the working copy and the configuration block. -/

namespace Sys2Proof.Machine

/-! ### The telegrams of SERVICE (R158, R176) -/

/-- A telegram that SERVICE hears: of its kind's length, to the part's address, from a source 0..23. -/
def State.serves (s : State) (k : Kind) (f : Frame) : Prop :=
  k.lengthOk f.payload.length = true ∧ f.dst.toNat = s.boot.address ∧ f.src.toNat ≤ 23

section
variable {s : State} {k : Kind} {f : Frame} (hl : s.li.hearing = true)
include hl

theorem State.hearService_of_serves (h : s.serves k f) (act : State → State) :
    s.hearService k f act = act s.endReception := by
  obtain ⟨length, dst, src⟩ := h
  simp [State.hearService, hl, length, dst, src, State.endReception]

theorem State.hearService_of_not_serves (h : ¬s.serves k f) (act : State → State) :
    s.hearService k f act = s.endReception := by
  unfold State.hearService
  rw [if_neg (by simp [hl])]
  refine if_neg fun hs => h ?_
  simpa [State.serves, and_assoc, State.endReception] using hs

end

section
variable {s : State} {f : Frame} (hp : s.phase = .service) (hl : s.li.hearing = true)
include hp hl

theorem exec_key_served (h : s.serves .key f) :
    exec (.key f) s = .next (s.endReception.takeKey f.src.toNat (byteAt f.payload 0)) := by
  simp [exec, execKey, hp, State.hearService_of_serves hl h]

theorem exec_configWrite_served (h : s.serves .configWrite f) : exec (.configWrite f) s =
    .next (s.endReception.takeWrite f.src.toNat (f.payload.getD 0 0) (half f.payload 1)) := by
  simp [exec, execConfigWrite, hp, State.hearService_of_serves hl h]

theorem exec_configCommit_served (h : s.serves .configCommit f) :
    exec (.configCommit f) s = .next (s.endReception.takeCommit f.src.toNat) := by
  simp [exec, execConfigCommit, hp, State.hearService_of_serves hl h]

/-- Any other KEY, CONFIG WRITE or CONFIG COMMIT has no effect but the end of its reception. -/
theorem exec_service_unserved :
    (¬s.serves .key f → exec (.key f) s = .next s.endReception)
    ∧ (¬s.serves .configWrite f → exec (.configWrite f) s = .next s.endReception)
    ∧ (¬s.serves .configCommit f → exec (.configCommit f) s = .next s.endReception) := by
  refine ⟨fun h => ?_, fun h => ?_, fun h => ?_⟩
  · simp [exec, execKey, hp, State.hearService_of_not_serves hl h]
  · simp [exec, execConfigWrite, hp, State.hearService_of_not_serves hl h]
  · simp [exec, execConfigCommit, hp, State.hearService_of_not_serves hl h]

end

/-! ### The answers (R176, R179) -/

/-- With a place free a CONFIG ANSWER waits. -/
theorem answerConfig_waits {s : State} (h : s.li.room = true) (a kind status : Nat) (param : Byte) (v : Nat) :
    (s.answerConfig a kind status param v).waits .configAnswer a
      ([BitVec.ofNat 8 kind, BitVec.ofNat 8 status, BitVec.ofNat 8 s.rs.lock.code, param] ++ be16 v) :=
  ⟨_, Line.mem_enqueue_self (by simp) (by simp) (by simp) (.inl h), rfl, rfl, rfl⟩

/-- What waits still waits once a CONFIG ANSWER has been enqueued while a place is free. -/
theorem waits_answerConfig {s : State} {k : Kind} {dst : Nat} {p : List Byte} (hw : s.waits k dst p)
    (hs : k ≠ .status) (hp : k ≠ .purgeCall) (h : s.li.room = true) (a kind status : Nat) (param : Byte) (v : Nat) :
    (s.answerConfig a kind status param v).waits k dst p := by
  obtain ⟨m, hm, rfl, hdst, hpay⟩ := hw
  exact ⟨m, Line.mem_enqueue_of_mem hm hs hp (.inl h) _, rfl, hdst, hpay⟩

theorem answerCommits_cons (s : State) (a : Nat) (srcs : List Nat) (status : Nat) :
    s.answerCommits (a :: srcs) status = (s.answerConfig a 0x7E status 0 0).answerCommits srcs status := rfl

/-- What waits still waits once every commit has been answered, if places are free for all (R163). -/
theorem waits_answerCommits {k : Kind} {dst : Nat} {p : List Byte} (hk : k ≠ .status) (hp : k ≠ .purgeCall)
    (srcs : List Nat) (status : Nat) {s : State} (hw : s.waits k dst p)
    (h : s.li.queue.length + srcs.length ≤ 7) : (s.answerCommits srcs status).waits k dst p := by
  induction srcs generalizing s with
  | nil => exact hw
  | cons a srcs ih =>
    simp only [List.length_cons] at h
    have hroom : s.li.room = true := Line.room_of_length (by omega)
    have hlen : (s.answerConfig a 0x7E status 0 0).li.queue.length ≤ s.li.queue.length + 1 :=
      State.send_length_le (by simp) hroom _ _
    rw [answerCommits_cons]
    exact ih (waits_answerConfig hw hk hp hroom _ _ _ _ _) (by omega)

/-- Every commit has its answer (R176, log 19). -/
theorem answerCommits_waits (srcs : List Nat) (status : Nat) {s : State} (hroom : s.li.room = true)
    (h : srcs.length = 1 ∨ s.li.queue.length + srcs.length ≤ 7) : ∀ a ∈ srcs,
    (s.answerCommits srcs status).waits .configAnswer a
      [0x7E, BitVec.ofNat 8 status, BitVec.ofNat 8 s.rs.lock.code, 0, 0, 0] := by
  induction srcs generalizing s with
  | nil => simp
  | cons b srcs ih =>
    have hfirst := answerConfig_waits hroom b 0x7E status 0 0
    have hrest : (s.answerConfig b 0x7E status 0 0).li.queue.length ≤ s.li.queue.length + 1 :=
      State.send_length_le (by simp) hroom _ _
    simp only [List.length_cons] at h
    intro a ha
    rw [answerCommits_cons]
    rcases srcs with - | ⟨c, srcs⟩
    · obtain rfl : a = b := by simpa using ha
      exact hfirst
    · simp only [List.length_cons] at h ih
      rcases List.mem_cons.mp ha with rfl | ha
      · refine waits_answerCommits (by simp) (by simp) (c :: srcs) status hfirst ?_
        simp only [List.length_cons]
        omega
      · exact ih (Line.room_of_length (by omega)) (.inr (by omega)) a ha

/-! ### KEY (R176) -/

theorem Lock.afterKey_eq (l : Lock) (key : Nat) : l.afterKey key =
    if l = .locked ∧ key = 0x3C then .half else if l = .half ∧ key = 0xA7 then .unlocked else .frozen := by
  cases l <;> simp [Lock.afterKey]

@[simp] theorem takeKey_lock (s : State) (a key : Nat) : (s.takeKey a key).rs.lock = s.rs.lock.afterKey key := rfl

/-! ### CONFIG WRITE (R177, R181) -/

/-- The numbers of the parameters that have a range or a set are those of the block. -/
theorem lt_of_paramRange {n : Nat} {r : Nat × Nat} (h : paramRange n = some r) : n < 55 := by
  unfold paramRange at h
  split at h <;> first | omega | cases h

theorem lt_of_paramInSet {n v : Nat} (h : paramInSet n v = true) : n < 55 := by
  by_contra hn
  have h1 : n ≠ 1 := by omega
  have h4 : n ≠ 4 := by omega
  have h5 : ¬(n = 5 ∨ n = 54) := by omega
  have hsources : ¬(42 ≤ n ∧ n ≤ 52) := by omega
  simp [paramInSet, h1, h4, h5, hsources] at h

/-- A value is stored for a number of the block alone. -/
theorem lt_of_storedValue {n v w : Nat} (h : storedValue n v = some w) : n < 55 := by
  unfold storedValue at h
  split at h
  · exact lt_of_paramRange ‹_›
  · split at h
    · exact lt_of_paramInSet ‹_›
    · cases h

@[simp] theorem State.setLock_lock (s : State) (l : Lock) : (s.setLock l).rs.lock = l := rfl

section
variable (s : State) (a : Nat) (param : Byte) (v : Nat)

/-- A CONFIG WRITE that stores nothing is answered with this status and the value held. -/
def State.refuseWrite (status : Nat) : State :=
  ((s.setLock s.rs.lock).answerConfig a 0x7D status param ((s.setLock s.rs.lock).heldValue param.toNat)).valueRead
    param.toNat

theorem takeWrite_locked (h : s.rs.lock ≠ .unlocked) : s.takeWrite a param v = s.refuseWrite a param 1 := by
  simp only [State.takeWrite, if_pos h]
  rfl

/-- While UNLOCKED a value that has no place in the working copy is refused (R177). -/
theorem takeWrite_refused (h : s.rs.lock = .unlocked) (hv : storedValue param.toNat v = none) :
    s.takeWrite a param v = s.refuseWrite a param (if 55 ≤ param.toNat ∧ param.toNat < 128 then 3 else 2) := by
  have hnot : ¬s.rs.lock ≠ .unlocked := not_not_intro h
  simp only [State.takeWrite, if_neg hnot, State.refuseWrite]
  by_cases hhigh : 128 ≤ param.toNat
  · rw [if_pos hhigh, if_neg (by omega)]
  · by_cases hunheld : 55 ≤ param.toNat
    · rw [if_neg hhigh, if_pos hunheld, if_pos (by omega)]
    · rw [if_neg hhigh, if_neg hunheld, if_neg (by omega), hv, State.valueRead, if_pos (by omega)]

/-- While UNLOCKED any other is stored, and answered with the value stored (R177). -/
theorem takeWrite_stored (h : s.rs.lock = .unlocked) {w : Nat} (hw : storedValue param.toNat v = some w) :
    s.takeWrite a param v = ((s.setLock s.rs.lock).setParam param.toNat w).answerConfig a 0x7D 0 param w := by
  have hnot : ¬s.rs.lock ≠ .unlocked := not_not_intro h
  have hlt := lt_of_storedValue hw
  simp only [State.takeWrite, if_neg hnot]
  rw [if_neg (by omega), if_neg (by omega), hw]

/-- A write changes the working copy and starts the idle timer from full while HALF or UNLOCKED. -/
theorem takeWrite_rs : (s.takeWrite a param v).rs =
    { s.rs with
      working := (s.takeWrite a param v).rs.working
      idle := if s.rs.lock = .half ∨ s.rs.lock = .unlocked then Timer.start 30000 else Timer.stopped } := by
  by_cases hl : s.rs.lock = .unlocked
  · cases hv : storedValue param.toNat v with
    | none => rw [takeWrite_refused s a param v hl hv]; simp [State.refuseWrite, State.setLock]
    | some w => rw [takeWrite_stored s a param v hl hv]; simp [State.setLock, State.setParam]
  · rw [takeWrite_locked s a param v hl]
    simp [State.refuseWrite, State.setLock]

/-- A refusal leaves the working copy and is answered (R177). -/
theorem refuseWrite_spec (hroom : s.li.room = true) (status : Nat) :
    (s.refuseWrite a param status).rs.working = s.rs.working
    ∧ ∃ w, (param.toNat < 55 → w = (s.rs.working.getD param.toNat 0).toNat)
      ∧ (s.refuseWrite a param status).waits .configAnswer a
        ([0x7D, BitVec.ofNat 8 status, BitVec.ofNat 8 s.rs.lock.code, param] ++ be16 w) := by
  refine ⟨by simp [State.refuseWrite], (s.setLock s.rs.lock).heldValue param.toNat, fun h => ?_, ?_⟩
  · simp [State.heldValue, h]
  · have hli : (s.refuseWrite a param status).li = ((s.setLock s.rs.lock).answerConfig a 0x7D status param
        ((s.setLock s.rs.lock).heldValue param.toNat)).li := by simp only [State.refuseWrite, State.valueRead_frame]
    rw [State.waits, hli]
    exact answerConfig_waits hroom a 0x7D status param _

/-- A stored value stands in the working copy and in the answer (R177). -/
theorem takeWrite_stored_spec (hroom : s.li.room = true) (h : s.rs.lock = .unlocked) {w : Nat}
    (hw : storedValue param.toNat v = some w) :
    (s.takeWrite a param v).rs.working = s.rs.working.set param.toNat (BitVec.ofNat 16 w)
    ∧ (s.takeWrite a param v).waits .configAnswer a ([0x7D, 0, 2, param] ++ be16 w) := by
  rw [takeWrite_stored s a param v h hw]
  refine ⟨rfl, ?_⟩
  have hanswer := answerConfig_waits (s := (s.setLock s.rs.lock).setParam param.toNat w) hroom a 0x7D 0 param w
  have hlock : ((s.setLock s.rs.lock).setParam param.toNat w).rs.lock = .unlocked := h
  rw [hlock] at hanswer
  exact hanswer

end

/-! ### CONFIG COMMIT and its verify (R177) -/

section
variable (s : State) (a : Nat)

theorem takeCommit_locked (h : s.rs.lock ≠ .unlocked) :
    s.takeCommit a = (s.setLock s.rs.lock).answerConfig a 0x7E 1 0 0 := if_pos h

theorem takeCommit_supplyLow (h : s.rs.lock = .unlocked) (hs : s.rs.supplyLow = true) :
    s.takeCommit a = (s.answerConfig a 0x7E 4 0 0).setLock .locked := by
  simp [State.takeCommit, h, hs]

theorem takeCommit_begins (h : s.rs.lock = .unlocked) (hs : s.rs.supplyLow = false) : (s.takeCommit a).rs =
    { s.rs with
      idle := Timer.start 30000
      blockWrite := some ⟨s.rs.commitSources ++ [a], blockOf s.rs.working⟩ } := by
  simp [State.takeCommit, h, hs, State.setLock]

/-- The verify leaves what was read back, and the state LOCKED unless it is FROZEN (R176, R177). -/
theorem endBlockWrite_spec (w : BlockWrite) (words : List Half) (ok : Bool) :
    (s.endBlockWrite w words ok).nv = { s.nv with block := words }
    ∧ (s.endBlockWrite w words ok).rs = { s.rs with
        blockWrite := none, idle := Timer.stopped
        lock := if s.rs.lock = .frozen then .frozen else .locked } := by
  refine ⟨by simp [State.endBlockWrite], ?_⟩
  cases hl : s.rs.lock <;> simp [State.endBlockWrite, State.setLock, Lock.closed, hl]

/-- Every commit that the block write served is answered with the lock state as it stood (R176, log 19). -/
theorem endBlockWrite_waits (hroom : s.li.room = true) (w : BlockWrite) (words : List Half) (ok : Bool)
    (h : w.srcs.length = 1 ∨ s.li.queue.length + w.srcs.length ≤ 7) : ∀ b ∈ w.srcs,
    (s.endBlockWrite w words ok).waits .configAnswer b
      [0x7E, if ok then 0 else 4, BitVec.ofNat 8 s.rs.lock.code, 0, 0, 0] := by
  intro b hb
  have hanswer := answerCommits_waits (s := (s.setNv { s.nv with block := words }).setRs
    { s.rs with blockWrite := none }) w.srcs (if ok then 0 else 4) hroom h b hb
  cases ok <;> exact hanswer

end

/-! ### The obligation -/

/-- Settles O60: each telegram by its equation, the verify by the answers to the commits it serves. -/
theorem serviceUnlocksWritesAndCommits : Obligations.ServiceUnlocksWritesAndCommits := by
  intro s hp hl hroom heard idle code
  have hcode (l : Lock) : BitVec.ofNat 8 l.code = code l := by cases l <;> rfl
  refine ⟨fun f => (exec_service_unserved hp hl).1, fun f => (exec_service_unserved hp hl).2.1,
    fun f => (exec_service_unserved hp hl).2.2, fun f h => ?_, fun f h => ?_, fun f h => ?_, fun w ws hw => ?_,
    fun ws hw => by simp [exec, execConfigCommitVerify, hw]⟩
  · refine ⟨_, exec_key_served hp hl h, ?_, rfl, ?_⟩
    · rw [takeKey_lock, Lock.afterKey_eq]
      rfl
    · rw [takeKey_lock, ← hcode]
      have hanswer (l : Lock) := answerConfig_waits (s := s.endReception.setLock l) hroom f.src.toNat 0x7C
        (if l = .frozen then 1 else 0) 0 0
      have hbit (l : Lock) : BitVec.ofNat 8 (if l = .frozen then 1 else 0) = if l = .frozen then 1 else 0 := by
        split <;> rfl
      simp only [hbit] at hanswer
      exact hanswer _
  · have hparam : BitVec.ofNat 8 (byteAt f.payload 0) = f.payload.getD 0 0 := by simp [byteAt]
    refine ⟨_, exec_configWrite_served hp hl h, ?_⟩
    intro n v stored refused
    have hstored {w : Nat} (hk : s.rs.lock = .unlocked) (hw : storedValue n v = some w) : stored w := by
      simp only [stored]
      rw [hparam]
      exact takeWrite_stored_spec s.endReception _ _ _ hroom hk hw
    have hrefused {status : Nat}
        (ht : s.endReception.takeWrite f.src.toNat (f.payload.getD 0 0) v =
          s.endReception.refuseWrite f.src.toNat (f.payload.getD 0 0) status) : refused (BitVec.ofNat 8 status) := by
      have hspec := refuseWrite_spec s.endReception f.src.toNat (f.payload.getD 0 0) hroom status
      rw [← ht] at hspec
      simp only [refused]
      rw [hparam, ← hcode]
      exact hspec
    refine ⟨by simp [State.endReception], takeWrite_rs _ _ _ _, fun hk => ⟨fun lo hi hr => ?_, fun hr hv => ?_,
      fun hr hv => ?_⟩, fun hk => hrefused (takeWrite_locked _ _ _ _ hk)⟩
    · exact hstored hk (by simp only [storedValue, hr])
    · exact hstored hk (by simp only [storedValue, hr, hv, if_true])
    · have hnone : storedValue n v = none := by simp [storedValue, hr, hv]
      have hstatus := hrefused (takeWrite_refused _ _ _ _ hk hnone)
      rwa [apply_ite (BitVec.ofNat 8)] at hstatus
  · refine ⟨_, exec_configCommit_served hp hl h, by simp [State.endReception], ?_⟩
    rw [← hcode]
    refine ⟨fun hk => ?_, fun hk hs => ?_, takeCommit_begins s.endReception f.src.toNat⟩
    · rw [takeCommit_locked s.endReception _ hk]
      exact ⟨rfl, answerConfig_waits (s := s.endReception.setLock s.rs.lock) hroom f.src.toNat 0x7E 1 0 0⟩
    · rw [takeCommit_supplyLow s.endReception _ hk hs]
      exact ⟨rfl, answerConfig_waits (s := s.endReception) hroom f.src.toNat 0x7E 4 0 0⟩
  · obtain ⟨nv, rs⟩ := endBlockWrite_spec s w ws (decide (ws = w.words))
    refine ⟨_, by simp [exec, execConfigCommitVerify, hw], nv, rs, fun h a ha => ?_⟩
    rw [← hcode]
    simpa using endBlockWrite_waits s hroom w ws (decide (ws = w.words)) h a ha

end Sys2Proof.Machine
end

section
/-! SUPPORT. The records of the store (R168, R175): a slot that holds one is among the used slots, and a byte written
into a slot is one byte of its 64. -/

namespace Sys2Proof.Machine

/-! ### The slots that hold a record -/

/-- An address that is not listed reads blank. -/
theorem readCell_unlisted {m : List Host.Cell} {a : Nat} (h : ∀ c ∈ m, c.1 ≠ a) : readCell m a = blankByte := by
  induction m with
  | nil => rfl
  | cons c r ih =>
    obtain ⟨k, v⟩ := c
    have hne : a ≠ k := Ne.symm (h (k, v) (by simp))
    rw [readCell, if_neg hne]
    exact ih fun c hc => h c (by simp [hc])

/-- The used slots are those of the 1,024 in which a cell is listed. -/
theorem mem_usedSlots {m : List Host.Cell} {n : Nat} : n ∈ usedSlots m ↔ n < slotCount ∧ ∃ c ∈ m, c.1 / 64 = n := by
  induction m with
  | nil => simp [usedSlots]
  | cons c r ih =>
    obtain ⟨k, v⟩ := c
    simp only [usedSlots, List.exists_mem_cons_iff]
    split
    · rename_i hnew
      rw [List.mem_cons, ih]
      constructor
      · rintro (rfl | ⟨hn, hc⟩)
        · exact ⟨hnew.1, .inl rfl⟩
        · exact ⟨hn, .inr hc⟩
      · rintro ⟨hn, rfl | hc⟩
        · exact .inl rfl
        · exact .inr ⟨hn, hc⟩
    · rename_i hold
      rw [ih]
      refine ⟨fun ⟨hn, hc⟩ => ⟨hn, .inr hc⟩, ?_⟩
      rintro ⟨hn, rfl | hc⟩
      · have hhead : (usedSlots r).head? = some (k / 64) := by
          by_contra hne
          exact hold ⟨hn, hne⟩
        exact ih.mp (List.mem_of_head? hhead)
      · exact ⟨hn, hc⟩

/-- A slot that holds a record has a listed cell. -/
theorem listed_of_slotState {m : List Host.Cell} {n : Nat} (h : slotState m n ≠ .empty) : ∃ c ∈ m, c.1 / 64 = n := by
  by_contra hnone
  refine h (blank_slot_empty m n fun i hi => readCell_unlisted fun c hc hci => hnone ⟨c, hc, ?_⟩)
  omega

/-- The records of the store are the slots that are not EMPTY, each with its sequence. -/
theorem mem_records {m : List Host.Cell} {r : Nat × Nat} :
    r ∈ records m ↔ r.1 < 1024 ∧ slotState m r.1 ≠ .empty ∧ slotSequence m r.1 = r.2 := by
  obtain ⟨n, q⟩ := r
  simp only [records, List.mem_map, List.mem_filter, mem_usedSlots, Prod.mk.injEq, decide_eq_true_eq]
  constructor
  · rintro ⟨_, ⟨⟨hn, -⟩, hst⟩, rfl, hq⟩
    exact ⟨hn, hst, hq⟩
  · rintro ⟨hn, hst, hq⟩
    exact ⟨n, ⟨⟨hn, listed_of_slotState hst⟩, hst⟩, rfl, hq⟩

/-! ### A byte of a slot -/

theorem byteAt_set_ne (bs : List Byte) {i j : Nat} (h : i ≠ j) (v : Byte) : byteAt (bs.set j v) i = byteAt bs i := by
  simp [byteAt, List.getD_eq_getElem?_getD, List.getElem?_set_ne h.symm]

@[simp] theorem slotBytes_length (m : List Host.Cell) (n : Nat) : (slotBytes m n).length = 64 := by simp [slotBytes]

/-- A byte written into a slot is one of its 64. -/
theorem slotBytes_writeCell {m : List Host.Cell} (hm : cellsWf m = true) (n i : Nat) (v : Byte) :
    slotBytes (writeCell m (64 * n + i) v) n = (slotBytes m n).set i v := by
  refine List.ext_getElem (by simp) fun j hj _ => ?_
  rw [List.getElem_set]
  simp only [slotBytes, List.getElem_map, List.getElem_range]
  split
  · rename_i hij
    rw [← hij, readCell_writeCell_same _ _ _ hm]
  · rename_i hij
    exact readCell_writeCell_other _ _ _ _ (by omega)

/-- The collected mark counts at its HELD value in the check word, and the sequence does not read it (R180). -/
theorem marked_spec {bs : List Byte} (hlen : bs.length = 64) (h : slotStateOf bs = .held) :
    slotStateOf (bs.set 48 0) = .collected ∧ full (bs.set 48 0) 44 = full bs 44 := by
  have hcheck : recordCheck (bs.set 48 0) = recordCheck bs := by simp [recordCheck]
  have hword : half (bs.set 48 0) 62 = half bs 62 := by simp [half, byteAt_set_ne]
  have hmark : (bs.set 48 0).getD 48 0 = 0 := by simp [List.getD_eq_getElem?_getD, hlen]
  refine ⟨?_, by simp [full, half, byteAt_set_ne]⟩
  unfold slotStateOf at h ⊢
  rw [hcheck, hword, hmark]
  split at h
  · rename_i heq
    rw [if_pos heq]
    rfl
  · cases h

end Sys2Proof.Machine
end

section
/-! PROOF. The collection (O58): COLLECT raises the target, and the mark goes to the lowest HELD record at or below
it. -/

namespace Sys2Proof.Machine

/-- A HELD slot whose sequence the collect target has reached (R172). -/
def State.markDue (s : State) (n : Nat) : Prop :=
  n < 1024 ∧ slotState s.nv.slots n = .held ∧ ∃ g, s.rs.target = some g ∧ slotSequence s.nv.slots n ≤ g

/-- The records that the collect target has reached. -/
def State.dueRecords (s : State) (g : Nat) : List (Nat × Nat) :=
  (records s.nv.slots).filter fun r => slotState s.nv.slots r.1 == .held && decide (r.2 ≤ g)

section
variable {s : State}

theorem mem_dueRecords {g : Nat} {r : Nat × Nat} (ht : s.rs.target = some g) :
    r ∈ s.dueRecords g ↔ s.markDue r.1 ∧ slotSequence s.nv.slots r.1 = r.2 := by
  simp only [State.dueRecords, List.mem_filter, mem_records, Bool.and_eq_true, beq_iff_eq, decide_eq_true_eq,
    State.markDue, ht, Option.some.injEq, exists_eq_left']
  constructor
  · rintro ⟨⟨hn, -, hq⟩, hheld, hle⟩
    exact ⟨⟨hn, hheld, hq.trans_le hle⟩, hq⟩
  · rintro ⟨⟨hn, hheld, hle⟩, hq⟩
    exact ⟨⟨hn, by simp [hheld], hq⟩, hheld, hq.ge.trans hle⟩

/-- The target's mark is for the due record of the lowest sequence. -/
theorem markTarget_eq {g : Nat} (ht : s.rs.target = some g) : s.markTarget = (s.dueRecords g).argmin Prod.snd := by
  simp only [State.markTarget, ht, List.argmin, State.dueRecords]
  congr 1
  funext best r
  cases best <;> rfl

theorem markTarget_none (h : ¬∃ n, s.markDue n) : s.markTarget = none := by
  cases ht : s.rs.target with
  | none => simp [State.markTarget, ht]
  | some g =>
    rw [markTarget_eq ht, List.argmin_eq_none]
    exact List.eq_nil_iff_forall_not_mem.mpr fun r hr => h ⟨r.1, ((mem_dueRecords ht).mp hr).1⟩

theorem markTarget_some (h : ∃ n, s.markDue n) : ∃ n q, s.markTarget = some (n, q) ∧ s.markDue n
    ∧ ∀ m, s.markDue m → slotSequence s.nv.slots n ≤ slotSequence s.nv.slots m := by
  obtain ⟨n, hn⟩ := h
  obtain ⟨-, -, g, ht, -⟩ := id hn
  have hmem {m : Nat} (hm : s.markDue m) : (m, slotSequence s.nv.slots m) ∈ s.dueRecords g :=
    (mem_dueRecords ht).mpr ⟨hm, rfl⟩
  cases hbest : (s.dueRecords g).argmin Prod.snd with
  | none =>
    rw [List.argmin_eq_none] at hbest
    simpa [hbest] using hmem hn
  | some r =>
    obtain ⟨hdue, hseq⟩ := (mem_dueRecords ht).mp (List.argmin_mem hbest)
    refine ⟨r.1, r.2, by rw [markTarget_eq ht, hbest], hdue, fun m hm => ?_⟩
    rw [hseq]
    exact List.le_of_mem_argmin (f := Prod.snd) (hmem hm) hbest

/-- The mark is written outside a commit and a supply warning (R172). -/
theorem exec_collectMark {n q : Nat} (hmark : s.markTarget = some (n, q)) (hw : s.working = true)
    (hc : s.rs.commit = none) (hs : s.rs.supplyLow = false) : exec .collectMark s =
      .next ((s.setNv { s.nv with slots := writeCell s.nv.slots (64 * n + 48) 0 }).evalFull.conclude s) := by
  simp [exec, execCollectMark, hmark, hw, hc, hs]

theorem exec_collectMark_idle (h : s.markTarget = none ∨ s.working = false ∨ s.rs.commit ≠ none
    ∨ s.rs.supplyLow = true) : exec .collectMark s = .next s := by
  simp only [exec, execCollectMark]
  split
  · rfl
  · rename_i hmark
    have hno : ¬(s.working && s.rs.commit.isNone && !s.rs.supplyLow) = true := by
      rcases h with h | h | h | h
      · simp [hmark] at h
      · simp [h]
      · simp [Option.isNone_iff_eq_none, h]
      · simp [h]
    rw [if_neg hno]

theorem exec_collect {f : Frame} (h : s.takes .collect f = true) : exec (.collect f) s =
    .next ((s.noted f).setRs { (s.noted f).rs with
      target := some ((s.noted f).rs.raisedTarget (full f.payload 0)) }) := by
  simp [exec, execCollect, State.hearKind_of_takes h]

end

/-- Settles O58: the target by its equation, the mark by the lowest of the due records and one byte of its slot. -/
theorem collectMarksTheLowestHeldRecord : Obligations.CollectMarksTheLowestHeldRecord := by
  intro s
  refine ⟨fun f h => ⟨_, exec_collect h, ?_⟩, fun hs => ⟨fun hdue hw hc hl => ?_, fun h => ?_⟩⟩
  · cases ht : s.rs.target <;> simp [State.setRs, Store.raisedTarget, ht]
  · obtain ⟨n, q, hmark, hn, hlow⟩ := markTarget_some hdue
    refine ⟨_, exec_collectMark hmark hw hc hl, n, hn, hlow, fun a => ?_, ?_⟩
    · simp only [State.conclude_frame, State.evalFull_frame, State.setNv_nv]
      split
      · rename_i ha
        rw [ha, readCell_writeCell_same _ _ _ hs]
      · exact readCell_writeCell_other _ _ _ _ ‹_›
    · obtain ⟨-, hheld, -⟩ := hn
      simp only [State.conclude_frame, State.evalFull_frame, State.setNv_nv, slotState, slotSequence,
        slotBytes_writeCell hs]
      exact marked_spec (slotBytes_length _ _) hheld
  · exact exec_collectMark_idle (h.imp_left markTarget_none)

end Sys2Proof.Machine
end

section
/-! PROOF. The end of STARTING (O19): the phase that the fill of SVC leads to, what the scan finds, and the first sample
after the check of the configuration. -/

namespace Sys2Proof.Machine

/-! ### The scan (R168, R175) -/

/-- The store-full flag as it is evaluated (R168). -/
@[simp] theorem State.evalFull_full (s : State) :
    s.evalFull.rs.full = (slotState s.nv.slots s.rs.writePosition == .held || s.rs.fault) := by
  unfold State.evalFull
  dsimp only
  split <;> simp

/-- The highest record is the first one of the greatest sequence. -/
theorem highestRecord_eq (rs : List (Nat × Nat)) : highestRecord rs = rs.argmax Prod.snd := by
  unfold highestRecord List.argmax
  congr 1
  funext best r
  cases best <;> rfl

theorem scan_of_none {s : State} (h : records s.nv.slots = []) :
    s.scan = (s.setRs { s.rs with lastSequence := 0, writePosition := 0 }).evalFull := by
  simp [State.scan, highestRecord_eq, h]

theorem scan_of_some {s : State} {n q : Nat} (h : (records s.nv.slots).argmax Prod.snd = some (n, q)) :
    s.scan = (s.setRs { s.rs with lastSequence := q, writePosition := (n + 1) % 1024 }).evalFull := by
  simp [State.scan, highestRecord_eq, h, slotCount]

/-- What the scan finds in the slots. -/
theorem scan_spec (s : State) :
    (∀ n < 1024, slotState s.nv.slots n ≠ .empty → slotSequence s.nv.slots n ≤ s.scan.rs.lastSequence)
    ∧ ((s.scan.rs.lastSequence = 0 ∧ s.scan.rs.writePosition = 0 ∧ ∀ n < 1024, slotState s.nv.slots n = .empty)
      ∨ ∃ n < 1024, slotState s.nv.slots n ≠ .empty ∧ slotSequence s.nv.slots n = s.scan.rs.lastSequence
        ∧ s.scan.rs.writePosition = (n + 1) % 1024)
    ∧ (s.scan.rs.full = true ↔ slotState s.nv.slots s.scan.rs.writePosition = .held ∨ s.rs.fault = true) := by
  have hmem {n : Nat} (hn : n < 1024) (hst : slotState s.nv.slots n ≠ .empty) :
      (n, slotSequence s.nv.slots n) ∈ records s.nv.slots := mem_records.mpr ⟨hn, hst, rfl⟩
  cases hbest : (records s.nv.slots).argmax Prod.snd with
  | none =>
    have hnone : records s.nv.slots = [] := List.argmax_eq_none.mp hbest
    have hempty (n : Nat) (hn : n < 1024) : slotState s.nv.slots n = .empty := by
      by_contra hst
      simpa [hnone] using hmem hn hst
    rw [scan_of_none hnone]
    exact ⟨fun n hn hst => absurd (hempty n hn) hst, .inl ⟨by simp, by simp, hempty⟩, by simp⟩
  | some r =>
    obtain ⟨hn, hst, hq⟩ := mem_records.mp (List.argmax_mem hbest)
    rw [scan_of_some hbest]
    refine ⟨fun n hn hst => ?_, .inr ⟨r.1, hn, hst, ?_, ?_⟩, ?_⟩
    · simpa using List.le_of_mem_argmax (f := Prod.snd) (hmem hn hst) hbest
    · simpa using hq
    · simp
    · simp

/-! ### The phases that follow SVC (R175, R176) -/

section
variable {s : State}

theorem loadConfig_valid (h : blockValid s.nv.block = true) : s.loadConfig =
    (s.setCfg (settingsOf s.nv.block)).setBoot { s.boot with address := (s.nv.block.getD 0 0).toNat } := by
  simp only [State.loadConfig, h, if_true]
  rfl

theorem loadConfig_invalid (h : blockValid s.nv.block = false) :
    s.loadConfig = (s.setCfg {}).setBoot { s.boot with address := 30 } := by
  simp [State.loadConfig, h]

/-- SVC on: SERVICE at the configured address, or at 30. -/
theorem enterService_spec (s : State) : s.enterService.phase = .service ∧ s.enterService.rs.lock = .locked
    ∧ s.enterService.rs.working = workingCopyOf s.nv.block s.rs.working ∧ s.enterService.boot.cause = s.boot.cause
    ∧ s.enterService.boot.address = (if blockValid s.nv.block then (s.nv.block.getD 0 0).toNat else 30) := by
  refine ⟨rfl, rfl, rfl, ?_, ?_⟩ <;> cases h : blockValid s.nv.block
  · simp [State.enterService, loadConfig_invalid h]
  · simp [State.enterService, loadConfig_valid h]
  · simp [State.enterService, loadConfig_invalid h]
  · simp [State.enterService, loadConfig_valid h]

/-- SVC off and an invalid block: CONFIG FAULT at address 30. -/
theorem enterConfigFault_spec (h : blockValid s.nv.block = false) :
    s.enterConfigFault.phase = .configFault ∧ 64 ∈ s.enterConfigFault.pu.codes
    ∧ s.enterConfigFault.boot.address = 30 ∧ s.enterConfigFault.boot.cause = s.boot.cause := by
  simp [State.enterConfigFault, State.phase, loadConfig_invalid h, mem_insertCode]

/-- The continuous comparators by role (R29, R30). -/
theorem continuousComparators_eq (foam : Bool) : continuousComparators foam =
    if foam = true then
      { ambientWatch := Comparator.arm, ambientStop := Comparator.arm, headerHigh := Comparator.arm
        headerRecovered := Comparator.arm, oxygenUnder := Comparator.arm, oxygenHigh := Comparator.arm
        chamberWatch := Comparator.arm, chamberStop := Comparator.arm, purgeNeeded := Comparator.arm }
    else
      { ambientWatch := Comparator.arm, ambientStop := Comparator.arm, headerHigh := Comparator.arm
        headerRecovered := Comparator.arm } := rfl

/-- SVC off and a valid block: the configuration is in use, and the counter is raised (R174). -/
theorem normalStart_spec (h : blockValid s.nv.block = true) :
    s.normalStart.boot = { s.boot with address := (s.nv.block.getD 0 0).toNat, checked := true }
    ∧ s.normalStart.cfg = settingsOf s.nv.block ∧ s.normalStart.nv.startCounter = s.nv.startCounter + 1
    ∧ s.normalStart.mu.cmp = continuousComparators s.normalStart.isFoam := by
  simp [State.normalStart, loadConfig_valid h, State.armContinuous, State.raiseCounter, State.isFoam]

theorem afterStrap_on (h : s.level .svc = true) : s.afterStrap = s.enterService := if_pos h

theorem afterStrap_fault (h : s.level .svc = false) (hv : blockValid s.nv.block = false) :
    s.afterStrap = s.enterConfigFault := by
  simp [State.afterStrap, h, hv]

theorem afterStrap_normal (h : s.level .svc = false) (hv : blockValid s.nv.block = true) :
    s.afterStrap = s.normalStart := by
  simp [State.afterStrap, h, hv]

/-- The fill of SVC in STARTING leads on. -/
theorem exec_strapFill (hp : s.phase = .starting) (hd : (s.filter .svc).fillDue = true) :
    exec (.inputFilterFill .svc) s = .next (s.setFilter .svc (s.filter .svc).fill).afterStrap := by
  simp [exec, execInputFilterFill, hp, hd]

end

theorem afterStrap_cause (s : State) : s.afterStrap.boot.cause = s.boot.cause := by
  cases h : s.level .svc with
  | true => rw [afterStrap_on h, (enterService_spec s).2.2.2.1]
  | false =>
    cases hv : blockValid s.nv.block with
    | false => rw [afterStrap_fault h hv, (enterConfigFault_spec hv).2.2.2]
    | true => rw [afterStrap_normal h hv, (normalStart_spec hv).1]

/-! ### The first sample after the check (R29, R129) -/

theorem sampleLevel_arm_met (rel : Bool) : (Comparator.arm.sampleLevel rel).met = rel :=
  (Comparator.arm.sampleLevel_level rel).1 rfl

/-- Oxygen high, of hold 0, is met within the first sample that counts. -/
theorem sample_arm_fired (rel : Bool) :
    (if (Comparator.arm.sample 0 rel).due 0 then (Comparator.arm.sample 0 rel).fire
      else Comparator.arm.sample 0 rel).met = rel := by
  cases rel <;> rfl

/-- A comparator that needs 20 samples has a run of 1 at most after the first (R28). -/
theorem sample_arm_twenty (rel : Bool) : Comparator.arm.sample 20 rel = ⟨true, if rel then 1 else 0, false⟩ := by
  cases rel <;> rfl

theorem State.setMu_isFoam (s : State) (x : Measure) : (s.setMu x).isFoam = s.isFoam := rfl

/-- The own hazard that the first sample gives (R89, R129). -/
theorem firstHazard_level {s : State}
    (h : s.mu.cmp = sampleComparators s.cfg s.isFoam s.mu.ch (continuousComparators s.isFoam)) :
    s.firstHazard.pt.ownHazard =
      (let c := s.mu.ch
      let foam := s.cfg.role = .foam
      let ha := if foam then c.c5 else c.c3
      if s.cfg.ambientStop ≤ ha ∨ (foam ∧ (s.cfg.chamberStop ≤ c.c4
          ∨ (s.cfg.oxygenTrip ≤ c.c3 ∧ s.cfg.chamberWatch ≤ c.c4))) then .stop
      else if s.cfg.ambientWatch ≤ ha ∨ (foam ∧ s.cfg.chamberWatch ≤ c.c4) then .watch
      else .noHazard) := by
  by_cases hf : s.cfg.role = .foam
  · have hfoam : s.isFoam = true := by simp [State.isFoam, hf]
    simp [State.firstHazard, State.hazardLevel, h, hfoam, hf, sampleComparators, continuousComparators,
      sampleLevel_arm_met, State.setCmp, State.setMu_isFoam, ambient, sample_arm_fired]
  · have hfoam : s.isFoam = false := by simp [State.isFoam, hf]
    simp [State.firstHazard, State.hazardLevel, h, hfoam, hf, sampleComparators, continuousComparators,
      sampleLevel_arm_met, State.setCmp, State.setMu_isFoam, ambient]

/-! ### The obligation -/

section
variable {s : State}

/-- A valid block and SVC off: what stands when the check of the configuration has ended. -/
theorem strapFill_normal (hp : s.phase = .starting) (h : s.level .svc = false)
    (hv : blockValid s.nv.block = true) :
    s.afterStrap.phase = .starting ∧ s.afterStrap.boot.checked = true ∧ s.afterStrap.cfg = settingsOf s.nv.block
    ∧ s.afterStrap.boot.address = (s.nv.block.getD 0 0).toNat
    ∧ s.afterStrap.nv.startCounter = s.nv.startCounter + 1
    ∧ s.afterStrap.mu.cmp = continuousComparators s.afterStrap.isFoam
    ∧ (∀ n < 1024, slotState s.nv.slots n ≠ .empty → slotSequence s.nv.slots n ≤ s.afterStrap.rs.lastSequence)
    ∧ ((s.afterStrap.rs.lastSequence = 0 ∧ s.afterStrap.rs.writePosition = 0
          ∧ ∀ n < 1024, slotState s.nv.slots n = .empty)
        ∨ ∃ n < 1024, slotState s.nv.slots n ≠ .empty ∧ slotSequence s.nv.slots n = s.afterStrap.rs.lastSequence
          ∧ s.afterStrap.rs.writePosition = (n + 1) % 1024)
    ∧ (s.afterStrap.rs.full = true ↔
        slotState s.nv.slots s.afterStrap.rs.writePosition = .held ∨ s.rs.fault = true) := by
  obtain ⟨hboot, hcfg, hcounter, hcmp⟩ := normalStart_spec hv
  have hstart : s.afterStrap = s.loadConfig.armContinuous.raiseCounter.scan := afterStrap_normal h hv
  rw [State.normalStart, ← hstart] at hboot hcfg hcounter hcmp
  have hscan := scan_spec s.loadConfig.armContinuous.raiseCounter
  rw [← hstart] at hscan
  exact ⟨(congrArg Boot.phase hboot).trans hp, congrArg Boot.checked hboot, hcfg, congrArg Boot.address hboot,
    hcounter, hcmp, by simpa [State.raiseCounter, State.armContinuous] using hscan⟩

end

/-! ### The first sample (R175 step 6) -/

/-- The state that the first sample after the check leaves when it has been taken, before its hazard is formed. -/
def State.firstTaken (s : State) (x : Sample) : State :=
  (s.setBoot { s.boot with phase := .joining }).sampleTaken x

section
variable {s : State} (x : Sample)

theorem firstSample_eq : s.firstSample x = (s.firstTaken x).firstHazard.enterJoining := rfl

@[simp] theorem State.firstTaken_frame :
    (s.firstTaken x).boot = { s.boot with phase := .joining } ∧ (s.firstTaken x).cfg = s.cfg
    ∧ (s.firstTaken x).li = s.li ∧ (s.firstTaken x).ms = s.ms ∧ (s.firstTaken x).rs = s.rs
    ∧ (s.firstTaken x).nv = s.nv := by
  simp [State.firstTaken, State.sampleTaken]

/-- The comparators at the first sample that counts (R28, R29). -/
theorem firstTaken_cmp (hc : s.mu.cmp = continuousComparators s.isFoam) :
    (s.firstTaken x).mu.cmp =
      sampleComparators s.cfg s.isFoam (s.firstTaken x).mu.ch (continuousComparators s.isFoam) := by
  have hsample := sampleMu_cmp x (s := s.setBoot { s.boot with phase := .joining }) rfl
  simpa [State.firstTaken, State.isFoam, hc] using hsample

/-- A header-high that needs 20 samples is not met at the first (R114). -/
theorem firstTaken_headerHigh (hc : s.mu.cmp = continuousComparators s.isFoam) :
    (s.firstTaken x).mu.cmp.headerHigh =
      ⟨true, if s.cfg.backoffLimit ≤ (s.firstTaken x).mu.ch.c2 then 1 else 0, false⟩ := by
  have harm : (continuousComparators s.isFoam).headerHigh = Comparator.arm := by
    cases s.isFoam <;> rfl
  simp [firstTaken_cmp x hc, sampleComparators, harm, sample_arm_twenty]

/-- The first STATUS carries the state that the first sample gives, in class 1 when it raises the hazard (R127). -/
theorem firstSample_reports : ∃ m ∈ (s.firstSample x).li.queue, m.kind = .status
    ∧ m.payload = (s.firstSample x).statusPayload
    ∧ (s.li.lastHazard.rank < (s.firstSample x).pt.ownHazard.rank → m.cls = 1) := by
  obtain ⟨m, hm, hk, -, hpayload, hcls⟩ := State.sendStatus_reports
    (((s.firstTaken x).firstHazard.setBoot { (s.firstTaken x).firstHazard.boot with
      phase := .joining, joining := Timer.start (s.firstTaken x).firstHazard.cfg.staleTime }).setMs
      { (s.firstTaken x).firstHazard.ms with backoff := (s.firstTaken x).firstHazard.mu.cmp.headerHigh.met })
  exact ⟨m, hm, hk, hpayload, fun h => hcls (by simpa [firstSample_eq] using h)⟩

end

theorem State.enterJoining_spec (s : State) : s.enterJoining.boot =
      { s.boot with phase := .joining, joining := Timer.start (s.cfg.staleCount * s.cfg.statusInterval) }
    ∧ s.enterJoining.pt.timer = Timer.start s.cfg.statusInterval
    ∧ s.enterJoining.ms.backoff = s.mu.cmp.headerHigh.met := by
  simp [State.enterJoining, State.sendStatus, Settings.staleTime]

@[simp] theorem State.firstHazard_headerHigh (s : State) :
    s.firstHazard.mu.cmp.headerHigh = s.mu.cmp.headerHigh := rfl

/-- Settles O19: what follows the level of SVC by its three cases, and the first sample by the state it takes. -/
theorem strapFillLeadsToThePhase : Obligations.StrapFillLeadsToThePhase := by
  unfold Obligations.StrapFillLeadsToThePhase
  refine ⟨fun s hp hd => ?_, fun s x hp hchecked hc => ?_⟩
  · have hlevel : (s.setFilter .svc (s.filter .svc).fill).level .svc = (s.filter .svc).raw := rfl
    refine ⟨_, exec_strapFill hp hd, by simpa [State.level, State.filter] using hlevel, by simp, by simp,
      by simp [afterStrap_cause], by simp, by simp, by simp, fun h => ?_, fun h hv => ?_, fun h hv => ?_⟩
    · rw [afterStrap_on (hlevel.trans h)]
      obtain ⟨hphase, hlock, hworking, -, haddress⟩ := enterService_spec (s.setFilter .svc (s.filter .svc).fill)
      exact ⟨hphase, hlock, by simp [State.enterService], by simp [State.enterService], hworking, haddress⟩
    · rw [afterStrap_fault (hlevel.trans h) hv]
      obtain ⟨hphase, hcode, haddress, -⟩ := enterConfigFault_spec (s := s.setFilter .svc (s.filter .svc).fill) hv
      exact ⟨hphase, hcode, haddress, by simp [State.enterConfigFault], by simp [State.enterConfigFault]⟩
    · have hnormal := strapFill_normal (s := s.setFilter .svc (s.filter .svc).fill) hp (hlevel.trans h) hv
      simpa [continuousComparators_eq, State.isFoam] using hnormal
  · have hhead := firstTaken_headerHigh x hc
    obtain ⟨hboot, htimer, hbackoff⟩ := (s.firstTaken x).firstHazard.enterJoining_spec
    have hlevel := firstHazard_level (s := s.firstTaken x) (by
      simpa [State.isFoam] using firstTaken_cmp x hc)
    refine ⟨_, exec_stationSample_first x hp hchecked, ?_, ?_, ?_, ?_, ?_, ?_, ⟨?_, ?_⟩, firstSample_reports x⟩
    · simpa [firstSample_eq] using hboot
    · simpa [firstSample_eq] using htimer
    · simpa [firstSample_eq, hhead] using hbackoff
    · simp [firstSample_eq]
    · simp [firstSample_eq]
    · simp [firstSample_eq]
    · simpa [firstSample_eq] using hlevel
    · simpa [firstSample_eq] using hhead

end Sys2Proof.Machine
end

section
/-! PROOF. The commit of a record and the supply monitor (O59): the beginning of a commit, its verify with either
outcome, the supply below each threshold, and the supply in the start hold. -/

namespace Sys2Proof.Machine

/-! ### The beginning of a commit (R169) -/

section
variable {s t : State}

theorem State.commitAllowed_iff (s : State) : s.commitAllowed = true ↔ s.working = true ∧ s.rs.commit = none
    ∧ s.rs.supplyLow = false ∧ s.rs.fault = false ∧ slotState s.nv.slots s.rs.writePosition ≠ .held := by
  simp [State.commitAllowed, and_assoc]

theorem exec_commitBegin {k : Key} {rest : List Key} {a : Account} (hq : s.rs.commitQueue = k :: rest)
    (ha : s.accountFor k = some a) (h : s.commitAllowed = true) :
    exec .commitBegin s = .next (s.setRs { s.rs with commit := some (s.newCommit k a) }).sequenceTaken := by
  simp [exec, execCommitBegin, hq, ha, h]

theorem exec_commitBegin_idle (h : s.commitAllowed = false) : exec .commitBegin s = .next s := by
  cases hq : s.rs.commitQueue with
  | nil => simp [exec, execCommitBegin, hq]
  | cons k rest => cases ha : s.accountFor k <;> simp [exec, execCommitBegin, hq, ha, h]

/-- Below the last sequence of all the next record carries the next one, and no free value is read (R3). -/
theorem sequence_below (h : s.rs.lastSequence < 4294967295) (k : Key) (a : Account) :
    s.newCommit k a =
      { key := k, slot := s.rs.writePosition, sequence := s.rs.lastSequence + 1
        bytes := recordBytes { a with sequence := some (s.rs.lastSequence + 1) } }
    ∧ (s.setRs { s.rs with commit := some (s.newCommit k a) }).sequenceTaken =
      s.setRs { s.rs with commit := some (s.newCommit k a) } := by
  simp [State.newCommit, State.nextSequence, State.sequenceTaken, h]

/-! ### The slot of a commit (R168, R169) -/

/-- The 64 bytes of a slot written, and no other byte changed (R168). -/
theorem State.readCell_writeSlot (hs : s.cellsOk) (n : Nat) {bs : List Byte} (hlen : bs.length = 64) (a : Nat) :
    readCell (s.writeSlot n bs).nv.slots a =
      if 64 * n ≤ a ∧ a < 64 * n + 64 then bs.getD (a - 64 * n) 0 else readCell s.nv.slots a := by
  have hslots : (s.writeSlot n bs).nv.slots = writeCells s.nv.slots (64 * n) bs := by
    simp [State.writeSlot, List.take_of_length_le hlen.le]
  rw [hslots]
  split
  next hin =>
    obtain ⟨i, rfl⟩ := Nat.exists_eq_add_of_le hin.1
    rw [readCell_writeCells_same _ _ _ _ hs (by omega), Nat.add_sub_cancel_left]
  next hout => exact readCell_writeCells_other _ _ _ _ (by omega)

/-! ### The CERTIFICATE in the transmit queue (R163) -/

/-- The line is left alone, or a CLAIM has been sent on it. -/
def ClaimsAtMost (s t : State) : Prop :=
  t.li = s.li ∨ ∃ (u : State) (r : Route) (c : ClaimClass), u.li = s.li ∧ t.li = (u.raiseClaim r c).li

theorem ClaimsAtMost.of_li (h : t.li = s.li) : ClaimsAtMost s t := .inl h

theorem ClaimsAtMost.after {u : State} (h : ClaimsAtMost s t) (hu : u.li = t.li) : ClaimsAtMost s u := by
  unfold ClaimsAtMost at h ⊢
  rwa [hu]

theorem ClaimsAtMost.raiseClaim (h : t.li = s.li) (r : Route) (c : ClaimClass) :
    ClaimsAtMost s (t.raiseClaim r c) :=
  .inr ⟨t, r, c, h, rfl⟩

theorem endClassify_claims (h : t.li = s.li) : ClaimsAtMost s t.endClassify := by
  unfold State.endClassify
  refine .raiseClaim ?_ _ _
  dsimp only [State.setSq_li]
  split <;> simpa using h

theorem enterE5_claims (h : t.li = s.li) : ClaimsAtMost s t.enterE5 := by
  unfold State.enterE5
  dsimp only
  split
  · exact .raiseClaim (by simpa using h) _ _
  · exact .of_li (by simpa using h)

/-- What SQ follows at an EXTRACTION station leaves the line, but for the CLAIM it may raise. -/
theorem settleExtraction_claims (s : State) : ClaimsAtMost s s.settleExtraction := by
  unfold State.settleExtraction
  have starve (t : State) (h : ClaimsAtMost s t) : ClaimsAtMost s t.settleStarve := h.after (by simp)
  apply starve
  split
  · exact .of_li (by simp)
  · exact .of_li (by simp)
  · unfold State.settleE3
    dsimp only
    split
    · exact endClassify_claims rfl
    · exact .of_li rfl
  · unfold State.settleE4
    split
    · have entered : ClaimsAtMost s (s.setSq { s.sq with starve := Timer.stopped }).enterE5 := enterE5_claims rfl
      exact entered.after (by simp)
    · exact .of_li rfl
  all_goals exact .of_li (by simp)

/-- A telegram that waits among at most five still waits at the end of the step. -/
theorem State.waits_conclude (hf : s.isFoam = false) {k : Kind} {dst : Nat} {p : List Byte} (hw : s.waits k dst p)
    (hk : k ≠ .status) (hp : k ≠ .purgeCall) (hl : s.li.queue.length ≤ 5) (old : State) :
    (s.conclude old).waits k dst p := by
  have hroom : s.li.room = true := Line.room_of_length (by omega)
  have hsettled : s.settleExtraction.waits k dst p ∧ s.settleExtraction.li.room = true := by
    unfold State.waits at hw ⊢
    obtain hli | ⟨u, r, c, hu, hli⟩ := settleExtraction_claims s
    · rw [hli]
      exact ⟨hw, hroom⟩
    · rw [hli]
      rw [← hu] at hw hroom hl
      exact ⟨State.waits_raiseClaim hw hk hp hroom r c, (State.raiseClaim_waits r c hl).2⟩
  obtain ⟨⟨m, hm, hmk, hrest⟩, hplace⟩ := hsettled
  rw [State.conclude_extraction hf]
  exact ⟨m, State.mem_announceIf hm (by rwa [hmk]) (.inl hplace) _ _, hmk, hrest⟩

/-! ### The verify of a commit (R169) -/

theorem exec_commitVerify {c : Commit} (hc : s.rs.commit = some c) (bs : List Byte) : exec (.commitVerify bs) s =
    .next ((if bs = c.bytes then s.commitDone c else s.commitFailed c bs).conclude s) := by
  simp [exec, execCommitVerify, hc]

/-- The record store after a verified commit. -/
theorem commitDone_spec (c : Commit) : (s.commitDone c).nv = (s.writeSlot c.slot c.bytes).nv
    ∧ (s.commitDone c).rs.commit = none ∧ (s.commitDone c).rs.lastSequence = c.sequence
    ∧ (s.commitDone c).rs.writePosition = (s.rs.writePosition + 1) % 1024
    ∧ (s.commitDone c).rs.full =
        (slotState (s.commitDone c).nv.slots (s.commitDone c).rs.writePosition == .held || s.rs.fault)
    ∧ (s.commitDone c).rs.commitQueue = s.rs.commitQueue.tail := by
  simp [State.commitDone, slotCount]

/-- The account of a verified commit leaves its list (R7, R11, R22). -/
theorem commitDone_lists (c : Commit) :
    (s.commitDone c).queueWork = (s.queueWork.filter fun w => !(w.1 == c.key && w.2.1 == .closing))
    ∧ (s.commitDone c).ac.chamber = s.ac.chamber.filter fun e => !(e.account.key == c.key && e.st == .closed) := by
  constructor
  · simp only [State.queueWork, List.filter_map]
    simp [State.commitDone, State.leaveLists, Function.comp_def, QueueEntry.work]
  · simp [State.commitDone, State.leaveLists]

/-- The CERTIFICATE of a verified commit waits (R169). -/
theorem commitDone_waits (c : Commit) (h : s.li.queue.length ≤ 4) :
    (s.commitDone c).waits .certificate 31 (c.bytes.take 48) ∧ (s.commitDone c).li.queue.length ≤ 5 := by
  have hroom : s.li.room = true := Line.room_of_length (by omega)
  have hli : (s.commitDone c).li = (s.send .certificate 31 (c.bytes.take 48)).li := by
    simp [State.commitDone, State.send]
  have hlen := State.send_length_le (s := s) (k := .certificate) (by decide) hroom 31 (c.bytes.take 48)
  have hwaits : (s.send .certificate 31 (c.bytes.take 48)).waits .certificate 31 (c.bytes.take 48) :=
    ⟨_, Line.mem_enqueue_self (by simp) (by simp) (by simp) (.inl hroom), rfl, rfl, rfl⟩
  unfold State.waits at hwaits ⊢
  rw [hli]
  exact ⟨hwaits, by omega⟩

/-- A mismatch leaves a store fault, the code of which keeps DE clear (R144, R169). -/
theorem commitFailed_spec (c : Commit) (bs : List Byte) : (s.commitFailed c bs).nv = (s.writeSlot c.slot bs).nv
    ∧ (s.commitFailed c bs).rs = { s.rs with commit := none, fault := true, full := true }
    ∧ 65 ∈ (s.commitFailed c bs).pu.codes ∧ (s.commitFailed c bs).ac = s.ac := by
  simp [State.commitFailed, mem_insertCode]

/-- A code other than those SQ raises stands at the end of the step that raises it, and DE agrees with the set. -/
theorem conclude_addCode (s : State) {n : Nat} (hn : n ∉ reactionCodes) (old : State) :
    n ∈ ((s.addCode n).conclude old).pu.codes
    ∧ ((s.addCode n).conclude old).pu.de = ((s.addCode n).conclude old).driveRule := by
  obtain ⟨codes, de⟩ := (s.addCode n).conclude_pu old
  exact ⟨(codes n hn).mpr (by simp [mem_insertCode]), de (s.addCode_de n)⟩

theorem driveRule_of_fatal {n : Nat} (hn : n ∈ s.pu.codes) (hfatal : isFatal n = true) : s.driveRule = false := by
  rw [State.driveRule, Bool.and_eq_false_iff]
  exact .inr (List.all_eq_false.mpr ⟨n, hn, by simp [hfatal]⟩)

/-- With a carry-over above 0 the end of a step leaves the commit queue and the chamber list, the carry-over timers
apart, at a station of either role (R96, log 15). -/
theorem conclude_lists (hc : s.cfg.carryOver ≠ 0) (old : State) :
    (s.conclude old).rs.commitQueue = s.rs.commitQueue ∧ (s.conclude old).chamberWork = s.chamberWork := by
  cases hf : s.isFoam with
  | true =>
    obtain ⟨hwork, hrs⟩ := conclude_chamberWork hf hc old
    exact ⟨by rw [hrs], hwork⟩
  | false => simp [State.conclude_extraction hf, State.chamberWork]

/-- The end of a verified commit. -/
theorem commitDone_concludes (c : Commit) :
    ((s.commitDone c).conclude s).rs.lastSequence = c.sequence
    ∧ ((s.commitDone c).conclude s).rs.writePosition = (s.rs.writePosition + 1) % 1024
    ∧ ((s.commitDone c).conclude s).rs.full = (slotState ((s.commitDone c).conclude s).nv.slots
        ((s.commitDone c).conclude s).rs.writePosition == .held || s.rs.fault)
    ∧ (s.isFoam = false → s.li.queue.length ≤ 4 →
        ((s.commitDone c).conclude s).waits .certificate 31 (c.bytes.take 48))
    ∧ ((s.commitDone c).conclude s).queueWork
        = (s.queueWork.filter fun w => !(w.1 == c.key && w.2.1 == .closing))
    ∧ (s.cfg.carryOver ≠ 0 → ((s.commitDone c).conclude s).rs.commitQueue = s.rs.commitQueue.tail
        ∧ ((s.commitDone c).conclude s).chamberWork = (s.ac.chamber.filter fun e =>
            !(e.account.key == c.key && e.st == .closed)).map fun e => (e.account, e.st, e.accF)) := by
  obtain ⟨-, -, hlast, hposition, hfull, hqueue⟩ := commitDone_spec (s := s) c
  obtain ⟨hwork, hchamber⟩ := commitDone_lists (s := s) c
  refine ⟨by simp [hlast], by simp [hposition], by simp [hfull], fun hf hl => ?_,
    (State.conclude_work _ s).trans hwork, fun hcarry => ?_⟩
  · obtain ⟨hwaits, hlen⟩ := commitDone_waits c hl
    exact State.waits_conclude (by simpa [State.isFoam] using hf) hwaits (by decide) (by decide) hlen s
  · obtain ⟨hcommits, hlist⟩ := conclude_lists (s := s.commitDone c) (by simpa using hcarry) s
    exact ⟨hcommits.trans hqueue, by rw [hlist, State.chamberWork, hchamber]⟩

/-- The end of a commit whose verify finds a mismatch. -/
theorem commitFailed_concludes (c : Commit) (bs : List Byte) :
    ((s.commitFailed c bs).conclude s).rs.fault = true ∧ ((s.commitFailed c bs).conclude s).rs.full = true
    ∧ 65 ∈ ((s.commitFailed c bs).conclude s).pu.codes ∧ ((s.commitFailed c bs).conclude s).pu.de = false
    ∧ ((s.commitFailed c bs).conclude s).rs.lastSequence = s.rs.lastSequence
    ∧ ((s.commitFailed c bs).conclude s).rs.writePosition = s.rs.writePosition
    ∧ ((s.commitFailed c bs).conclude s).queueWork = s.queueWork := by
  obtain ⟨-, hrs, -, hac⟩ := commitFailed_spec (s := s) c bs
  obtain ⟨hcode, hde⟩ := conclude_addCode ((s.writeSlot c.slot bs).setRs
    { s.rs with commit := none, fault := true, full := true }) (n := 65) (by decide) s
  exact ⟨by simp [hrs], by simp [hrs], hcode, hde.trans (driveRule_of_fatal hcode rfl), by simp [hrs], by simp [hrs],
    (State.conclude_work _ s).trans (State.queueWork_congr (by rw [hac]))⟩

/-! ### The supply (R170) -/

theorem exec_supplyWarning (hp : s.phase ≠ .hold) (hlow : s.rs.supplyLow = false) {d : Nat}
    (hd : d < s.cfg.supplyWarning) (hreset : 180 ≤ d) :
    exec (.supplyWarning d) s = .next (s.warnSupply.conclude s) := by
  simp [exec, execSupplyWarning, hp, State.supplyFalls, hlow, hd, resetThreshold, hreset]

theorem abortCommit_spec (s : State) : s.abortCommit.rs.commit = none
    ∧ (s.rs.commit ≠ none → 31 ∈ s.abortCommit.pu.codes) := by
  cases h : s.rs.commit <;> simp [State.abortCommit, h, mem_insertCode]

theorem cutBlockWrite_spec (s : State) : s.cutBlockWrite.rs.blockWrite = none
    ∧ s.cutBlockWrite.nv.slots = s.nv.slots ∧ (s.rs.blockWrite = none → s.cutBlockWrite = s) := by
  cases h : s.rs.blockWrite with
  | none => simp [State.cutBlockWrite, h]
  | some w =>
    obtain ⟨hnv, hrs⟩ := endBlockWrite_spec (s := s) w (cutBlock s.free) false
    simp [State.cutBlockWrite, h, State.nextFree, hnv, hrs]

/-- Supply low aborts the commit and the block write, and leaves the slots (R170, R177). -/
theorem warnSupply_spec (s : State) : s.warnSupply.rs.supplyLow = true ∧ s.warnSupply.rs.commit = none
    ∧ s.warnSupply.rs.blockWrite = none ∧ s.warnSupply.nv.slots = s.nv.slots
    ∧ (s.rs.commit ≠ none → 31 ∈ s.warnSupply.pu.codes) ∧ (s.rs.blockWrite = none → s.warnSupply.nv = s.nv) := by
  obtain ⟨hcommit, hcode⟩ := abortCommit_spec (s.setRs { s.rs with supplyLow := true })
  obtain ⟨hblock, hslots, hkept⟩ := cutBlockWrite_spec (s.setRs { s.rs with supplyLow := true }).abortCommit
  refine ⟨by simp [State.warnSupply], by simp [State.warnSupply, hcommit], hblock, hslots.trans (by simp),
    fun h => by simpa [State.warnSupply] using hcode h, fun h => ?_⟩
  rw [State.warnSupply, hkept (by simpa using h)]
  simp

theorem exec_supplyWarningEnd (hp : s.phase ≠ .hold) (hlow : s.rs.supplyLow = true) {d : Nat}
    (hd : s.cfg.supplyWarning + 5 ≤ d) :
    exec (.supplyWarningEnd d) s = .next ((s.setRs { s.rs with supplyLow := false }).conclude s) := by
  simp [exec, execSupplyWarningEnd, hp, hlow, hd]

theorem exec_supplyWarningEnd_idle (hp : s.phase ≠ .hold) {d : Nat}
    (h : s.rs.supplyLow = false ∨ d < s.cfg.supplyWarning + 5) : exec (.supplyWarningEnd d) s = .next s := by
  have hstays : ¬(s.rs.supplyLow = true ∧ s.cfg.supplyWarning + 5 ≤ d) := by
    rintro ⟨hlow, hd⟩
    rcases h with h | h
    · simp [h] at hlow
    · omega
  simp [exec, execSupplyWarningEnd, hp, hstays]

/-- In the hold the supply monitor watches the reset threshold alone. -/
theorem exec_supply_hold (hp : s.phase = .hold) (d : Nat) :
    exec (.supplyWarning d) s = .next (s.findSupply d) ∧ exec (.supplyWarningEnd d) s = .next (s.findSupply d) := by
  simp [exec, execSupplyWarning, execSupplyWarningEnd, hp]

/-- The state in which the supply below the reset threshold finds the part. -/
def State.warned (s : State) (d : Nat) : State := if s.supplyFalls d then s.warnSupply else s

theorem exec_supplyWarning_reset (hp : s.phase ≠ .hold) {d : Nat} (hd : d < 180) :
    exec (.supplyWarning d) s = .next (((s.warned d).enterHold .supply).findSupply d) := by
  simp [exec, execSupplyWarning, hp, State.warned, resetThreshold, hd]

@[simp] theorem State.warned_pending (s : State) (d : Nat) : (s.warned d).pending = s.pending := by
  unfold State.warned State.warnSupply
  split <;> simp

/-- A supply below the reset threshold holds the part in start. -/
theorem warned_held (s : State) {d : Nat} (hd : d < 180) : ((s.warned d).enterHold .supply).findSupply d =
    { boot := { phase := .hold, cause := .supply }, rs := { supplyBelow := true }
      nv := ((s.warned d).enterHold .supply).nv, free := ((s.warned d).enterHold .supply).free
      pending := s.pending } := by
  rw [State.enterHold_eq]
  simp [State.findSupply, State.setRs, resetThreshold, hd]

/-- STARTING does not end the hold while the supply is known below the reset threshold (R170). -/
theorem exec_starting_supplyBelow (h : s.rs.supplyBelow = true) : exec .starting s = .next s := by
  simp [exec, execStarting, h]

end

/-! ### The obligation -/

/-- Settles O59: each command by its equation, the state at the end of the step by what the command leaves. -/
theorem commitWritesTheRecord : Obligations.CommitWritesTheRecord := by
  intro s
  refine ⟨fun k rest a hq ha hw hcommit hlow hfault hslot hlast => ?_, fun h => exec_commitBegin_idle ?_,
    fun c bs hc hcl hbl hs => ⟨_, exec_commitVerify hc bs, ?_⟩,
    fun d hp hlow hd hreset => ⟨_, exec_supplyWarning hp hlow hd hreset, ?_⟩,
    fun d hp hlow hd => ⟨_, exec_supplyWarningEnd hp hlow hd, by simp⟩, fun d hp h => exec_supplyWarningEnd_idle hp h,
    fun d hp hd => ⟨_, exec_supplyWarning_reset hp hd, ?_⟩, fun d hp => exec_supply_hold hp d⟩
  · obtain ⟨hnew, hseq⟩ := sequence_below hlast k a
    rw [exec_commitBegin hq ha ((State.commitAllowed_iff s).mpr ⟨hw, hcommit, hlow, hfault, hslot⟩), hseq, hnew]
    rfl
  · rw [← Bool.not_eq_true, State.commitAllowed_iff]
    rintro ⟨-, hcommit, hlow, hfault, hslot⟩
    simp [hcommit, hlow, hfault, hslot] at h
  · by_cases hb : bs = c.bytes
    · subst hb
      obtain ⟨hnv, hcommit, -⟩ := commitDone_spec (s := s) c
      simp only [if_true]
      exact ⟨by simp [hcommit], fun a => by simpa [hnv] using State.readCell_writeSlot hs c.slot hcl a,
        fun _ => commitDone_concludes c, fun h => absurd rfl h⟩
    · obtain ⟨hnv, hrs, -⟩ := commitFailed_spec (s := s) c bs
      simp only [if_neg hb]
      exact ⟨by simp [hrs], fun a => by simpa [hnv] using State.readCell_writeSlot hs c.slot hbl a,
        fun h => absurd h hb, fun _ => commitFailed_concludes c bs⟩
  · obtain ⟨hlow', hcommit, hblock, hslots, hcode, hnv⟩ := warnSupply_spec s
    exact ⟨by simp [hlow'], by simp [hcommit], by simp [hblock],
      fun h => ((s.warnSupply.conclude_pu s).codes 31 (by decide)).mpr (hcode h), by simp [hslots],
      fun h => by simp [hnv h]⟩
  · refine ⟨warned_held s hd, State.outputs_hold rfl, fun hlow hwarn => ?_, exec_starting_supplyBelow (by
      simp [State.findSupply, resetThreshold, hd])⟩
    obtain ⟨-, hcommit, -, hslots, -⟩ := warnSupply_spec s
    have hwarned : s.warned d = s.warnSupply := by simp [State.warned, State.supplyFalls, hlow, hwarn]
    obtain ⟨-, -, hkept, -⟩ := State.enterHold_nv s.warnSupply .supply
    exact (congrArg (fun u : State => (u.enterHold .supply).nv.slots) hwarned).trans ((hkept hcommit).trans hslots)

end Sys2Proof.Machine
end

section
/-! PROOF. The gateway's reads (O57): the slot that holds a sequence, then one equation per request over the state that
has taken note of the sender, and the answer that waits. -/

namespace Sys2Proof.Machine

/-! ### The slot that holds a sequence (R171) -/

/-- A slot other than that of a commit in progress holds the record of a sequence (R171, log 16). -/
def State.stores (s : State) (n seq : Nat) : Prop :=
  n < 1024 ∧ slotState s.nv.slots n ≠ .empty ∧ slotSequence s.nv.slots n = seq
    ∧ ∀ c, s.rs.commit = some c → c.slot ≠ n

/-- READ DATA waits with the record of a sequence as `s` stores it, or ABSENT with the sequence (R171, R180). -/
def State.readAnswered (s t : State) (dst seq : Nat) : Prop :=
  ((∃ n, s.stores n seq) →
    ∃ n, s.stores n seq ∧ t.waits .readData dst (recordBody (slotBytes s.nv.slots n)))
  ∧ ((¬∃ n, s.stores n seq) → t.waits .readData dst (be32 seq))

section
variable {s : State} {n seq : Nat}

/-- The records among which READ looks for a sequence are those stored outside a commit's slot. -/
theorem State.stores_iff : s.stores n seq ↔ ∃ r ∈ records s.nv.slots,
    (r.2 == seq && !(s.rs.commit.any fun c => c.slot == r.1)) = true ∧ r.1 = n := by
  have hcommit : (!(s.rs.commit.any fun c => c.slot == n)) = true ↔ ∀ c, s.rs.commit = some c → c.slot ≠ n := by
    cases s.rs.commit <;> simp
  constructor
  · rintro ⟨hn, hst, hseq, hfree⟩
    exact ⟨(n, seq), mem_records.mpr ⟨hn, hst, hseq⟩, by simpa using hcommit.mpr hfree, rfl⟩
  · rintro ⟨r, hr, htest, rfl⟩
    obtain ⟨hn, hst, hseq⟩ := mem_records.mp hr
    obtain ⟨hsame, hfree⟩ := Bool.and_eq_true_iff.mp htest
    exact ⟨hn, hst, hseq.trans (beq_iff_eq.mp hsame), hcommit.mp hfree⟩

theorem State.stores_of_slotOf (h : s.slotOf seq = some n) : s.stores n seq := by
  obtain ⟨r, hr, rfl⟩ := Option.map_eq_some_iff.mp h
  have htest := List.find?_some hr
  exact State.stores_iff.mpr ⟨r, List.mem_of_find?_eq_some hr, htest, rfl⟩

theorem State.slotOf_eq_none_iff : s.slotOf seq = none ↔ ¬∃ n, s.stores n seq := by
  simp only [State.slotOf, Option.map_eq_none_iff, List.find?_eq_none, State.stores_iff]
  exact ⟨fun h ⟨_, r, hr, htest, _⟩ => h r hr htest, fun h r hr htest => h ⟨_, r, hr, htest, rfl⟩⟩

theorem State.slotOf_some (h : ∃ n, s.stores n seq) : ∃ n, s.slotOf seq = some n :=
  Option.ne_none_iff_exists'.mp fun hnone => State.slotOf_eq_none_iff.mp hnone h

@[simp] theorem State.noted_stores (s : State) (f : Frame) (n seq : Nat) :
    (s.noted f).stores n seq ↔ s.stores n seq := by
  simp [State.stores]

@[simp] theorem State.noted_readAnswered (s t : State) (f : Frame) (dst seq : Nat) :
    (s.noted f).readAnswered t dst seq ↔ s.readAnswered t dst seq := by
  simp [State.readAnswered]

end

/-! ### The answers (R179) -/

/-- With a place free a READ DATA or a CHECK RESULT waits. -/
theorem State.send_waits {s : State} (h : s.li.room = true) {k : Kind} (hk : k = .readData ∨ k = .checkResult)
    (dst : Nat) (p : List Byte) : (s.send k dst p).waits k dst p := by
  obtain ⟨status, clear, purgeEnd⟩ : k ≠ .status ∧ k ≠ .purgeClear ∧ k ≠ .purgeEnd := by
    obtain rfl | rfl := hk <;> decide
  exact ⟨_, Line.mem_enqueue_self status clear purgeEnd (.inl h), rfl, rfl, rfl⟩

theorem State.answerRead_eq (v : State) (a seq : Nat) :
    v.answerRead a seq = { v with li := (v.answerRead a seq).li } := by
  unfold State.answerRead
  split <;> rfl

/-- READ DATA gives the record of the slot that holds the sequence, or ABSENT (R171). -/
theorem State.answerRead_readAnswered (v : State) (hroom : v.li.room = true) (a seq : Nat) :
    v.readAnswered (v.answerRead a seq) a seq := by
  unfold State.answerRead
  cases hslot : v.slotOf seq with
  | none =>
    have hnone := State.slotOf_eq_none_iff.mp hslot
    exact ⟨fun h => absurd h hnone, fun _ => State.send_waits hroom (.inl rfl) a _⟩
  | some n =>
    have hn := State.stores_of_slotOf hslot
    exact ⟨fun _ => ⟨n, hn, State.send_waits hroom (.inl rfl) a _⟩, fun h => absurd ⟨n, hn⟩ h⟩

/-- The read pointer has no part in the answer. -/
theorem State.setPointer_readAnswered (v : State) (hroom : v.li.room = true) (q : Option Nat) (a seq : Nat) :
    v.readAnswered ((v.setPointer q).answerRead a seq) a seq :=
  State.answerRead_readAnswered (v.setPointer q) hroom a seq

/-! ### The requests (R171, R173) -/

section
variable {s : State} {f : Frame}

theorem exec_read (h : s.takes .read f = true) : exec (.read f) s =
    .next (((s.noted f).setPointer (some (full f.payload 0))).answerRead f.src.toNat (full f.payload 0)) := by
  simp [exec, execRead, State.hearKind_of_takes h]

theorem exec_readNext_unset (h : s.takes .readNext f = true) (hp : s.rs.readPointer = none) :
    exec (.readNext f) s = .next ((s.noted f).send .readData f.src.toNat [0, 0, 0, 0]) := by
  simp only [exec, execReadNext, State.hearKind_of_takes h, State.noted_frame, hp]
  rfl

theorem exec_readNext_set {p : Nat} (h : s.takes .readNext f = true) (hp : s.rs.readPointer = some p) :
    exec (.readNext f) s = .next ((s.noted f).readAbove f.src.toNat p) := by
  simp [exec, execReadNext, State.hearKind_of_takes h, hp]

/-- The pointer moves to the sequence above it when a slot holds that sequence. -/
theorem State.readAbove_stored {p : Nat} (hp : p < 4294967295) (a : Nat) (h : ∃ n, s.stores n (p + 1)) :
    s.readAbove a p = (s.setPointer (some (p + 1))).answerRead a (p + 1) := by
  obtain ⟨n, hn⟩ := State.slotOf_some h
  simp [State.readAbove, hp, hn]

theorem State.readAbove_absent {p : Nat} (hp : p < 4294967295) (a : Nat) (h : ¬∃ n, s.stores n (p + 1)) :
    s.readAbove a p = s.answerRead a (p + 1) := by
  simp [State.readAbove, hp, State.slotOf_eq_none_iff.mpr h]

theorem exec_checkRange (h : s.takes .checkRange f = true) : exec (.checkRange f) s =
    .next ((s.noted f).send .checkResult f.src.toNat
      ((s.noted f).rangeAnswer (half f.payload 0) (half f.payload 2))) := by
  simp [exec, execCheckRange, State.hearKind_of_takes h]

theorem State.rangeAnswer_beyond {first : Nat} (h : 1023 < first) (count : Nat) :
    s.rangeAnswer first count = [1] ++ be16 first ++ [0, 0, 0, 0] := by
  simp [State.rangeAnswer, h, be16]

/-- Outside a commit the check word is that of the stored bytes (R173). -/
theorem State.rangeAnswer_stored {first : Nat} (h : first ≤ 1023) (hc : s.rs.commit = none) (count : Nat) :
    s.rangeAnswer first count = [0] ++ be16 first ++ be16 (rangeCount first count) ++
      be16 (checkWord ((List.range (rangeCount first count)).flatMap fun i =>
        slotBytes s.nv.slots (first + i))) := by
  simp [State.rangeAnswer, Nat.not_lt.mpr h, State.checkedBytes, hc]

end

/-- READ NEXT with a pointer below the last sequence: the answer, and what becomes of the pointer (R171). -/
theorem State.readAbove_spec (v : State) (hroom : v.li.room = true) (a : Nat) {p : Nat} (hp : p < 4294967295) :
    v.readAnswered (v.readAbove a p) a (p + 1)
    ∧ ((∃ n, v.stores n (p + 1)) → v.readAbove a p =
        { v with li := (v.readAbove a p).li, rs := { v.rs with readPointer := some (p + 1) } })
    ∧ ((¬∃ n, v.stores n (p + 1)) → v.readAbove a p = { v with li := (v.readAbove a p).li }) := by
  by_cases h : ∃ n, v.stores n (p + 1)
  · rw [State.readAbove_stored hp a h]
    exact ⟨v.setPointer_readAnswered hroom _ a _, fun _ => State.answerRead_eq _ a _,
      fun hno => absurd h hno⟩
  · rw [State.readAbove_absent hp a h]
    exact ⟨v.answerRead_readAnswered hroom a _, fun hyes => absurd hyes h,
      fun _ => State.answerRead_eq _ a _⟩

/-! ### The obligation -/

/-- Settles O57: each request by its equation, its answer by the slot that holds the sequence or by the bytes of the
range. -/
theorem readsAnswerFromTheStore : Obligations.ReadsAnswerFromTheStore := by
  intro s f hroom
  refine ⟨fun h => ⟨_, exec_read h, State.answerRead_eq _ _ _, ?_⟩, fun h => ?_,
    fun h => ⟨_, exec_checkRange h, rfl, fun hfirst => ?_, fun hfirst hc => ?_⟩⟩
  · exact (s.noted_readAnswered _ f _ _).mp ((s.noted f).setPointer_readAnswered hroom _ _ _)
  · cases hp : s.rs.readPointer with
    | none =>
      exact ⟨_, exec_readNext_unset h hp, fun _ => ⟨rfl, State.send_waits hroom (.inl rfl) _ _⟩, nofun⟩
    | some p =>
      refine ⟨_, exec_readNext_set h hp, nofun, fun q hq hlast => ?_⟩
      obtain rfl : p = q := Option.some.inj hq
      have hspec := (s.noted f).readAbove_spec hroom f.src.toNat hlast
      simp only [State.noted_readAnswered, State.noted_stores] at hspec
      exact hspec
  · rw [State.rangeAnswer_beyond hfirst]
    exact State.send_waits hroom (.inr rfl) _ _
  · have hanswer := State.rangeAnswer_stored (s := s.noted f) hfirst (by simpa using hc) (half f.payload 2)
    have hnv : (s.noted f).nv = s.nv := by simp
    rw [hanswer, hnv]
    exact State.send_waits hroom (.inr rfl) _ _

end Sys2Proof.Machine
end

section
/-! PROOF. The step and the queue of waiting commands (O1). -/

namespace Sys2Proof.Machine

/-- A waiting command is taken off the queue before it runs (log 1: first in, first out). -/
theorem step_of_pending_cons {s : State} {c : Instr} {rest : List Instr} (hqueue : s.pending = c :: rest) :
    step s = exec c (s.setPending rest) := by
  simp only [step, hqueue]

/-- Settles O1: taking the front command off replaces the queue and nothing else, by the definition of `setPending`. -/
theorem stepRunsFrontCommand : Obligations.StepRunsFrontCommand := by
  intro c rest s hqueue
  calc step s = exec c (s.setPending rest) := step_of_pending_cons hqueue
    _ = exec c { s with pending := rest } := by rw [State.setPending]

end Sys2Proof.Machine
end
